-- ==== Sys2Proof/Syntax.lean ====
section
/-! DEFINITION. The commands of the block: one constructor for each row of spec/opcode_table.json, with the operands
that the row's rule needs. The table gives no row any bits or fields; what a command carries is what the outside brings
(who asks, what the pins carry, what arrives on a wire) and the hardware side of the same cycle. -/

namespace Sys2Proof

/-- The hardware side of the cycle of a software register write (02 R38, R40): `set` the HS bits hardware sets, `inc`
the CI counters it increments (a 1 at a counter's lowest bit), `upd` the value it would write to an HU field, `level`
the levels of the LV fields, `done` the GO bits whose operations complete, `xfer` whether the cycle is the block's
transfer cycle. -/
structure Cyc where
  set : Word
  inc : Word
  upd : Option Word
  level : Option Word
  done : Word
  xfer : Bool
  deriving DecidableEq, Repr

/-- A cycle in which hardware does nothing to the register. -/
def Cyc.quiet : Cyc := ⟨0#32, 0#32, none, none, 0#32, false⟩

/-- A request that a master presents (05 R166 to R178): `beats` of 16 bytes where more than one, else one access of `size`
bytes; `data` the bytes of a write. -/
structure MReq where
  master : Fin 12
  id : Nat
  addr : Nat
  write : Bool
  size : Nat
  beats : Nat
  data : List Byte
  lock : Bool
  unlock : Bool
  deriving DecidableEq, Repr

/-- How an I2C transfer ends (18 R640, R641): result 0 OK, 1 ANACK, 2 DNACK, 3 ARBLOST, 4 TIMEOUT, 5 BUSERR; the bytes
completed; the bytes received. -/
structure I2cEnd where
  result : Fin 6
  count : Nat
  received : List Byte
  deriving DecidableEq, Repr

/-- A CAN frame: identifier value (11 or 29 bits), RTR, FDF, BRS, ESI, DLC and data (18 R620, the element table). -/
structure CanFrame where
  ide : Bool
  id : Nat
  rtr : Bool
  fdf : Bool
  brs : Bool
  esi : Bool
  dlc : Nat
  data : List Byte
  deriving DecidableEq, Repr


/-- A packet of the link (17 R591): type, destination, source, tag, fragment, whether it is the last fragment, payload, and
whether its CRC is good where it was received. -/
structure LPkt where
  kind : Nat
  dst : Nat
  src : Nat
  tag : Nat
  frag : Nat
  last : Bool
  payload : List Byte
  crcOk : Bool
  deriving DecidableEq, Repr

/-- A superframe of the link (17 R571): the fields of its table, whether HCRC and ACRC are good, the bunting entries (line,
node, landing tick), the audio words of the channels that AVALID names, and its packets. -/
structure SFrame where
  sfn : Nat
  tv : Bool
  bv : Bool
  enm : Bool
  turn : Bool
  ring : Bool
  hops : Nat
  nodes : Nat
  srcId : Nat
  sysTime : Nat
  corr : Nat
  beam : Nat
  beamSeq : Nat
  lrxd : Nat
  blat : Nat
  bunt : List (Nat × Nat × Nat)
  audio : List (Option Int)
  hcrcOk : Bool
  acrcOk : Bool
  packets : List LPkt
  deriving DecidableEq, Repr

/-- An error that the CAN controller meets, by what ISO 11898-1 adds to its counters: a receiver's error (1), a receiver
that sees a dominant bit right after its error flag (8), a transmitter's error flag (8), an acknowledgement error of an
error-passive transmitter (nothing). -/
inductive CanErr where
  | receive | receiveDominant | transmit | passiveAck
  deriving DecidableEq, Repr

/-- What a read of a granule of work memory meets (05 R158 to R160): nothing, a single-bit error, or an uncorrectable one,
each with its syndrome. -/
inductive Ecc where
  | clean | single (syndrome : Nat) | double (syndrome : Nat)
  deriving DecidableEq, Repr

/-- Where a request comes from (04 R103): the safety port, the host port, the mailbox, the debug port, or a node of the link
with the TAG of its packets. -/
inductive EngPort where
  | sp | hp | mb | dp
  | lk (node : Fin 128) (tag : Fin 256)
  deriving DecidableEq, Repr

/-- A request packet (04 R116) that arrived whole and with a good CRC: its port, SEQ, FLAGS and parameters; its OPCODE is
the command's. -/
structure EngReq where
  port : EngPort
  seq : Byte
  flags : Byte
  par : List Byte
  deriving DecidableEq, Repr

/-- The minimum slot that an overdue background task takes (06 R219). -/
inductive BgSlot where
  | patrol (bank : Fin 16) (ecc : Ecc)
  | writeback (port : Fin 4) (ecc : Ecc)
  | refresh (bank : Fin 16)
  | wearMove
  | phy
  | telemetry
  deriving DecidableEq, Repr

/-- The commands: one for each row of spec/opcode_table.json. -/
inductive Instr where
  /-- HELLO (R124). -/
  | hello (req : EngReq)
  /-- SELECT (R125). -/
  | select (req : EngReq)
  /-- STATUS (R147). -/
  | status (req : EngReq)
  /-- RESET_SOFT (R91). -/
  | resetSoft (req : EngReq)
  /-- POWER_STATE (R73). -/
  | powerState (req : EngReq)
  /-- DOMAIN_SET (R62). -/
  | domainSet (req : EngReq)
  /-- RETAIN_SET (R72). -/
  | retainSet (req : EngReq)
  /-- WAKE_CONFIG (R85). -/
  | wakeConfig (req : EngReq)
  /-- DOMAIN_GET (R129). -/
  | domainGet (req : EngReq)
  /-- RUNSET_WRITE (R88). -/
  | runsetWrite (req : EngReq)
  /-- START_POLICY (R95). -/
  | startPolicy (req : EngReq)
  /-- IMAGE_BEGIN (R670). -/
  | imageBegin (req : EngReq)
  /-- IMAGE_DATA (R670). -/
  | imageData (req : EngReq)
  /-- IMAGE_END (R670). -/
  | imageEnd (req : EngReq)
  /-- IMAGE_BOOT_FLASH (R95). -/
  | imageBootFlash (req : EngReq)
  /-- APP_START (R271). -/
  | appStart (req : EngReq)
  /-- APP_STOP (R226). -/
  | appStop (req : EngReq)
  /-- IMAGE_INFO (R670). -/
  | imageInfo (req : EngReq)
  /-- PEN_CELL_SET (R414). -/
  | penCellSet (req : EngReq)
  /-- PEN_CELL_ENABLE (R420). -/
  | penCellEnable (req : EngReq)
  /-- PEN_STORE_WRITE (R423). -/
  | penStoreWrite (req : EngReq)
  /-- PEN_PALETTE_WRITE (R409). -/
  | penPaletteWrite (req : EngReq)
  /-- PEN_MODE (R435). -/
  | penMode (req : EngReq)
  /-- PEN_ALARM_CLEAR (R434). -/
  | penAlarmClear (req : EngReq)
  /-- PEN_GAP_SET (R420). -/
  | penGapSet (req : EngReq)
  /-- SIGTAB_WRITE (R416). -/
  | sigtabWrite (req : EngReq)
  /-- AVAS_CONFIG (R501). -/
  | avasConfig (req : EngReq)
  /-- PEN_STATUS (R436). -/
  | penStatus (req : EngReq)
  /-- GPIO_OWN_SET (R611). -/
  | gpioOwnSet (req : EngReq)
  /-- GPIO_OWN_GET (R129). -/
  | gpioOwnGet (req : EngReq)
  /-- GPIO_WRITE (R612). -/
  | gpioWrite (req : EngReq)
  /-- GPIO_READ (R617). -/
  | gpioRead (req : EngReq)
  /-- LEDGER_CAP_SET (R190). -/
  | ledgerCapSet (req : EngReq)
  /-- LEDGER_QUERY (R205). -/
  | ledgerQuery (req : EngReq)
  /-- LEDGER_SHED_ORDER (R211). -/
  | ledgerShedOrder (req : EngReq)
  /-- LEDGER_COMMIT (R200). -/
  | ledgerCommit (req : EngReq)
  /-- NVM_READ (R649). -/
  | nvmRead (req : EngReq)
  /-- NVM_WRITE (R650). -/
  | nvmWrite (req : EngReq)
  /-- NVM_WEAR (R655). -/
  | nvmWear (req : EngReq)
  /-- CAL_WRITE (R658). -/
  | calWrite (req : EngReq)
  /-- RESTORE_FACTORY (R659). -/
  | restoreFactory (req : EngReq)
  /-- FACTORY_LOCK (R660). -/
  | factoryLock (req : EngReq)
  /-- SECRET_STORE (R673). -/
  | secretStore (req : EngReq)
  /-- LINK_ENUM (R577). -/
  | linkEnum (req : EngReq)
  /-- LINK_STATUS (R129). -/
  | linkStatus (req : EngReq)
  /-- LINK_POLICY (R593). -/
  | linkPolicy (req : EngReq)
  /-- LINK_PRBS (R604). -/
  | linkPrbs (req : EngReq)
  /-- LINK_FORWARD (R130). -/
  | linkForward (req : EngReq)
  /-- MATRIX_RELEASE (R187). -/
  | matrixRelease (req : EngReq)
  /-- RESET_SYSTEM (R146). -/
  | resetSystem (req : EngReq)
  /-- BANK_RETIRE (R162). -/
  | bankRetire (req : EngReq)
  /-- EFT_RESTART (R271). -/
  | eftRestart (req : EngReq)
  /-- RECOVERY_LOG (R148). -/
  | recoveryLog (req : EngReq)
  /-- DEBUG_OPEN (R675). -/
  | debugOpen (req : EngReq)
  /-- DEBUG_STATUS (R129). -/
  | debugStatus (req : EngReq)
  /-- LIFECYCLE_SET (R663). -/
  | lifecycleSet (req : EngReq)
  /-- KEYHASH_PROGRAM (R664). -/
  | keyhashProgram (req : EngReq)
  /-- KEYHASH_REVOKE (R664). -/
  | keyhashRevoke (req : EngReq)
  /-- TELEM_READ (R150). -/
  | telemRead (req : EngReq)
  /-- TELEM_CONFIG (R150). -/
  | telemConfig (req : EngReq)
  /-- EVENT_LOG (R149). -/
  | eventLog (req : EngReq)
  /-- SP_REQUEST (R108). -/
  | spRequest (bytes : List Byte)
  /-- SP_READ (R109). -/
  | spRead (clocked : Nat)
  /-- SP_PSB_READ (R107). -/
  | spPsbRead
  /-- SP_FRAMING_ERROR (R107). -/
  | spFramingError
  /-- HP_REQUEST (R110). -/
  | hpRequest (quad : Bool) (bytes : List Byte)
  /-- HP_READ (R110). -/
  | hpRead (quad : Bool) (clocked : Nat)
  /-- HP_PSB_READ (R110). -/
  | hpPsbRead
  /-- HP_FRAMING_ERROR (R111). -/
  | hpFramingError
  /-- MBX_SEND (R151). -/
  | mbxSend (master : Fin 12) (copied : Bool)
  /-- MBX_REQUEST_COPIED (R151). -/
  | mbxRequestCopied
  /-- MBX_REQUEST_WRITE (R151). -/
  | mbxRequestWrite (master : Fin 12) (word : Fin 1027) (value : Word)
  /-- MBX_RFREE (R151). -/
  | mbxRfree (master : Fin 12)
  /-- MBX_REPLY_PLACED (R151). -/
  | mbxReplyPlaced
  /-- LK_SLOT_TIMEOUT (R113). -/
  | lkSlotTimeout (slot : Fin 4)
  /-- DP_DR_SCAN (R114). -/
  | dpDrScan (bytes : List Byte) (clocked : Nat)
  /-- CLASS_N_BEGIN (R134). -/
  | classNBegin
  /-- JOB_COMPLETE (R135). -/
  | jobComplete
  /-- RAIL_DIP (R685). -/
  | railDip
  /-- POR_RELEASE (R91). -/
  | porRelease
  /-- PIN_RESET (R91). -/
  | pinReset
  /-- TAP_RESET (R91). -/
  | tapReset
  /-- COLD_START (R95). -/
  | coldStart
  /-- IMAGE_VERIFY_DONE (R96). -/
  | imageVerifyDone (flash : List Byte)
  /-- AUTORUN_START (R88). -/
  | autorunStart
  /-- POWER_TRANSITION_DONE (R73). -/
  | powerTransitionDone
  /-- DOMAIN_WAVE_DONE (R67). -/
  | domainWaveDone
  /-- DOMAIN_OFF_DONE (R67). -/
  | domainOffDone
  /-- MASTER_DRAIN_TIMEOUT (R69). -/
  | masterDrainTimeout
  /-- BANK_ZERO_FILL_DONE (R68). -/
  | bankZeroFillDone (bank : Fin 16)
  /-- SP_CS_WAKE (R85). -/
  | spCsWake
  /-- WAKE_BALL (R87). -/
  | wakeBall
  /-- GPIO_WAKE (R87). -/
  | gpioWake (pin : Fin 8)
  /-- LINK_ACTIVITY_WAKE (R85). -/
  | linkActivityWake (port : Fin 2)
  /-- TMR_ALM0 (R84). -/
  | tmrAlm0 (count : BitVec 48)
  /-- TMR_ALM1 (R84). -/
  | tmrAlm1 (count : BitVec 48)
  /-- WIDE_UPPER_WRITE (R31). -/
  | wideUpperWrite (value : Word)
  /-- WIDE_LOWER_READ (R31). -/
  | wideLowerRead (which : Fin 5)
  /-- LSC_SWITCH (R78). -/
  | lscSwitch
  /-- LSC_CRYSTAL_FAIL (R78). -/
  | lscCrystalFail
  /-- XT24_READY (R77). -/
  | xt24Ready
  /-- XT24_FAIL (R80). -/
  | xt24Fail
  /-- PLL_SYS_LOCK (R82). -/
  | pllSysLock
  /-- PLL_SYS_UNLOCK (R81). -/
  | pllSysUnlock
  /-- PLL_PIX_LOCK (R311). -/
  | pllPixLock (micros : Nat)
  /-- PLL_PIX_UNLOCK (R334). -/
  | pllPixUnlock
  /-- PLL_AUD_LOCK (R526). -/
  | pllAudLock
  /-- PLL_AUD_UNLOCK (R526). -/
  | pllAudUnlock
  /-- PLL_LNK_LOCK (R568). -/
  | pllLnkLock
  /-- PLL_LNK_UNLOCK (R81). -/
  | pllLnkUnlock
  /-- EVT_WRITE (R41). -/
  | evtWrite (master : Fin 12) (block : Fin 23) (value : Word) (set : Word)
  /-- EVTEN_WRITE (R35). -/
  | evtenWrite (master : Fin 12) (block : Fin 23) (value : Word)
  /-- COMMIT_ARM (R57). -/
  | commitArm (master : Fin 12) (block : Fin 23) (xfers : BitVec 16) (transfer : Bool)
  /-- COMMIT_DISARM (R712). -/
  | commitDisarm (master : Fin 12) (block : Fin 23) (xfers : BitVec 16) (arm : Bool) (transfer : Bool)
  /-- REGISTER_WRITE (R12). -/
  | registerWrite (master : Fin 12) (addr : Nat) (value : Word) (cycle : Cyc)
  /-- STOPPED_TRANSFER (R55). -/
  | stoppedTransfer
  /-- MATRIX_REQUEST (R168). -/
  | matrixRequest (req : MReq)
  /-- MATRIX_RESPONSE (R168). -/
  | matrixResponse (place : Nat) (ecc : Ecc)
  /-- HELD_REQUEST_PRESENTED (R175). -/
  | heldRequestPresented (place : Nat)
  /-- REQUEST_AGE_PROMOTION (R170). -/
  | requestAgePromotion (place : Nat)
  /-- STALL_RELEASE (R184). -/
  | stallRelease (place : Nat)
  /-- STALL_TIMEOUT (R185). -/
  | stallTimeout (place : Nat)
  /-- PATH_HOLD_TIMEOUT (R181). -/
  | pathHoldTimeout (burst : Option Nat) (beats : Nat)
  /-- BANK_RETIREMENT (R162). -/
  | bankRetirement (bank : Fin 16)
  /-- CREDIT_GAIN (R206). -/
  | creditGain (consumer : Fin 16)
  /-- SCRUB_STORM_END (R209). -/
  | scrubStormEnd (port : Fin 4)
  /-- BANK_SLEEP_ENTRY (R215). -/
  | bankSleepEntry (bank : Fin 16)
  /-- BANK_WAKE_AHEAD (R216). -/
  | bankWakeAhead (bank : Fin 16)
  /-- BANK_WAKE_DONE (R165). -/
  | bankWakeDone (bank : Fin 16)
  /-- RETENTION_REFRESH (R221). -/
  | retentionRefresh (bank : Fin 16)
  /-- PATROL_SCRUB (R219). -/
  | patrolScrub (bank : Fin 16) (ecc : Ecc)
  /-- ECC_WRITEBACK (R159). -/
  | eccWriteback (port : Fin 4) (ecc : Ecc)
  /-- BACKGROUND_FORCED_SLOT (R219). -/
  | backgroundForcedSlot (slot : BgSlot)
  /-- WEAR_MOVE (R654). -/
  | wearMove
  /-- PHY_CALIBRATION_STEP (R223). -/
  | phyCalibrationStep
  /-- TELEMETRY_SAMPLE (R150). -/
  | telemetrySample
  /-- NVM_ROW_WRITE_DONE (R648). -/
  | nvmRowWriteDone (ok : Bool)
  /-- ADD (R234). -/
  | add (e : Fin 4) (rd : Fin 8) (rs : Fin 8) (rt : Fin 8)
  /-- ADDC (R234). -/
  | addc (e : Fin 4) (rd : Fin 8) (rs : Fin 8) (rt : Fin 8)
  /-- SUB (R234). -/
  | sub (e : Fin 4) (rd : Fin 8) (rs : Fin 8) (rt : Fin 8)
  /-- SUBB (R234). -/
  | subb (e : Fin 4) (rd : Fin 8) (rs : Fin 8) (rt : Fin 8)
  /-- AND (R234). -/
  | andCmd (e : Fin 4) (rd : Fin 8) (rs : Fin 8) (rt : Fin 8)
  /-- OR (R234). -/
  | orCmd (e : Fin 4) (rd : Fin 8) (rs : Fin 8) (rt : Fin 8)
  /-- XOR (R234). -/
  | xorCmd (e : Fin 4) (rd : Fin 8) (rs : Fin 8) (rt : Fin 8)
  /-- SHL (R234). -/
  | shl (e : Fin 4) (rd : Fin 8) (rs : Fin 8) (rt : Fin 8)
  /-- SHR (R234). -/
  | shr (e : Fin 4) (rd : Fin 8) (rs : Fin 8) (rt : Fin 8)
  /-- SAR (R234). -/
  | sar (e : Fin 4) (rd : Fin 8) (rs : Fin 8) (rt : Fin 8)
  /-- ROR (R234). -/
  | ror (e : Fin 4) (rd : Fin 8) (rs : Fin 8) (rt : Fin 8)
  /-- CMP (R234). -/
  | cmp (e : Fin 4) (rs : Fin 8) (rt : Fin 8)
  /-- TST (R234). -/
  | tst (e : Fin 4) (rs : Fin 8) (rt : Fin 8)
  /-- MOV (R234). -/
  | mov (e : Fin 4) (rd : Fin 8) (rs : Fin 8)
  /-- NOT (R234). -/
  | notCmd (e : Fin 4) (rd : Fin 8) (rs : Fin 8)
  /-- NEG (R234). -/
  | neg (e : Fin 4) (rd : Fin 8) (rs : Fin 8)
  /-- EXT_B (R234). -/
  | extB (e : Fin 4) (rd : Fin 8) (rs : Fin 8)
  /-- EXT_H (R234). -/
  | extH (e : Fin 4) (rd : Fin 8) (rs : Fin 8)
  /-- ZX_B (R234). -/
  | zxB (e : Fin 4) (rd : Fin 8) (rs : Fin 8)
  /-- ZX_H (R234). -/
  | zxH (e : Fin 4) (rd : Fin 8) (rs : Fin 8)
  /-- MIN (R234). -/
  | minCmd (e : Fin 4) (rd : Fin 8) (rs : Fin 8) (rt : Fin 8)
  /-- MAX (R234). -/
  | maxCmd (e : Fin 4) (rd : Fin 8) (rs : Fin 8) (rt : Fin 8)
  /-- CLZ (R234). -/
  | clz (e : Fin 4) (rd : Fin 8) (rs : Fin 8)
  /-- ADDI (R234). -/
  | addi (e : Fin 4) (rd : Fin 8) (rs : Fin 8) (imm : BitVec 16)
  /-- ANDI (R234). -/
  | andi (e : Fin 4) (rd : Fin 8) (rs : Fin 8) (imm : BitVec 16)
  /-- ORI (R234). -/
  | ori (e : Fin 4) (rd : Fin 8) (rs : Fin 8) (imm : BitVec 16)
  /-- XORI (R234). -/
  | xori (e : Fin 4) (rd : Fin 8) (rs : Fin 8) (imm : BitVec 16)
  /-- CMPI (R234). -/
  | cmpi (e : Fin 4) (rs : Fin 8) (imm : BitVec 16)
  /-- MOVI (R234). -/
  | movi (e : Fin 4) (rd : Fin 8) (imm : BitVec 16)
  /-- LUI (R234). -/
  | lui (e : Fin 4) (rd : Fin 8) (imm : BitVec 16)
  /-- SHI (R234). -/
  | shi (e : Fin 4) (rd : Fin 8) (rs : Fin 8) (kind : Fin 4) (n : Fin 32) (high : BitVec 9)
  /-- ADDI_A (R234). -/
  | addiA (e : Fin 4) (rd : Fin 8) (rs : Fin 8) (imm : BitVec 16)
  /-- LUI_A (R234). -/
  | luiA (e : Fin 4) (rd : Fin 8) (imm : BitVec 16)
  /-- ADD_A (R234). -/
  | addA (e : Fin 4) (rd : Fin 8) (rs : Fin 8) (rt : Fin 8)
  /-- SUB_A (R234). -/
  | subA (e : Fin 4) (rd : Fin 8) (rs : Fin 8) (rt : Fin 8)
  /-- MOV_A (R234). -/
  | movA (e : Fin 4) (rd : Fin 8) (rs : Fin 8)
  /-- CMP_A (R234). -/
  | cmpA (e : Fin 4) (rs : Fin 8) (rt : Fin 8)
  /-- MUL_H (R234). -/
  | mulH (e : Fin 4) (n : Fin 2) (rs : Fin 8) (rt : Fin 8)
  /-- MAC_H (R234). -/
  | macH (e : Fin 4) (n : Fin 2) (rs : Fin 8) (rt : Fin 8)
  /-- MSU_H (R234). -/
  | msuH (e : Fin 4) (n : Fin 2) (rs : Fin 8) (rt : Fin 8)
  /-- MUL_W (R234). -/
  | mulW (e : Fin 4) (n : Fin 2) (rs : Fin 8) (rt : Fin 8)
  /-- MAC_W (R234). -/
  | macW (e : Fin 4) (n : Fin 2) (rs : Fin 8) (rt : Fin 8)
  /-- MSU_W (R234). -/
  | msuW (e : Fin 4) (n : Fin 2) (rs : Fin 8) (rt : Fin 8)
  /-- CLR_ACC (R234). -/
  | clrAcc (e : Fin 4) (n : Fin 2)
  /-- ADD_ACC (R234). -/
  | addAcc (e : Fin 4) (n : Fin 2) (m : Fin 2)
  /-- SHA_ACC (R234). -/
  | shaAcc (e : Fin 4) (n : Fin 2) (k : BitVec 6)
  /-- MOV_DA (R234). -/
  | movDa (e : Fin 4) (rd : Fin 8) (rs : Fin 8)
  /-- MOV_AD (R234). -/
  | movAd (e : Fin 4) (rd : Fin 8) (rs : Fin 8)
  /-- RD_ACC (R234). -/
  | rdAcc (e : Fin 4) (rd : Fin 8) (n : Fin 2) (k : Fin 64)
  /-- WR_ACC (R234). -/
  | wrAcc (e : Fin 4) (n : Fin 2) (rs : Fin 8) (k : Fin 64)
  /-- LD (R235). -/
  | ld (e : Fin 4) (rv : Fin 8) (an : Fin 8) (size : Fin 4) (addr : Fin 4) (disp : BitVec 16) (ecc : Ecc)
  /-- LDU (R235). -/
  | ldu (e : Fin 4) (rv : Fin 8) (an : Fin 8) (size : Fin 4) (addr : Fin 4) (disp : BitVec 16) (ecc : Ecc)
  /-- ST (R269). -/
  | st (e : Fin 4) (rv : Fin 8) (an : Fin 8) (size : Fin 4) (addr : Fin 4) (disp : BitVec 16) (ecc : Ecc)
  /-- LD_A (R235). -/
  | ldA (e : Fin 4) (rv : Fin 8) (an : Fin 8) (size : Fin 4) (addr : Fin 4) (disp : BitVec 16) (ecc : Ecc)
  /-- ST_A (R234). -/
  | stA (e : Fin 4) (rv : Fin 8) (an : Fin 8) (size : Fin 4) (addr : Fin 4) (disp : BitVec 16) (ecc : Ecc)
  /-- LDL (R270). -/
  | ldl (e : Fin 4) (rv : Fin 8) (an : Fin 8) (size : Fin 4) (addr : Fin 4) (disp : BitVec 16) (ecc : Ecc)
  /-- STUL (R270). -/
  | stul (e : Fin 4) (rv : Fin 8) (an : Fin 8) (size : Fin 4) (addr : Fin 4) (disp : BitVec 16) (ecc : Ecc)
  /-- BCC (R238). -/
  | bcc (e : Fin 4) (annul : Bool) (cond : Fin 16) (disp : BitVec 21)
  /-- BSR (R240). -/
  | bsr (e : Fin 4) (annul : Bool) (cond : Fin 16) (disp : BitVec 21)
  /-- DBNZ (R234). -/
  | dbnz (e : Fin 4) (annul : Bool) (rd : Fin 8) (disp : BitVec 21)
  /-- JMP_A (R242). -/
  | jmpA (e : Fin 4) (link : Bool) (an : Fin 8)
  /-- JMP_T (R242). -/
  | jmpT (e : Fin 4) (link : Bool) (an : Fin 8)
  /-- NOP (R234). -/
  | nop (e : Fin 4)
  /-- SYNC (R234). -/
  | sync (e : Fin 4)
  /-- WAIT (R246). -/
  | wait (e : Fin 4) (rd : Fin 8) (rs : Fin 8)
  /-- POLL (R246). -/
  | poll (e : Fin 4) (rd : Fin 8) (rs : Fin 8)
  /-- SIGNAL (R245). -/
  | signal (e : Fin 4) (f : Fin 256)
  /-- SIGNAL_D (R245). -/
  | signalD (e : Fin 4) (rs : Fin 8)
  /-- TRAP (R256). -/
  | trap (e : Fin 4) (n : Fin 256)
  /-- BRK (R256). -/
  | brk (e : Fin 4)
  /-- RTE (R262). -/
  | rte (e : Fin 4)
  /-- MFSR (R234). -/
  | mfsr (e : Fin 4) (rd : Fin 8)
  /-- MTSR (R229). -/
  | mtsr (e : Fin 4) (rs : Fin 8)
  /-- MFX (R234). -/
  | mfx (e : Fin 4) (rd : Fin 8) (sel : Fin 4)
  /-- MTX (R234). -/
  | mtx (e : Fin 4) (rs : Fin 8) (sel : Fin 4)
  /-- CACHE_CLEAN_LINE (R267). -/
  | cacheCleanLine (e : Fin 4) (ra : Fin 8)
  /-- CACHE_INVALIDATE_LINE (R267). -/
  | cacheInvalidateLine (e : Fin 4) (ra : Fin 8)
  /-- CACHE_CLEAN_INVALIDATE_LINE (R267). -/
  | cacheCleanInvalidateLine (e : Fin 4) (ra : Fin 8)
  /-- CACHE_INVALIDATE_ILINE (R267). -/
  | cacheInvalidateIline (e : Fin 4) (ra : Fin 8)
  /-- CACHE_CLEAN_ALL (R267). -/
  | cacheCleanAll (e : Fin 4)
  /-- CACHE_INVALIDATE_ICACHE (R267). -/
  | cacheInvalidateIcache (e : Fin 4)
  /-- EI (R234). -/
  | ei (e : Fin 4)
  /-- DI (R234). -/
  | di (e : Fin 4)
  /-- COP (R293). -/
  | cop (e : Fin 4) (slot : Fin 8) (op : Fin 256) (rs : Fin 8) (rt : Fin 8)
  /-- COPR (R292). -/
  | copr (e : Fin 4) (rd : Fin 8) (slot : Fin 8)
  /-- COPR_P (R293). -/
  | coprP (e : Fin 4) (rd : Fin 8) (slot : Fin 8)
  /-- INTERRUPT_ENTRY (R251). -/
  | interruptEntry (e : Fin 4)
  /-- STORE_ERROR_DBUS (R260). -/
  | storeErrorDbus (e : Fin 4)
  /-- WAIT_RELEASE (R246). -/
  | waitRelease
  /-- EFT_STALL_END (R226). -/
  | eftStallEnd (e : Fin 4)
  /-- ALLWAIT_FIRE (R253). -/
  | allwaitFire
  /-- EFT_FLAGSET_WRITE (R248). -/
  | eftFlagsetWrite (master : Fin 12) (value : Word)
  /-- BLOCK_IRQ_RISE (R249). -/
  | blockIrqRise (block : Fin 23)
  /-- TMODE_WORD (R275). -/
  | tmodeWord (e : Fin 4) (word : Word) (ecc : Ecc)
  /-- T_ADD (R277). -/
  | tAdd (e : Fin 4) (src : Fin 256) (other : BitVec 16)
  /-- T_ADDC (R277). -/
  | tAddc (e : Fin 4) (src : Fin 256) (other : BitVec 16)
  /-- T_SUB (R277). -/
  | tSub (e : Fin 4) (src : Fin 256) (other : BitVec 16)
  /-- T_SUBB (R277). -/
  | tSubb (e : Fin 4) (src : Fin 256) (other : BitVec 16)
  /-- T_AND (R277). -/
  | tAnd (e : Fin 4) (src : Fin 256) (other : BitVec 16)
  /-- T_OR (R277). -/
  | tOr (e : Fin 4) (src : Fin 256) (other : BitVec 16)
  /-- T_XOR (R277). -/
  | tXor (e : Fin 4) (src : Fin 256) (other : BitVec 16)
  /-- T_MIN (R277). -/
  | tMin (e : Fin 4) (src : Fin 256) (other : BitVec 16)
  /-- T_MAX (R277). -/
  | tMax (e : Fin 4) (src : Fin 256) (other : BitVec 16)
  /-- T_CMP (R277). -/
  | tCmp (e : Fin 4) (src : Fin 256) (other : BitVec 16)
  /-- T_TST (R277). -/
  | tTst (e : Fin 4) (src : Fin 256) (other : BitVec 16)
  /-- T_SHL (R277). -/
  | tShl (e : Fin 4) (src : Fin 256) (other : BitVec 16)
  /-- T_SHR (R277). -/
  | tShr (e : Fin 4) (src : Fin 256) (other : BitVec 16)
  /-- T_SAR (R277). -/
  | tSar (e : Fin 4) (src : Fin 256) (other : BitVec 16)
  /-- T_ROR (R277). -/
  | tRor (e : Fin 4) (src : Fin 256) (other : BitVec 16)
  /-- T_MUL_H (R277). -/
  | tMulH (e : Fin 4) (n : Fin 2) (src : Fin 256) (other : BitVec 16)
  /-- T_MAC_H (R277). -/
  | tMacH (e : Fin 4) (n : Fin 2) (src : Fin 256) (other : BitVec 16)
  /-- T_MSU_H (R277). -/
  | tMsuH (e : Fin 4) (n : Fin 2) (src : Fin 256) (other : BitVec 16)
  /-- T_MUL_W (R277). -/
  | tMulW (e : Fin 4) (n : Fin 2) (src : Fin 256) (other : BitVec 16)
  /-- T_MAC_W (R277). -/
  | tMacW (e : Fin 4) (n : Fin 2) (src : Fin 256) (other : BitVec 16)
  /-- T_MSU_W (R277). -/
  | tMsuW (e : Fin 4) (n : Fin 2) (src : Fin 256) (other : BitVec 16)
  /-- T_LOAD (R282). -/
  | tLoad (e : Fin 4) (kind : Fin 5) (src : Fin 256) (other : BitVec 16) (ecc : Ecc)
  /-- T_STORE (R277). -/
  | tStore (e : Fin 4) (kind : Fin 3) (src : Fin 256) (other : BitVec 16) (ecc : Ecc)
  /-- T_BRA (R283). -/
  | tBra (e : Fin 4) (src : Fin 256) (other : BitVec 16)
  /-- T_BRC (R283). -/
  | tBrc (e : Fin 4) (src : Fin 256) (other : BitVec 16)
  /-- T_JMPT (R283). -/
  | tJmpt (e : Fin 4) (src : Fin 256) (other : BitVec 16)
  /-- T_JMPA (R289). -/
  | tJmpa (e : Fin 4) (src : Fin 256) (other : BitVec 16)
  /-- T_JSRT (R283). -/
  | tJsrt (e : Fin 4) (src : Fin 256) (other : BitVec 16)
  /-- T_JSRA (R283). -/
  | tJsra (e : Fin 4) (src : Fin 256) (other : BitVec 16)
  /-- T_EV_WAIT (R285). -/
  | tEvWait (e : Fin 4) (src : Fin 256) (other : BitVec 16)
  /-- T_EV_POLL (R277). -/
  | tEvPoll (e : Fin 4) (src : Fin 256) (other : BitVec 16)
  /-- T_EV_SIG (R277). -/
  | tEvSig (e : Fin 4) (src : Fin 256) (other : BitVec 16)
  /-- T_SYNC (R277). -/
  | tSync (e : Fin 4) (src : Fin 256) (other : BitVec 16)
  /-- T_TRAP (R277). -/
  | tTrap (e : Fin 4) (src : Fin 256) (other : BitVec 16)
  /-- T_BRK (R277). -/
  | tBrk (e : Fin 4) (src : Fin 256) (other : BitVec 16)
  /-- T_RTE (R277). -/
  | tRte (e : Fin 4) (src : Fin 256) (other : BitVec 16)
  /-- T_CACHE (R277). -/
  | tCache (e : Fin 4) (src : Fin 256) (other : BitVec 16)
  /-- T_CS_CMD (R294). -/
  | tCsCmd (e : Fin 4) (slot : Fin 8) (src : Fin 256) (other : BitVec 16)
  /-- T_CS_RES_READ (R294). -/
  | tCsResRead (e : Fin 4) (slot : Fin 8) (dst : Fin 256) (other : BitVec 16)
  /-- LIST_RUN (R465). -/
  | listRun
  /-- ANO_SLOT_STATUS (R465). -/
  | anoSlotStatus
  /-- FENCE_WAIT (R465). -/
  | fenceWait
  /-- KEY_ON (R477). -/
  | keyOn
  /-- KEY_OFF (R479). -/
  | keyOff
  /-- PITCH (R479). -/
  | pitch
  /-- POS (R479). -/
  | pos
  /-- DIV (R296). -/
  | div
  /-- DIVU (R296). -/
  | divu
  /-- SQRT (R295). -/
  | sqrt
  /-- SINCOS (R296). -/
  | sincos
  /-- ATAN2 (R296). -/
  | atan2
  /-- RECIP (R296). -/
  | recip
  /-- SADD (R296). -/
  | sadd
  /-- SSUB (R296). -/
  | ssub
  /-- SMUL (R296). -/
  | smul
  /-- SWTRIG (R540). -/
  | swtrig
  /-- VAR_MARK_CMD (R548). -/
  | varMarkCmd
  /-- VAR_STATE_CMD (R295). -/
  | varStateCmd
  /-- STIME (R295). -/
  | stime
  /-- COP_RESULT_READY (R295). -/
  | copResultReady (slot : Fin 4)
  /-- COP_REMOTE_TIMEOUT (R299). -/
  | copRemoteTimeout (slot : Fin 4) (e : Fin 4) (place : Fin 4)
  /-- LINE_START (R307). -/
  | lineStart (phase : Int) (pull : Int)
  /-- FLIP_GROUP_FAULT (R404). -/
  | flipGroupFault (group : Fin 4)
  /-- FLIP_GROUP_READY_TRANSFER (R405). -/
  | flipGroupReadyTransfer (group : Fin 4)
  /-- CAM_STALE_FILL (R363). -/
  | camStaleFill
  /-- LNL_RECORD_WRITES (R396). -/
  | lnlRecordWrites (late : Bool)
  /-- AFFINE_TEXEL_LOAD (R376). -/
  | affineTexelLoad
  /-- COMPOSE_LINE_BEGIN (R388). -/
  | composeLineBegin
  /-- LINE_BUFFER_UNDERFLOW (R328). -/
  | lineBufferUnderflow (first : Nat) (count : Nat)
  /-- TIM_RUN_START (R311). -/
  | timRunStart (master : Fin 12)
  /-- TIM_RUN_STOP (R314). -/
  | timRunStop (master : Fin 12)
  /-- SEAM_END (R332). -/
  | seamEnd (micros : Nat)
  /-- XSYNC_EDGE (R318). -/
  | xsyncEdge (input : Fin 2) (rising : Bool) (gap : Nat)
  /-- REFERENCE_MISSING (R320). -/
  | referenceMissing
  /-- LOCK_ACQUIRED (R320). -/
  | lockAcquired
  /-- PENNANT_CHECK_COMPLETE (R426). -/
  | pennantCheckComplete
  /-- PENNANT_GAP_TIMEOUT (R431). -/
  | pennantGapTimeout (cell : Fin 64)
  /-- PEN_REF_DONE (R421). -/
  | penRefDone (cell : Fin 64)
  /-- HISTOGRAM_SWAP (R556). -/
  | histogramSwap
  /-- CMP_FENCESET_WRITE (R400). -/
  | cmpFencesetWrite (set : Word)
  /-- CAMERA_TIMING_CODE (R633). -/
  | cameraTimingCode (xy : Byte) (px : List Nat) (behind : Bool)
  /-- CAMERA_EAV_TIMEOUT (R634). -/
  | cameraEavTimeout
  /-- CAPTURE_FRAME_COMPLETE (R361). -/
  | captureFrameComplete
  /-- ANO_GO (R456). -/
  | anoGo (done : Bool)
  /-- ANO_LGO (R458). -/
  | anoLgo (ends : Bool)
  /-- ANO_STOP (R468). -/
  | anoStop (done : Bool)
  /-- ANO_OP_DONE (R464). -/
  | anoOpDone
  /-- ANO_NOP (R453). -/
  | anoNop
  /-- ANO_SRC (R439). -/
  | anoSrc
  /-- ANO_DST (R439). -/
  | anoDst
  /-- ANO_PEN (R444). -/
  | anoPen
  /-- ANO_MODE (R444). -/
  | anoMode
  /-- ANO_CLIP (R454). -/
  | anoClip
  /-- ANO_COPY (R445). -/
  | anoCopy
  /-- ANO_FILL (R446). -/
  | anoFill
  /-- ANO_EXPAND (R447). -/
  | anoExpand
  /-- ANO_LINE (R448). -/
  | anoLine
  /-- ANO_TRI (R449). -/
  | anoTri
  /-- ANO_FENCE (R459). -/
  | anoFence
  /-- ANO_FWAIT (R459). -/
  | anoFwait
  /-- ANO_FWAIT_RELEASE (R459). -/
  | anoFwaitRelease
  /-- ANO_MARK (R459). -/
  | anoMark
  /-- ANO_JUMP (R459). -/
  | anoJump
  /-- ANO_END (R459). -/
  | anoEnd
  /-- SAMPLE_PERIOD_BOUNDARY (R505). -/
  | samplePeriodBoundary
  /-- VOICE_CHUNK_ARRIVAL (R487). -/
  | voiceChunkArrival (voice : Fin 256)
  /-- VOICE_PRIME_TIMEOUT (R478). -/
  | voicePrimeTimeout (voice : Fin 256)
  /-- VOICE_FADE_END (R492). -/
  | voiceFadeEnd (voice : Fin 256)
  /-- METER_WINDOW_END (R528). -/
  | meterWindowEnd (meter : Fin 24) (holdWritten : Bool)
  /-- METER_HOLD_FALLBACK (R529). -/
  | meterHoldFallback (meter : Fin 24)
  /-- METER_CFG_WRITE (R528). -/
  | meterCfgWrite (meter : Fin 24) (value : Word)
  /-- PENNANT_SOUND_AUDIT (R496). -/
  | pennantSoundAudit
  /-- AS1_READBACK_MISMATCH (R503). -/
  | as1ReadbackMismatch (left : Int) (right : Int)
  /-- AS1_SILENCE_TIMEOUT (R503). -/
  | as1SilenceTimeout
  /-- CAN_FRAME_RECEIVED (R623). -/
  | canFrameReceived (frame : CanFrame) (sof : Word)
  /-- CAN_PROTOCOL_EXCEPTION (R715). -/
  | canProtocolException
  /-- SIGNAL_TIMEOUT (R418). -/
  | signalTimeout (entry : Fin 32)
  /-- CAN_TX_REQUEST (R625). -/
  | canTxRequest (value : Word) (busIdle : Bool) (completes : Bool)
  /-- CAN_TX_ABORT (R625). -/
  | canTxAbort (value : Word)
  /-- CAN_TX_COMPLETE (R625). -/
  | canTxComplete
  /-- CAN_RXF_ACK (R624). -/
  | canRxfAck (fifo : Fin 2) (value : Word) (frame : Option CanFrame) (sof : Word)
  /-- CAN_BUS_OFF (R626). -/
  | canBusOff
  /-- CAN_BUS_RECOVERY (R626). -/
  | canBusRecovery
  /-- VAR_STREAM_START (R541). -/
  | varStreamStart (stream : Fin 4) (reachesDone : Bool)
  /-- VAR_STREAM_STOP (R546). -/
  | varStreamStop (stream : Fin 4)
  /-- VAR_SWTRIG (R540). -/
  | varSwtrig (stream : Fin 4)
  /-- VAR_RECORD_COMPLETE (R543). -/
  | varRecordComplete (stream : Fin 4) (level : Nat) (room : Bool)
  /-- VAR_AUTO_RELAX (R550). -/
  | varAutoRelax (stream : Fin 4)
  /-- TRIG_INPUT_EDGE (R536). -/
  | trigInputEdge (ball : Fin 2) (rising : Bool)
  /-- TRIG_PULSE_END (R560). -/
  | trigPulseEnd (ball : Fin 2)
  /-- GPIO_INPUT_EDGE (R619). -/
  | gpioInputEdge (pin : Fin 96) (rising : Bool)
  /-- GPI_OUT_WRITE (R613). -/
  | gpiOutWrite (master : Fin 12) (k : Fin 3) (value : Word)
  /-- GPI_OE_WRITE (R613). -/
  | gpiOeWrite (master : Fin 12) (k : Fin 3) (value : Word)
  /-- GPI_PIN_WRITE (R615). -/
  | gpiPinWrite (master : Fin 12) (pin : Fin 96) (value : Word)
  /-- BANK_SUPPLY_FAULT (R687). -/
  | bankSupplyFault (bank : Fin 4)
  /-- XSP_CMD_GO (R630). -/
  | xspCmdGo (value : Word) (completes : Option (List Byte))
  /-- XSP_CMD_DONE (R630). -/
  | xspCmdDone (data : List Byte)
  /-- XSP_DMA_GO (R631). -/
  | xspDmaGo (completes : Option (List Byte))
  /-- XSP_DMA_DONE (R631). -/
  | xspDmaDone (data : List Byte)
  /-- XSP_LINE_FILL_DONE (R629). -/
  | xspLineFillDone (line : Nat) (data : List Byte)
  /-- I2C_XFER_GO (R640). -/
  | i2cXferGo (ctrl : Fin 2) (value : Word) (completes : Option I2cEnd)
  /-- I2C_XFER_DONE (R641). -/
  | i2cXferDone (ctrl : Fin 2) (ending : I2cEnd)
  /-- I2C_SCL_TIMEOUT (R641). -/
  | i2cSclTimeout (ctrl : Fin 2) (count : Nat) (received : List Byte)
  /-- UART_TX_PUSH (R644). -/
  | uartTxPush (port : Fin 2) (data : Byte)
  /-- UART_RX_POP (R644). -/
  | uartRxPop (port : Fin 2) (value : Word)
  /-- UART_RX_FRAME (R644). -/
  | uartRxFrame (port : Fin 2) (data : Byte) (stopOk : Bool) (parityOk : Bool) (broken : Bool)
  /-- PWM_PERIOD_START (R646). -/
  | pwmPeriodStart (channel : Fin 8)
  /-- AS0_INPUT_FRAME (R515). -/
  | as0InputFrame (words : List Int)
  /-- LINK_SIGNAL_DETECT (R568). -/
  | linkSignalDetect (port : Fin 2)
  /-- PORT_UP (R568). -/
  | portUp (port : Fin 2) (partnerPort : Fin 2) (partnerLead : Bool) (partnerNode : Nat)
  /-- PORT_DOWN (R569). -/
  | portDown (port : Fin 2) (errors : Nat)
  /-- PATH_LOST (R602). -/
  | pathLost
  /-- SUPERFRAME_RECEIVED (R575). -/
  | superframeReceived (port : Fin 2) (frame : SFrame) (sub : Nat) (residence : Nat)
  /-- DELAY_EXCHANGE (R580). -/
  | delayExchange (port : Fin 2) (out : Int) (back : Int)
  /-- BUNTING_REQUEST (R588). -/
  | buntingRequest (value : Word)
  /-- BUNTING_LANDING (R589). -/
  | buntingLanding
  /-- CMDREQ_PACKET (R591). -/
  | cmdreqPacket (port : Fin 2) (packet : LPkt)
  /-- CMDREP_PACKET (R591). -/
  | cmdrepPacket (port : Fin 2) (packet : LPkt)
  /-- WRD_PACKET (R596). -/
  | wrdPacket (port : Fin 2) (packet : LPkt)
  /-- WWR_PACKET (R596). -/
  | wwrPacket (port : Fin 2) (packet : LPkt)
  /-- WRSP_PACKET (R600). -/
  | wrspPacket (port : Fin 2) (packet : LPkt)
  /-- COPREQ_PACKET (R300). -/
  | copreqPacket (port : Fin 2) (packet : LPkt)
  /-- COPRSP_PACKET (R299). -/
  | coprspPacket (port : Fin 2) (packet : LPkt)
  /-- LINK_PACKET_RETRY (R595). -/
  | linkPacketRetry (node : Fin 128) (tag : Fin 256)
  /-- WINDOW_BUSY_RETRY (R599). -/
  | windowBusyRetry (node : Fin 128) (tag : Fin 256)
  /-- WINDOW_TIMEOUT (R600). -/
  | windowTimeout (node : Fin 128) (tag : Fin 256)
  /-- LINK_PRBS_DONE (R605). -/
  | linkPrbsDone (compared : BitVec 64) (errors : Word) (losses : BitVec 16) (ended : Fin 3)
  /-- LINK_ENUM_TIMEOUT (R577). -/
  | linkEnumTimeout
  /-- LINK_FORWARD_TIMEOUT (R129). -/
  | linkForwardTimeout
  /-- FLASH_HEADER_TIMEOUT (R129). -/
  | flashHeaderTimeout
  /-- UNDEFINED_INSTRUCTION (R232). -/
  | undefinedInstruction (e : Fin 4)
  /-- INSTRUCTION_FETCH_REFUSED (R243). -/
  | instructionFetchRefused (e : Fin 4)
  /-- CAN_BUS_ERROR (R626). -/
  | canBusError (error : CanErr)
  /-- UART_TX_FRAME_SENT (R644). -/
  | uartTxFrameSent (port : Fin 2)
  /-- GPIO_INPUT_CHANGE (R536). -/
  | gpioInputChange (pin : Fin 96) (level : Bool)
  /-- LINE_BUFFER_WATERMARK_BELOW (R325). -/
  | lineBufferWatermarkBelow (level : Nat)
  /-- FUSE_BLOW_DONE (R664). -/
  | fuseBlowDone (differs : Bool)
  deriving DecidableEq, Repr

end Sys2Proof
end

