-- ==== Sys2Proof/Config.lean ====
section
/-! DEFINITION. What an implementation fixes and the spec leaves open. Each constant has no body: a claim holds whatever
its value is. -/

namespace Sys2Proof.Config

/-- The free values: the model takes `freeValue n` for the n-th value that the spec leaves open, and counts up (log 1). -/
opaque freeValue : Nat → Nat

/-- Byte `a` of the boot ROM, whose contents the spec does not give (05 R152; log 5). -/
opaque bootRomByte : Nat → Byte

/-- The device identifier that Spebulen blows into the DEVID fuses, 64 bits (19 R661; log 6). -/
opaque devId : BitVec 64

/-- Whether the board holds I/O bank k at 3.3 V, and not at 1.8 V (18 R608; log 26). -/
opaque bank33 : Nat → Bool

end Sys2Proof.Config
end

