-- ==== Sys2Proof/Machine/Bits.lean ====
section
/-! DEFINITION. Bit fields, sign extension, byte order and saturation: the helpers that every unit uses. Numbers are
natural numbers or integers, as the spec's formulas are; a register word is a `Word`. -/

namespace Sys2Proof.Machine

/-- Bits `hi..lo` of a word, as an unsigned number (00 R10). -/
def getBits (w : Word) (hi lo : Nat) : Nat := (w.toNat / 2 ^ lo) % 2 ^ (hi + 1 - lo)

/-- The word with bits `hi..lo` replaced by the low bits of `v`. -/
def setBits (w : Word) (hi lo v : Nat) : Word :=
  let m := 2 ^ (hi + 1 - lo)
  BitVec.ofNat 32 (w.toNat - getBits w hi lo * 2 ^ lo + (v % m) * 2 ^ lo)

/-- Bit `i` of a number. -/
def bit (n i : Nat) : Bool := n / 2 ^ i % 2 == 1

/-- Bits `hi..lo` of a number. -/
def bits (n hi lo : Nat) : Nat := n / 2 ^ lo % 2 ^ (hi + 1 - lo)

/-- 1 for true, 0 for false. -/
def b2n (b : Bool) : Nat := if b then 1 else 0

/-- `n` read as a two's complement number of `w` bits. -/
def sx (w n : Nat) : Int :=
  let m := n % 2 ^ w
  if 2 ^ (w - 1) ≤ m then (m : Int) - (2 ^ w : Nat) else (m : Int)

/-- An integer as the `w`-bit pattern of its two's complement. -/
def ux (w : Nat) (i : Int) : Nat := (i % (2 ^ w : Nat)).toNat

/-- An integer held to `lo..hi`. -/
def clampI (lo hi i : Int) : Int := if i < lo then lo else if hi < i then hi else i

/-- Saturation to `w` signed bits. -/
def satS (w : Nat) (i : Int) : Int := clampI (-(2 ^ (w - 1) : Nat)) ((2 ^ (w - 1) : Nat) - 1) i

/-- Saturation to `w` unsigned bits. -/
def satU (w n : Nat) : Nat := if n < 2 ^ w then n else 2 ^ w - 1

/-- `i` shifted right by `k` places, rounding toward minus infinity (an arithmetic shift). -/
def sarI (i : Int) (k : Nat) : Int := i / (2 ^ k : Nat)

/-- Floor division of integers by a positive number. -/
def fdiv (a : Int) (b : Nat) : Int := if b = 0 then 0 else a / (b : Int)

/-- The ceiling of a quotient. -/
def cdiv (a b : Nat) : Nat := if b = 0 then 0 else (a + b - 1) / b

/-- `a - b`, by structural recursion on nothing: natural subtraction is already held to 0. -/
def divOr0 (a b : Nat) : Nat := if b = 0 then 0 else a / b

/-- The floor of the square root, one bit of the result per step, from bit `k` down. -/
def isqrtFrom (n : Nat) : Nat → Nat → Nat
  | 0, r => r
  | k + 1, r =>
    let c := r + 2 ^ k
    isqrtFrom n k (if c * c ≤ n then c else r)

/-- The floor of the square root of a number below 2^128. -/
def isqrt (n : Nat) : Nat := isqrtFrom n 64 0

/-- The number that bytes spell, least significant first (00 R4). -/
def leNat : List Byte → Nat
  | [] => 0
  | b :: l => b.toNat + 256 * leNat l

/-- The low `k` bytes of a number, least significant first (00 R4). -/
def leBytes : Nat → Nat → List Byte
  | 0, _ => []
  | k + 1, n => BitVec.ofNat 8 n :: leBytes k (n / 256)

/-- The number in bytes `off..off+k-1` of a list; a byte past the end counts as 0. -/
def fieldAt (l : List Byte) (off k : Nat) : Nat := leNat ((l.drop off).take k)

/-- Byte `i` of a list as a number; 0 past its end. -/
def byteAt (l : List Byte) (i : Nat) : Nat := (l.getD i 0).toNat

/-- `k` bytes of value 0. -/
def zeros (k : Nat) : List Byte := List.replicate k 0

/-- A list cut or padded with zero bytes to `k` bytes. -/
def fitBytes (k : Nat) (l : List Byte) : List Byte := (l ++ zeros k).take k

/-- The list with element `i` replaced. -/
def setAt {α : Type} (l : List α) (i : Nat) (a : α) : List α := l.set i a

/-- The list with element `i` changed by `f`. -/
def modAt {α : Type} (l : List α) (i : Nat) (f : α → α) : List α := l.modify i f

/-- `f` folded over `n, n+1, …, n+k-1`. -/
def foldUp {σ : Type} (f : σ → Nat → σ) : Nat → Nat → σ → σ
  | _, 0, s => s
  | n, k + 1, s => foldUp f (n + 1) k (f s n)

/-- The bits set in a `w`-bit number, lowest first. -/
def bitsOf (w n : Nat) : List Nat := (List.range w).filter (fun i => bit n i)

/-- The number whose set bits are those of the list. -/
def ofBits (l : List Nat) : Nat := l.foldl (fun n i => n ||| 2 ^ i) 0

/-- The number of bits set in a `w`-bit number. -/
def popcount (w n : Nat) : Nat := (bitsOf w n).length

/-- One bit of CRC division, most significant bit first. -/
def crcBit (w poly crc : Nat) (b : Bool) : Nat :=
  let top := bit crc (w - 1)
  let sh := (crc * 2) % 2 ^ w
  if top != b then sh ^^^ poly else sh

/-- A byte of CRC division, most significant bit first. -/
def crcByteMsb (w poly : Nat) (crc : Nat) (b : Byte) : Nat :=
  (List.range 8).foldl (fun c i => crcBit w poly c (bit b.toNat (7 - i))) crc

/-- One reflected CRC step over a byte, least significant bit first, with the reflected polynomial. -/
def crcByteLsb (rpoly : Nat) (crc : Nat) (b : Byte) : Nat :=
  (List.range 8).foldl (fun c _ => if c % 2 = 1 then c / 2 ^^^ rpoly else c / 2) (crc ^^^ b.toNat)

end Sys2Proof.Machine
end

