-- ==== Sys2Proof/Machine/Trig.lean ====
section
/-! DEFINITION. The math unit's functions (08 R296): division, roots, reciprocals, sines and arctangents. The true values of
sine, cosine and arctangent are found to far more places than the bound of R296 asks; which value within the bound the
hardware gives is a free value (log 1). -/

namespace Sys2Proof.Machine

open Sys2Proof

/-! ## Division and saturation -/

/-- Truncating division of signed words, its rules for a zero divisor and for overflow: quotient, remainder, ARITH. -/
def mathDiv (a b : Word) : Word × Word × Bool :=
  if b = 0#32 then (if a.toInt < 0 then 0x80000000#32 else 0x7FFFFFFF#32, a, true)
  else if a = 0x80000000#32 && b = 0xFFFFFFFF#32 then (0x7FFFFFFF#32, 0#32, true)
  else (BitVec.ofInt 32 (a.toInt.tdiv b.toInt), BitVec.ofInt 32 (a.toInt.tmod b.toInt), false)

/-- Unsigned division. -/
def mathDivu (a b : Word) : Word × Word × Bool :=
  if b = 0#32 then (0xFFFFFFFF#32, a, true)
  else (BitVec.ofNat 32 (a.toNat / b.toNat), BitVec.ofNat 32 (a.toNat % b.toNat), false)

/-- A signed result saturated to a word, and whether it was. -/
def mathSat (i : Int) : Word × Bool := (BitVec.ofInt 32 (satS 32 i), satS 32 i ≠ i)

/-- The root of an unsigned Q16.16 number, rounded down. -/
def mathSqrt (a : Word) : Word := BitVec.ofNat 32 (isqrt (a.toNat * 65536))

/-- 1 / A in Q16.16, saturated; truncated toward zero, as the unit's divisions are (log 17). -/
def mathRecip (a : Word) : Word × Bool :=
  if a = 0#32 then (0x7FFFFFFF#32, true) else mathSat ((2 ^ 32 : Int).tdiv a.toInt)

/-! ## Sine and arctangent, in units of 2^-64 -/

/-- 2π × 2^64. -/
def twoPi64 : Nat := 115904311329233965478

/-- The Taylor terms of a sine or cosine: the term `t`, `x²`, the index of the next factor, and `n` terms left. -/
def taylor (x2 : Nat) : Nat → Nat → Int → Int
  | 0, _, _ => 0
  | n + 1, k, t => t + taylor x2 n (k + 2) (-(t * (x2 : Int) / 2 ^ 64 / ((k * (k + 1) : Nat) : Int)))

/-- Sine and cosine of an angle of `r` / 2^32 turns with `r` < 2^30. -/
def sinQ (r : Nat) : Int :=
  let x := r * twoPi64 / 2 ^ 32
  taylor (x * x / 2 ^ 64) 20 2 (x : Int)
def cosQ (r : Nat) : Int :=
  let x := r * twoPi64 / 2 ^ 32
  taylor (x * x / 2 ^ 64) 20 1 (2 ^ 64)

/-- Sine of an angle in turns × 2^32; the cosine is the sine a quarter turn on. -/
def sin64 (a : Nat) : Int :=
  let a := a % 2 ^ 32
  let r := a % 2 ^ 30
  match a / 2 ^ 30 with
  | 0 => sinQ r
  | 1 => cosQ r
  | 2 => -sinQ r
  | _ => -cosQ r

/-- Terms of the arctangent series of `t`, |t| ≤ 1/2. -/
def atanTerms (t2 : Nat) : Nat → Nat → Int → Int
  | 0, _, _ => 0
  | n + 1, k, p => p / (k : Int) + atanTerms t2 n (k + 2) (-(p * (t2 : Int) / 2 ^ 64))

/-- The arctangent of y / x with 0 ≤ y ≤ x, 0 < x, in radians: reduced by π/4 where y / x is above 1/2. -/
def atanOct (y x : Nat) : Int :=
  if 2 * y ≤ x then
    let t := y * 2 ^ 64 / x
    atanTerms (t * t / 2 ^ 64) 40 1 (t : Int)
  else
    let t := (x - y) * 2 ^ 64 / (x + y)
    (twoPi64 / 8 : Nat) - atanTerms (t * t / 2 ^ 64) 40 1 (t : Int)

/-- The angle of (x, y) in turns × 2^64. -/
def atan64 (y x : Int) : Int :=
  let ay := y.natAbs
  let ax := x.natAbs
  let r := if ay ≤ ax then atanOct ay ax else (twoPi64 / 4 : Nat) - atanOct ax ay
  let turns := r * 2 ^ 64 / (twoPi64 : Int)
  let q : Int := if x < 0 then 2 ^ 63 - turns else turns
  if y < 0 then -q else q

/-- A value within 4 units of a true value given in units of 2^-k of a unit: which one is free. -/
def within4 (free : Nat) (t : Int) (k : Nat) : Int :=
  let lo := -((-(t - 4 * (2 ^ k : Nat))) / (2 ^ k : Nat))
  let hi := (t + 4 * (2 ^ k : Nat)) / (2 ^ k : Nat)
  lo + ((free % ((hi - lo).toNat + 1) : Nat) : Int)

/-- SINCOS: sine and cosine in Q2.30. -/
def mathSincos (f0 f1 : Nat) (a : Word) : Word × Word :=
  (BitVec.ofInt 32 (within4 f0 (sin64 a.toNat) 34), BitVec.ofInt 32 (within4 f1 (sin64 (a.toNat + 2 ^ 30)) 34))

/-- ATAN2: the angle of (x, y); 0 for (0, 0). -/
def mathAtan2 (f : Nat) (y x : Word) : Word :=
  if y = 0#32 && x = 0#32 then 0#32 else BitVec.ofInt 32 (within4 f (atan64 y.toInt x.toInt) 32)

end Sys2Proof.Machine
end

