-- ==== Sys2Proof/Machine/State.lean ====
section
/-! DEFINITION. The state of the GV256 as plain data, and the state right after reset. -/

namespace Sys2Proof.Machine

open Sys2Proof

/-! ## Reasons to stop -/

/-- Why the block stops with a fault. -/
inductive Fault where
  /-- Raised by no meaning: every error the spec describes is an error response, a status bit or a recorded event, and
  the block goes on. Safe: nothing can be proved of a state after it. -/
  | none
  deriving DecidableEq, Repr

/-- Why a command is not performed. -/
inductive Refusal where
  /-- Answered by the dispatch of a command that has no meaning yet. Safe. -/
  | notModelled (mnemonic : String)
  deriving DecidableEq, Repr

/-! ## Registers -/

/-- Access codes (00 R12). -/
inductive Acc where
  | rw | ro | wo | w1c | w1s | sc | sh
  deriving DecidableEq, Repr

/-- Collision classes (00 R14, 02 R38); `sw` is the class "—". `hu k` carries the COLLIDE.FIELD index of the row's
first register. -/
inductive Cls where
  | sw | hs | ci | go | hu (idx : Nat) | lv | sh
  deriving DecidableEq, Repr

/-- A field of a register: its bits, access code, class and reset value. -/
structure RegField where
  hi : Nat
  lo : Nat
  acc : Acc
  cls : Cls
  reset : Nat
  deriving DecidableEq, Repr

/-- A row of a register table: `count` registers from offset `off`, `stride` bytes apart. -/
structure RegRow where
  off : Nat
  count : Nat
  stride : Nat
  fields : List RegField
  deriving DecidableEq, Repr

/-- A peripheral block: its base, whether it is shadowed, whether it has the active-value view (02 R33), its
block-defined EVT bits, its rows. -/
structure RegBlock where
  base : Nat
  shadowed : Bool
  view : Bool
  evtBits : Nat
  rows : List RegRow
  deriving DecidableEq, Repr

/-- A named field: the address of the row's first register, the row's stride and the field's bits. -/
structure FieldRef where
  base : Nat
  stride : Nat
  hi : Nat
  lo : Nat
  deriving DecidableEq, Repr

/-- A CI increment that a software write has put off to the next cycle (02 R43). -/
structure CiDue where
  addr : Nat
  hi : Nat
  lo : Nat
  amount : Nat
  /-- Put off in the present cycle: applied at the end of the next one. -/
  fresh : Bool
  deriving DecidableEq, Repr

/-! ## Logs and notices (04 R147 to R149) -/

/-- A recovery record (04 R148). -/
structure RecRec where
  kind : Nat
  port : Nat
  unit : Nat
  sub : Nat
  a : Nat
  b : Nat
  stamp : Nat
  deriving DecidableEq, Repr

/-- An event record (04 R149). -/
structure EvRec where
  kind : Nat
  port : Nat
  detail0 : Nat
  detail1 : Nat
  aux : Nat
  frame : Nat
  stamp : Nat
  deriving DecidableEq, Repr

/-! ## Power, clocks and wake (03) -/

/-- The state of a power domain (03 R67, R68, R72). `retain` is a bank's. -/
inductive Dom where
  | off | on | rampOn | rampOff | retain
  deriving DecidableEq, Repr

/-- The power states (03 R71). -/
inductive PState where
  | deep | standby | run
  deriving DecidableEq, Repr

/-- A wake source (03 R85), in the order of the AUTORUN bits. -/
inductive WakeSrc where
  | spcs | wakePin | gpio (pin : Fin 8) | tmr | link (port : Fin 2)
  deriving DecidableEq, Repr

/-- What the switching of domains in progress is for: nothing, a DOMAIN_SET, the entry of a power state, the run set of a
verified image, or domains that the command engine needs for itself. -/
inductive PGoal where
  | idle | domains | enter (target : PState) | image | own
  deriving DecidableEq, Repr

/-- Power, clocks and wake: what the SYS registers do not hold. -/
structure Pwr where
  /-- What the switching in progress is for. -/
  goal : PGoal
  /-- Domains PD00..PD49 (03 R64). -/
  dom : List Dom
  /-- The waves of domains still to switch on, first in front; the front one is ramping (03 R67). -/
  waves : List (List Nat)
  /-- The domains switching off, in order; the front one is switching off (03 R62, R67). -/
  offs : List Nat
  /-- Wake events held behind the commit point (03 R74). -/
  heldWake : List WakeSrc
  /-- XT24 is enabled (03 R79). -/
  xtEnabled : Bool
  /-- PLL_PIX is requested (03 R77, 09 R311). -/
  pixWanted : Bool
  /-- PLL_AUD is requested (03 R77). -/
  audWanted : Bool
  /-- Clock fail-safe was entered and no POWER_STATE RUN has come from the safety port since (03 R80). -/
  failSafe : Bool
  /-- The next entry to RUN is an automatic run (03 R88). -/
  autorun : Bool
  /-- Banks being filled with zero (03 R68). -/
  filling : List Nat
  /-- The pulls of GPA0..GPA7 held through DEEP (03 R86). -/
  heldPulls : List Nat
  /-- A start out of a reset or a DEEP exit has not completed its start checks (03 R91, R94, 12 R433); and how far it is:
  0 done, 1 COLD_START is due, 2 a zeroization is resumed, 3 the device key is written (19 R669, R677). -/
  starting : Bool
  stage : Nat
  /-- The start is an exit from DEEP (03 R88, R94). -/
  fromDeep : Bool
  /-- What the next entry to RUN goes on with: 0 nothing, 1 a load from flash, 2 a load that is waited for, 3 the resident image
  (03 R88, R95). -/
  boot : Nat
  /-- PLL_SYS lost its lock, which its relock records (03 SYS_EVT.SYSUNLOCK). -/
  unlocked : Bool
  /-- The device has started since the power-on reset was released (03 SYS_RSTCAUSE.BOR). -/
  started : Bool
  /-- The rails below their threshold hold the device in power-on reset (03 R91). -/
  inPor : Bool
  deriving DecidableEq, Repr

/-- Power right after reset: STANDBY, with PD00, PD01 and PD48 on (03 R71, SYS_PDSTAT0, SYS_PDSTAT1). -/
def Pwr.reset : Pwr where
  goal := PGoal.idle
  dom := (List.range 50).map (fun d => if d = 0 || d = 1 || d = 48 then Dom.on else Dom.off)
  waves := []
  offs := []
  heldWake := []
  xtEnabled := false
  pixWanted := false
  audWanted := false
  failSafe := false
  autorun := false
  filling := []
  heldPulls := []
  starting := true
  stage := 1
  fromDeep := false
  boot := 0
  unlocked := false
  started := false
  inPor := false

/-! ## The bus matrix (05) -/

/-- A locked sequence in progress (05 R178): its master, ID, target, the 64-byte granule on a memory target, and the
accesses made. -/
structure MLock where
  master : Nat
  id : Nat
  target : Nat
  granule : Option Nat
  count : Nat
  /-- The cycle in which its path-hold timer started (05 R181). -/
  since : Nat
  deriving DecidableEq, Repr

/-- A response that returned to a master: the address, and its data (empty for a write), or none for an error
response. -/
structure MResp where
  master : Nat
  id : Nat
  addr : Nat
  write : Bool
  data : Option (List Byte)
  deriving DecidableEq, Repr

/-- What the matrix holds. -/
structure Mtx where
  /-- Requests presented to their targets and not answered, oldest first (05 R173). -/
  out : List MReq
  /-- Requests held at their master's port, oldest first (05 R175). -/
  held : List MReq
  /-- Requests stalled in a STALL region, with the region's STALL_LIMIT as they stalled (05 R184 to R186). -/
  stalled : List (MReq × Nat)
  /-- The open lock (05 R178). -/
  lock : Option MLock
  /-- Locked sequences broken whose UNLOCK has not come: master, ID, target (05 R714). -/
  broken : List (Nat × Nat × Nat)
  /-- Retired banks (05 R162, R163). -/
  retired : List Nat
  /-- Sleep state of each bank: 0 ACTIVE, 1 LIGHT, 2 RETENTION (05 R164). -/
  sleep : List Nat
  /-- Banks whose wake runs (05 R165). -/
  waking : List Nat
  /-- Requests promoted to GUARANTEED for their one grant (05 R170). -/
  promoted : List MReq
  /-- Responses that returned and that the master has not taken up, oldest first; of masters other than M0 and M1 the last
  one of each ID. -/
  resp : List MResp
  deriving DecidableEq, Repr

/-- The matrix after reset. -/
def Mtx.reset : Mtx where
  out := []
  held := []
  stalled := []
  lock := none
  broken := []
  retired := []
  sleep := List.replicate 16 0
  waking := []
  promoted := []
  resp := []

/-! ## The bandwidth ledger (06) -/

/-- What the ledger holds beside its registers. -/
structure Ldg where
  /-- LDG_CAP and the shed order, which the command engine holds in PD00 (06 R190, R211). -/
  cap : Nat
  order : List Nat
  /-- Ports in margin mode, held in PD00 (06 R208). -/
  margin : List Bool
  /-- The claim of each port's scrub storm (06 R209). -/
  storm : List (Option Nat)
  /-- Granules that wait for their write-back at each port, oldest first (05 R159, 06 R209). -/
  wbq : List (List Nat)
  /-- Active tolerances and credit accumulators of codes 0..15 (06 R197, R201, R206). -/
  tol : List Nat
  acc : List Nat
  /-- The next granule of each bank that patrol scrub reads (06 R219). -/
  patrol : List Nat
  /-- Retention refreshes taken by each bank, and calibration steps of the LVDS replica driver (06 R221, R223). -/
  refreshes : List Nat
  phySteps : Nat
  deriving DecidableEq, Repr

/-- The ledger after reset. -/
def Ldg.reset : Ldg where
  cap := 1200
  order := [6, 5, 4, 3, 2, 1, 13, 11]
  margin := List.replicate 4 false
  storm := List.replicate 4 none
  wbq := List.replicate 4 []
  tol := List.replicate 14 0xFFFF ++ [4096, 4096]
  acc := List.replicate 16 0
  patrol := List.replicate 16 0
  refreshes := List.replicate 16 0
  phySteps := 0

/-! ## The Newt core: four efts (07, 08) -/

/-- The state of an eft (07 R226), in the order of its codes. -/
inductive EftRun where
  | stopped | ready | stalled | waiting | halted
  deriving DecidableEq, Repr

/-- What a STALLED eft waits for (07 R226): an instruction fetch; the data of a load whose slot instruction has issued
(`load`), or of a load, store or word that has had no effect yet (`data`); room in the store buffer; the earlier stores of a
SYNC or SIGNAL; its cache operation; a queue entry of a coprocessor slot; a result word of one. -/
inductive Stall where
  | fetch | load | data | buffer | drain | cacheOp | copIssue (slot : Nat) | copRead (slot : Nat)
  deriving DecidableEq, Repr

/-- SR (07 R229). EFT is the eft's own number and BD reads 0, so neither is held. -/
structure SR where
  c : Bool
  v : Bool
  z : Bool
  n : Bool
  av0 : Bool
  av1 : Bool
  ie : Bool
  exl : Bool
  mode : Bool
  deriving DecidableEq, Repr

/-- The next instruction stands in a branch delay slot: where execution goes on, in which mode, and whether the slot is
annulled (07 R238). -/
structure Slot where
  target : Word
  tmode : Bool
  annulled : Bool
  deriving DecidableEq, Repr

/-- The data of a load: not back yet, an error response, or the value. -/
inductive LoadVal where
  | wait | bad | got (w : Word)
  deriving DecidableEq, Repr

/-- A load whose value the eft sees after the next instruction it executes (07 R235): its register, size in bytes and
extension, data address, whether a cache line fill brings it, its data; and where the load stood: its address, the branch
delay slot it stood in, its mode. -/
structure PendLoad where
  toA : Bool
  reg : Fin 8
  size : Nat
  signed : Bool
  addr : Nat
  fill : Bool
  value : LoadVal
  pc : Word
  slot : Option Slot
  mode : Bool
  deriving DecidableEq, Repr

/-- Where a WAITING eft puts the flags it takes: a D register, or EV.R (07 R246, 08 R285). -/
inductive WaitDest where
  | d (reg : Fin 8)
  | evR
  deriving DecidableEq, Repr

/-- What an eft's request that has not been answered is for; `lost`: abandoned when the eft was stopped or restarted
(07 R272), with whether it was a fetch and whether a write. -/
inductive EftUse where
  | fetch | load | word | fill | store | clean
  | lost (fetch write : Bool)
  deriving DecidableEq, Repr

/-- A bank of the T-mode operand and result registers (08 R286). -/
structure TBank where
  alu : Word
  shf : Word
  mul : Word
  lsuB : Word
  lsuD : Word
  brC : Word
  cacheA : Word
  opA : Vector Word 8
  opB : Vector Word 8
  aluR : Word
  shfR : Word
  lsuR : Word
  evR : Word
  deriving DecidableEq, Repr

/-- A bank in which every register reads 0. -/
def TBank.zero : TBank where
  alu := 0#32
  shf := 0#32
  mul := 0#32
  lsuB := 0#32
  lsuD := 0#32
  brC := 0#32
  cacheA := 0#32
  opA := Vector.replicate 8 0#32
  opB := Vector.replicate 8 0#32
  aluR := 0#32
  shfR := 0#32
  lsuR := 0#32
  evR := 0#32

/-- Where a T-mode result of latency 2 lands: an accumulator, or LSU.R of a bank (08 R279). -/
inductive FlyTo where
  | acc (n : Fin 2) | lsu (bank : Bool)
  deriving DecidableEq, Repr

/-- A T-mode result not visible yet: the words that still start before it is. -/
structure Fly where
  dest : FlyTo
  value : BitVec 48
  age : Nat
  deriving DecidableEq, Repr

/-- One eft: its registers (07 R228), where it executes, and what it waits for. -/
structure Eft where
  run : EftRun
  d : Vector Word 8
  a : Vector Word 8
  acc : Vector (BitVec 48) 2
  sr : SR
  epc : Word
  esr : Word
  ebt : Word
  efa : Word
  pc : Word
  /-- The load whose delay slot the next instruction is. -/
  pend : Option PendLoad
  /-- The load whose slot instruction has issued and whose data is not back (07 R237). -/
  late : Option PendLoad
  slot : Option Slot
  /-- What it waits for while STALLED. -/
  stall : Stall
  wmask : Word
  waitTo : WaitDest
  /-- Its requests without an answer, oldest first, by use and address. -/
  out : List (EftUse × Nat)
  /-- Error responses to stores not yet raised, by data address (07 R260). -/
  storeErrs : List Word
  /-- The line whose fill, and the line or word whose fetch, ended with an error response. -/
  fillBad : Option Nat
  fetchBad : Option Nat
  /-- The data of a T-mode load that came late, or none for an error response; what its word finds when it completes. -/
  wordData : Option (Nat × Option (List Byte))
  /-- The T-mode banks for EXL = 0 and EXL = 1, and the results in flight (08 R280, R286). -/
  bank0 : TBank
  bank1 : TBank
  fly : List Fly
  deriving DecidableEq, Repr

/-- The register values of an eft when it starts (07 R228, R229, 08 R286). -/
def Eft.start (pc : Word) (tmode : Bool) : Eft where
  run := EftRun.ready
  d := Vector.replicate 8 0#32
  a := (Vector.replicate 8 0#32).set 7 0xE0004000#32
  acc := Vector.replicate 2 0#48
  sr := ⟨false, false, false, false, false, false, false, false, tmode⟩
  epc := 0#32
  esr := 0#32
  ebt := 0#32
  efa := 0#32
  pc := pc
  pend := none
  late := none
  slot := none
  stall := Stall.fetch
  wmask := 0#32
  waitTo := WaitDest.d 0
  out := []
  storeErrs := []
  fillBad := none
  fetchBad := none
  wordData := none
  bank0 := TBank.zero
  bank1 := TBank.zero
  fly := []

/-- An eft after reset: STOPPED, with the values it starts with (log 4). -/
def Eft.reset : Eft := { Eft.start 0#32 false with run := EftRun.stopped }

/-- A line of the data cache: the address of its first byte, its 32 bytes, whether it is dirty (07 R265). -/
structure DLine where
  base : Nat
  data : List Byte
  dirty : Bool
  deriving DecidableEq, Repr

/-- The caches (07 R265): lines by set × 4 + way, and the pseudo-LRU bits of each set. An instruction line is held by its
address alone: a command names the instruction that is issued. -/
structure Caches where
  dlines : List (Nat × DLine)
  dlru : List (Nat × Nat)
  ilines : List (Nat × Nat)
  ilru : List (Nat × Nat)
  deriving DecidableEq, Repr

/-! ## Coprocessor slots (08 R291 to R303) -/

/-- Who issued a command to an on-chip slot: an eft's entry, or a remote request: its node, the requesting eft and tag. -/
inductive CopSrc where
  | eft (e : Fin 4) (entry : Nat)
  | remote (node : Nat) (eft : Nat) (tag : Nat)
  deriving DecidableEq, Repr

/-- A command accepted by an on-chip slot (08 R295). -/
structure CopCmd where
  src : CopSrc
  op : Nat
  a : Word
  b : Word
  deriving DecidableEq, Repr

/-- An entry of an eft's queue for a slot (08 R291): its number, op, tag of a remote request, whether it has completed, the
result words not read yet, and its failure: cause and remote status (08 R299). -/
structure CopEntry where
  entry : Nat
  op : Nat
  tag : Nat
  done : Bool
  words : List Word
  fail : Option (Nat × Nat)
  deriving DecidableEq, Repr

/-- The coprocessor slots. -/
structure Cop where
  /-- Queues, of eft e and slot s at 8 × e + s. -/
  queues : List (List CopEntry)
  /-- Commands accepted by slots 0..3 and not executed, oldest first (08 R295). -/
  slots : List (List CopCmd)
  /-- Commands executed whose result words are not available yet (08 R295). -/
  results : List (List (CopCmd × List Word))
  /-- FENCE_WAIT commands waiting for their fence (08 R295, 13 R465). -/
  fenceWaits : List CopCmd
  next : Nat
  /-- TAG of the next request of slots 4..7 (08 R298). -/
  tags : List Nat
  deriving DecidableEq, Repr

/-- The slots after reset. -/
def Cop.reset : Cop where
  queues := List.replicate 32 []
  slots := [[], [], [], []]
  results := [[], [], [], []]
  fenceWaits := []
  next := 0
  tags := [0, 0, 0, 0]

/-! ## The display (09, 10, 11) -/

/-- A raster: the timing that governs it (09 R304, R305, R331), pixel clock in kHz, output mode. -/
structure Raster where
  hact : Nat
  hfp : Nat
  hsw : Nat
  hbp : Nat
  vact : Nat
  vfp : Nat
  vsw : Nat
  vbp : Nat
  khz : Nat
  mode : Nat
  deriving DecidableEq, Repr

/-- The raster of the reset values of TIM. -/
def Raster.reset : Raster := ⟨1920, 24, 16, 40, 720, 10, 4, 16, 90000, 0⟩

/-- The display timing engine beside its registers. -/
structure Tim where
  ras : Raster
  /-- Lines of the frame being scanned: VTOTAL, changed by a JUMP (09 R321). -/
  vtot : Nat
  /-- The line that the compositor begins next (11 R388). -/
  next : Nat
  /-- Lines composed and not scanned out: number, the backdrop that governs it, its pixels. -/
  lines : List (Nat × Nat × List Nat)
  /-- Pixels of the line being scanned that showed the backdrop: first and count (09 R328). -/
  holes : List (Nat × Nat)
  /-- The line being scanned has ended for the taps. -/
  ended : Bool
  /-- System time at the start of the line. -/
  lineAt : Nat
  /-- The lines scanned of this frame: before the pennant merge, and at the output. -/
  under : List (List Nat)
  final : List (List Nat)
  /-- The pennant check of this frame is complete. -/
  checked : Bool
  /-- Length in pixel clocks that a JUMP adds to the next vertical blanking (09 R321). -/
  jump : Option Int
  /-- The JUMP of this stay in ACQUIRE was made. -/
  jumped : Bool
  /-- The seam that runs waits for PLL_PIX (09 R332). -/
  seamPll : Bool
  /-- Flip groups whose deferral would bring DEFCUR to MAXDEF (11 R404). -/
  flipFault : List Bool
  /-- A reference frame start is known; interval of the last two in 0.625 ns; intervals in and out of range in a row. -/
  refSeen : Bool
  refGap : Nat
  inRange : Nat
  outRange : Nat
  /-- Frame starts in a row with a phase error within ±1, and beyond ±4 (09 R320). -/
  near : Nat
  far : Nat
  /-- Map entries kept by plane: tile row, first tile column, entries; none where a fetch failed (10 R355). -/
  maps : List (Option (Nat × Nat × List (Option Nat)))
  /-- Source lines that the window holds: line and bytes (10 R368). -/
  rows : List (Nat × List (Option Byte))
  deriving DecidableEq, Repr

/-- The timing engine after reset. -/
def Tim.reset : Tim where
  ras := Raster.reset
  vtot := 750
  next := 0
  lines := []
  holes := []
  ended := false
  lineAt := 0
  under := []
  final := []
  checked := false
  jump := none
  jumped := false
  seamPll := false
  flipFault := [false, false, false, false]
  refSeen := false
  refGap := 0
  inRange := 0
  outRange := 0
  near := 0
  far := 0
  maps := List.replicate 6 none
  rows := []

/-- The line list sequencer (11 R389): the list's base, the offset of the entry to read next, the line number of the last
LINE entry. -/
structure Lnl where
  base : Nat
  ptr : Nat
  last : Option Nat
  deriving DecidableEq, Repr

/-- The camera interface and the capture (10 R360 to R363, 18 R632 to R634). -/
structure Cam where
  /-- F, V of the last timing code, and whether the last one was the SAV of an active line. -/
  f : Bool
  v : Bool
  sav : Bool
  /-- HCORR as taken at the last EAV. -/
  hcorr : Bool
  /-- Active lines of the frame or field so far, in the form of tap 2. -/
  lines : List (List Nat)
  /-- Size of the last complete frame, or of the last fields of parity 0 and 1. -/
  sizes : List (Option (Nat × Nat))
  /-- The F of the last frame or field. -/
  lastF : Option Bool
  /-- A frame is being captured, and its captured lines written. -/
  active : Bool
  written : Nat
  /-- The buffer to be filled next. -/
  turn : Nat
  /-- Capture buffers with a complete frame since capture was enabled, each with its serial number; the latched one. -/
  full : List (Nat × Nat)
  serial : Nat
  latched : Option (Nat × Nat)
  /-- CAM_EVT.FILL was set for the present condition (10 R363). -/
  filled : Bool
  deriving DecidableEq, Repr

/-- The camera after reset. -/
def Cam.reset : Cam where
  f := false
  v := false
  sav := false
  hcorr := true
  lines := []
  sizes := [none, none]
  lastF := none
  active := false
  written := 0
  turn := 0
  full := []
  serial := 0
  latched := none
  filled := false

/-! ## The pennant plane (12) -/

/-- A pennant cell: pending and latched descriptors of four words, enables, whether the references of the pending
descriptor are ready, and the references of its states, each through the pending and through the latched palette. -/
structure PenCell where
  pend : List Nat
  lat : List Nat
  penEn : Bool
  latEn : Bool
  ready : Bool
  refs : List (Nat × Nat)
  latRefs : List (Nat × Nat)
  /-- The state whose image is shown in this frame (12 R422 step 5). -/
  shown : Nat
  /-- The cycle of its last completed check, or of the latch that enabled it (12 R431). -/
  since : Nat
  deriving DecidableEq, Repr

/-- A cell after reset: all zero, not enabled, references ready (log 8). -/
def PenCell.reset : PenCell where
  pend := [0, 0, 0, 0]
  lat := [0, 0, 0, 0]
  penEn := false
  latEn := false
  ready := true
  refs := []
  latRefs := []
  shown := 0
  since := 0

/-- The pennant plane. -/
structure Pen where
  cells : List PenCell
  palPend : List (Nat × Nat)
  palLat : List (Nat × Nat)
  modePend : Bool
  modeLat : Bool
  cause : Nat
  recKind : Nat
  recCell : Nat
  recWatch : Nat
  recF : Nat
  /-- The signal table: 32 records of 16 bytes (12 R416), and the command engine's copy of it (18 R621). -/
  sigtab : List (List Byte)
  sigCopy : List (List Byte)
  /-- Latches since the value of each signal entry last changed, and the value at the last latch (12 R429). -/
  sigAge : List Nat
  sigPrev : List Nat
  /-- Frames for which the freeze watches stay suspended (12 R429). -/
  frzHold : List Nat
  /-- OUTPUT's condition was met during the active lines of this frame (12 R430). -/
  outBad : Bool
  /-- The log slot of the next record (12 R427). -/
  logSlot : Nat
  deriving DecidableEq, Repr

/-- The pennant plane after reset (log 8). -/
def Pen.reset : Pen where
  cells := List.replicate 64 PenCell.reset
  palPend := []
  palLat := []
  modePend := false
  modeLat := false
  cause := 0
  recKind := 0
  recCell := 0xFF
  recWatch := 0xFF
  recF := 0
  sigtab := List.replicate 32 (List.replicate 16 0#8)
  sigCopy := List.replicate 32 (List.replicate 16 0#8)
  sigAge := List.replicate 32 65535
  sigPrev := List.replicate 32 0
  frzHold := List.replicate 4 0
  outBad := false
  logSlot := 0

/-- CAN (18 R620 to R626): the CAN record's copy (R621), the buffer in transmission and the system time bits 31..0 at its
start of frame, withdrawals waiting for it, the error
counters of ISO 11898-1, and whether the controller is at bus-off. -/
structure Can where
  copy : Option (List Word)
  sending : Option Nat
  since : Nat
  aborts : List Nat
  tec : Nat
  recv : Nat
  offBus : Bool
  deriving DecidableEq, Repr

/-- CAN after reset. -/
def Can.reset : Can := ⟨none, none, 0, [], 0, 0, false⟩

/-! ## The Anole blitter (13) -/

/-- The state that entries set (13 R453): SRC, DST, PEN and MODE as entries of four words, and the clip rectangles of list
mode, each enabled or not with X0, Y0, X1, Y1. -/
structure AnoState where
  src : List Nat
  dst : List Nat
  pen : List Nat
  mode : List Nat
  clips : List (Option (Nat × Nat × Nat × Nat))
  deriving DecidableEq, Repr

/-- The state before any state entry (13 R453). -/
def AnoState.initial : AnoState where
  src := [0x01000000, 0, 0, 0]
  dst := [0x02000000, 0, 0, 0]
  pen := [0x03000000, 0, 0, 0]
  mode := [0x0400FF0C, 0, 0, 0]
  clips := [none, none, none, none]

/-- The operation that runs: its state and entry, its entry's address (0 in register mode), whether list mode runs it, and
whether its accesses have been made. -/
structure AnoOp where
  st : AnoState
  entry : List Nat
  addr : Nat
  list : Bool
  drawn : Bool
  deriving DecidableEq, Repr

/-- Anole beside its registers: the operation that runs, the list's state, and the fence and NEED of an FWAIT that holds. -/
structure Ano where
  op : Option AnoOp
  st : AnoState
  hold : Option (Nat × Nat)
  deriving DecidableEq, Repr

/-- Anole after reset. -/
def Ano.reset : Ano := ⟨none, AnoState.initial, none⟩

/-! ## Voices (14) -/

/-- A value ramped over 32 samples (14 R486): from, to, and the boundaries since the change, 32 when done. -/
structure Ramp where
  old : Int
  new : Int
  k : Nat
  deriving DecidableEq, Repr

/-- A ramp that rests at a value. -/
def Ramp.at (v : Int) : Ramp := ⟨v, v, 32⟩

/-- A stream buffer that a voice holds (14 R487 to R489): its number, the address of its chunk, the samples `lo ≤ i < hi`
it is to give in the order of play, and whether its chunk has arrived. -/
structure VBuf where
  num : Nat
  chunk : Nat
  lo : Nat
  hi : Nat
  here : Bool
  /-- Its fetch failed: a pennant voice plays 0 for it (14 R503). -/
  mute : Bool
  deriving DecidableEq, Repr

/-- A voice beside its registers. -/
structure Voice where
  /-- R474 code: 0 IDLE, 1 PRIME, 2 ATTACK, 3 DECAY, 4 RELEASE, 5 FADE. -/
  state : Nat
  /-- Last end reason (VOC_VvSTAT.END), and the one that a fade in progress ends with. -/
  ended : Nat
  why : Nat
  /-- The descriptor's six words, once they have arrived; and where they are read from. -/
  desc : Option (List Nat)
  descAt : Nat
  /-- P: 24 integer and 16 fraction bits. -/
  pos : Nat
  env : Nat
  low : Int
  band : Int
  level : Ramp
  bufs : List VBuf
  /-- The sample at which the next chunk to fetch begins; none at the end of the data. -/
  next : Option Nat
  /-- Boundaries since the key-on of a voice in PRIME; periods of a fade. -/
  age : Nat
  /-- The last mono output before a fade. -/
  last : Int
  deriving DecidableEq, Repr

/-- A voice after reset: IDLE. -/
def Voice.reset : Voice where
  state := 0
  ended := 0
  why := 0
  desc := none
  descAt := 0
  pos := 0
  env := 0
  low := 0
  band := 0
  level := Ramp.at 0
  bufs := []
  next := none
  age := 0
  last := 0

/-- A slot 1 command that acts at the next boundary (14 R477, R479). -/
inductive VCmd where
  | keyOn (v addr : Nat)
  | keyOff (v : Nat)
  | pitch (v ratio : Nat)
  deriving DecidableEq, Repr

/-- The AVAS mapping (14 R501). -/
structure AvasMap where
  gears : Nat
  vmask : Nat
  stop : Nat
  hyst : Nat
  /-- Speed, pitch and level of the four breakpoints. -/
  points : List (Nat × Nat × Nat)
  deriving DecidableEq, Repr

/-- A trigger rule (14 R499): signal entry, pennant voice, EDGE mode, and whether V was not 0 at the boundary before. -/
structure AvasRule where
  sig : Nat
  voice : Nat
  edge : Bool
  was : Bool
  deriving DecidableEq, Repr

/-- The voice engine and the pennant sound. -/
structure Voc where
  voices : List (Nat × Voice)
  /-- Slot 1 commands accepted since the last boundary, oldest first. -/
  cmds : List VCmd
  /-- Descriptors of the pennant voices (14 R501), by pennant voice. -/
  pdesc : List (Nat × List Nat)
  map : AvasMap
  rules : List (Option AvasRule)
  /-- AVAS_CONFIG records that take effect at the next boundary. -/
  recs : List (List Byte)
  /-- The pennant sound: its source offset in the store, its length, PSA and PSA2, the base in use, and whether the pennant
  voices are silenced (14 R495, R496). -/
  psrc : Nat
  plen : Nat
  psa : Nat
  psa2 : Nat
  base : Nat
  silenced : Bool
  deriving DecidableEq, Repr

/-- The voice engine after reset (log 3). -/
def Voc.reset : Voc where
  voices := []
  cmds := []
  pdesc := []
  map := ⟨0, 0, 0, 0, [(0, 0, 0), (0, 0, 0), (0, 0, 0), (0, 0, 0)]⟩
  rules := List.replicate 16 none
  recs := []
  psrc := 0
  plen := 0
  psa := 0
  psa2 := 0
  base := 0
  silenced := false

/-! ## The mix graph (15) -/

/-- A limiter (15 R519): its 8 previous inputs, newest first, and its gain. -/
structure Limiter where
  hist : List (Int × Int)
  gain : Nat
  deriving DecidableEq, Repr

/-- A meter in its window (15 R528): its tap and window code as the window began, samples, peak, sum of squares, and
windows since HOLD was last raised (15 R529). -/
structure Meter where
  tap : Nat
  win : Nat
  n : Nat
  peak : Nat
  sum : Nat
  quiet : Nat
  restart : Bool
  deriving DecidableEq, Repr

/-- The graph. -/
structure Mix where
  /-- Sums of the voices of the last period: group g left at 2g and right at 2g + 1, sends at 32..35, pennant left and right
  at 36, 37 (14 R472). -/
  sums : List Int
  /-- Ramped gains: sends 0..3, returns 4, 5, groups 6..21, strips 22..33, MA 34, MB 35, zones 36..39 (15 R508). -/
  gains : List Ramp
  /-- Selections with their crossfades: zones 0..3, chime 4, link transmit 5..12 (15 R508). -/
  sels : List (List (Nat × Ramp))
  /-- The inputs of the reverb and of the delay as the last period formed them (15 R524; log 16). -/
  fx : List Int
  /-- The reverb: pre-delay line, the four lines, newest sample first, and the low-passes (15 R512). -/
  pre : List Int
  lines : List (List Int)
  lp : List Int
  /-- The delay's left and right lines, newest first (15 R513). -/
  dl : List Int
  dr : List Int
  /-- Equaliser states x1, x2, y1, y2 of zone z, channel c, band b at 20 z + 10 c + b (15 R518). -/
  eq : List (Nat × List Int)
  /-- Limiters of the zones and of the chime stage (15 R519, R522). -/
  lims : List Limiter
  /-- AS0 input words of the last frame (15 R515). -/
  as0 : List Int
  /-- Words computed in the last period: AS0 slots 0..7, AS1 left and right, the chime word, link transmit 0..7. -/
  word : List Int
  /-- The error of the chime PWM, and the duty counts of the current period (15 R522). -/
  chErr : Int
  duty : List Nat
  /-- The points of R527 as the last period computed them: left and right by tap code; mono points the same twice. -/
  taps : List (Nat × Int × Int)
  meters : List Meter
  /-- Frames of AS1 that have differed in a row (14 R503). -/
  bad : Nat
  deriving DecidableEq, Repr

/-- A meter after reset. -/
def Meter.reset : Meter := ⟨0x3F, 10, 0, 0, 0, 0, true⟩

/-- The graph after reset: every line and state at 0, gains and selections at the registers' reset values (log 3). -/
def Mix.reset : Mix where
  sums := []
  gains := List.replicate 4 (Ramp.at 0x4000) ++ List.replicate 2 (Ramp.at 0) ++ List.replicate 16 (Ramp.at 0x4000)
    ++ List.replicate 12 (Ramp.at 0) ++ List.replicate 6 (Ramp.at 0x4000)
  sels := List.replicate 4 [(1, Ramp.at 0x4000)] ++ List.replicate 9 [(0, Ramp.at 0x4000)]
  fx := [0, 0]
  pre := []
  lines := [[], [], [], []]
  lp := [0, 0, 0, 0]
  dl := []
  dr := []
  eq := []
  lims := List.replicate 5 ⟨[], 32768⟩
  as0 := [0, 0, 0, 0]
  word := []
  chErr := 0
  duty := [128, 128, 128, 128]
  taps := []
  meters := List.replicate 24 Meter.reset
  bad := 0

/-! ## Varan (16) -/

/-- A record of a stream that is complete, or being accumulated (16 R547, R549): its kind, the times of its samples (one
time for an event), its payload, AUX0 and AUX1, the reduction step it was taken at, and whether it is written for a trigger
alone. -/
structure VRec where
  kind : Nat
  times : List Nat
  payload : List Byte
  aux0 : Nat
  aux1 : Nat
  red : Nat
  forTrig : Bool
  deriving DecidableEq, Repr

/-- What a stream holds beside its registers. -/
structure VStream where
  /-- Its registers VAR_SCFGs to VAR_SQs_3 as taken at START (16 R541). -/
  cfg : List Word
  /-- The slot the next header goes to. -/
  slot : Nat
  /-- Records generated since START, dropped ones counted. -/
  seq : Nat
  /-- Records dropped since the previous valid record. -/
  drops : Nat
  /-- Valid records written since START. -/
  made : Nat
  /-- The times of the triggers whose records have not been written yet, oldest first. -/
  ttrig : List Nat
  /-- The trigger record was written; so many records still to write. -/
  postLeft : Option Nat
  /-- Consecutive completions at a low FIFO level (16 R550). -/
  low : Nat
  /-- Frame starts of the tap since START, for VIDEO: the frame being captured is one less. -/
  frame : Nat
  /-- The reduction step of the record, or for VIDEO of the frame, in progress (16 R551). -/
  red : Nat
  /-- Samples skipped since the last kept one. -/
  skip : Nat
  /-- The record being accumulated. -/
  acc : Option VRec
  /-- Complete records whose header is not written yet, oldest first. -/
  staged : List VRec
  deriving DecidableEq, Repr

/-- A stream after reset. -/
def VStream.reset : VStream where
  cfg := []
  slot := 0
  seq := 0
  drops := 0
  made := 0
  ttrig := []
  postLeft := none
  low := 0
  frame := 0
  red := 0
  skip := 0
  acc := none
  staged := []

/-- Varan. -/
structure Var where
  streams : List VStream
  /-- Levels of the condition units (16 R536). -/
  level : List Bool
  /-- The pin levels at the last tick of the GPIO sample clock. -/
  pins : List Bool
  /-- TRIG0 and TRIG1 pulses that run (16 R560, 17 R590). -/
  pulse : List Bool
  /-- The signatures of the last frame of maps A and B, by block (16 R558). -/
  sigA : List (Nat × Nat)
  sigB : List (Nat × Nat)
  deriving DecidableEq, Repr

/-- Varan after reset. -/
def Var.reset : Var where
  streams := List.replicate 4 VStream.reset
  level := List.replicate 4 false
  pins := List.replicate 96 false
  pulse := [false, false]
  sigA := []
  sigB := []

/-! ## The burgee link (17) -/

/-- A burgee port beside its registers. -/
structure BPort where
  /-- The partner is a lead node (17 R568). -/
  partnerLead : Bool
  /-- Exchanges of the hop delay measurement that are done, in ps (17 R580). -/
  exch : List Int
  /-- HOPS of the superframes received with TV = 1 (17 R582). -/
  hops : Nat
  /-- Consecutive superframes with an error within ±2 ns (17 R582). -/
  good : Nat
  /-- The pattern byte of the PRBS test that runs (17 R604). -/
  prbs : Option Nat
  deriving DecidableEq, Repr

/-- A port after reset. -/
def BPort.reset : BPort where
  partnerLead := false
  exch := []
  hops := 0
  good := 0
  prbs := none

/-- A window access of this node that waits for its response (17 R596 to R600): the access, its packet, and whether the
last answer was BUSY. -/
structure WinAcc where
  req : MReq
  pkt : LPkt
  busy : Bool
  deriving DecidableEq, Repr

/-- A window request of another node that M9 has not finished (17 R596, R599): its packet and its access. -/
structure WinServe where
  pkt : LPkt
  req : MReq
  deriving DecidableEq, Repr

/-- A request answered within the last 2 ms (17 R595): source, tag, type, and the response packet. -/
structure Answered where
  src : Nat
  tag : Nat
  kind : Nat
  resp : LPkt
  time : Nat
  deriving DecidableEq, Repr

/-- The burgee link. -/
structure Brg where
  /-- The LEAD ball (17 R565). -/
  lead : Bool
  ports : List BPort
  /-- Own requests waiting to enter superframes: line, landing tick, and the ports that have not sent it (17 R588). -/
  bq : List (Nat × Nat × List Nat)
  /-- Events that have not landed: line, landing tick, late (17 R589). -/
  landing : List (Nat × Nat × Bool)
  /-- Line and tick of events that landed, newest first (17 R589). -/
  landed : List (Nat × Nat)
  /-- The lead node: an enumeration waits for hop delays (17 R576). A follower: an ENUM superframe came and its result has not. -/
  enumDue : Bool
  /-- Superframe periods left that are sent with ENUM set. -/
  enumLeft : Nat
  /-- The lead node waits for the result. -/
  enumWait : Bool
  /-- Enumerations completed. -/
  enumCount : Nat
  /-- The ID that the end node reports in its TURN superframes (17 R576). -/
  endNode : Nat
  /-- System time beyond its count, and the correction still to be slewed, in ps (17 R582). -/
  frac : Int
  slew : Int
  /-- Superframe number of the current period. -/
  sfn : Nat
  /-- BEAMSEQ last taken (17 R587). -/
  beamSeq : Nat
  /-- Time stamp of the lead node's last frame start, 64 bits with sixteenths (17 R571, R587). -/
  beam : Nat
  /-- Audio words received: superframe number, and a word for each of the 32 system channels that the superframe carried,
  from which port (17 R585). -/
  rx : List (Nat × Nat × List (Option Int))
  /-- The last word of each channel by port, for a failed ACRC (17 R573). -/
  rxLast : List (List (Option Int))
  /-- The superframe last sent on each port. -/
  sent : List (Option SFrame)
  /-- Packets to be inserted, oldest first (17 R592), and packets that left in the last superframe of each port. -/
  out : List LPkt
  /-- TAG of the next request packet. -/
  tag : Nat
  /-- Request packets without a response: packet, retries, and whether it may be sent again (17 R595). -/
  waiting : List (LPkt × Nat)
  wins : List WinAcc
  /-- Window requests of other nodes being performed, oldest first (17 R599). -/
  serving : List WinServe
  answered : List Answered
  deriving DecidableEq, Repr

/-- The link after reset. -/
def Brg.reset : Brg where
  lead := false
  ports := [BPort.reset, BPort.reset]
  bq := []
  landing := []
  landed := []
  enumDue := false
  enumLeft := 0
  enumWait := false
  enumCount := 0
  endNode := 0xFF
  frac := 0
  slew := 0
  sfn := 0
  beamSeq := 0
  beam := 0
  rx := []
  rxLast := [List.replicate 32 none, List.replicate 32 none]
  sent := [none, none]
  out := []
  tag := 0
  waiting := []
  wins := []
  serving := []
  answered := []

/-! ## Pins and peripherals (18) -/

/-- The GPIO pins (18 R607 to R618). -/
structure Gpi where
  /-- Owner code of pins 0..95: 0 NONE, 1 SAFETY, 2 HOST, 3 APP, 4 LINK, 5 VARAN (18 R611). -/
  owner : List Nat
  /-- The pin table of the image that started last (18 R614). -/
  table : Option (List Word)
  /-- The levels that the outside gives the balls. -/
  ext : List Bool
  /-- The function outputs that reach their pins' drivers: FV and FOE (18 R616). -/
  fv : List Bool
  foe : List Bool
  /-- Bank k's supply is out of range (18 R608, R687). -/
  bad : List Bool
  /-- Bank k's sensed supply: 0 1.8 V, 1 3.3 V (18 R608). -/
  volt : List Nat
  deriving DecidableEq, Repr

/-- The pins after reset: no owner, every input low, supplies good at 1.8 V (18 R611; log 3). -/
def Gpi.reset : Gpi where
  owner := List.replicate 96 0
  table := none
  ext := List.replicate 96 false
  fv := List.replicate 96 false
  foe := List.replicate 96 false
  bad := List.replicate 4 false
  volt := List.replicate 4 0

/-- An I2C transfer that runs (18 R640). -/
structure I2cRun where
  addr : Nat
  a10 : Bool
  tx : List Byte
  rlen : Nat
  deriving DecidableEq, Repr

/-- A UART's FIFOs, oldest byte first (18 R644). -/
structure Uart where
  rx : List Byte
  tx : List Byte
  deriving DecidableEq, Repr

/-- An xSPI command that runs (18 R630): its XSP_CMD word, address and data to write. -/
structure XspCmd where
  word : Word
  addr : Nat
  data : List Byte
  deriving DecidableEq, Repr

/-- An xSPI DMA that runs (18 R631). -/
structure XspDma where
  src : Nat
  dst : Nat
  len : Nat
  deriving DecidableEq, Repr

/-- The xSPI controller: the read buffer, most recently used line first (18 R629), the line being fetched, the line being
prefetched, the running command and DMA. -/
structure Xsp where
  lines : List (Nat × List Byte)
  miss : Option Nat
  prefetch : Option Nat
  cmd : Option XspCmd
  dma : Option XspDma
  deriving DecidableEq, Repr

/-! ## The non-volatile store, the fuses and the command engine (04, 19) -/

/-- A record that a transaction of the store makes valid with its commit: the engine records (19 R647), a secret slot
(19 R673) and the key record (19 R669). -/
inductive NvRec where
  | policy (p : Nat)
  | runSet (mask : Nat)
  | factoryLock
  | link (record : List Byte)
  | avas (record : List Byte)
  | secret (slot : Nat) (appRead : Bool) (data : List Byte)
  | key (k : Nat)
  deriving DecidableEq, Repr

/-- One row write of the store (19 R648): a changed logical row into a free physical row, a commit record, the
zeroization-pending record, the erasure of a physical row of the secure region, the pending record cleared. -/
inductive NvStep where
  | row (logical phys : Nat) (data : List Byte)
  | commit
  | pend (openFlag : Bool)
  | erase (phys : Nat)
  | unpend
  deriving DecidableEq, Repr

/-- What follows when a piece of work of the store is done: nothing (a stored safety setting, a wear move); the reply of the
class N command that runs; a start goes on (its key record is written); LIFECYCLE_SET to FIELD has its key; a zeroization of
DEBUG_OPEN, of LIFECYCLE_SET to FIELD or to RETURNED, or one resumed at a start. -/
inductive NvAfter where
  | nothing
  | reply (status : Nat) (data : List Byte)
  | keyStart | keyField
  | debug | field | returned
  | resume (openFlag : Bool)
  deriving DecidableEq, Repr

/-- A piece of work of the store: its row writes still to make, the front one in progress; the records that its commit makes
valid; the logical rows it rewrites, each with the free row it took; verifies failed in a row; what follows. -/
structure NvWork where
  steps : List NvStep
  recs : List NvRec
  taken : List (Nat × Nat)
  fails : Nat
  after : NvAfter
  deriving DecidableEq, Repr

/-- A fuse operation in progress (19 R663, R664). -/
inductive FuseOp where
  | keyhash (slot : Nat) (hash : Nat)
  | revoke (slot : Nat)
  | life (target : Nat)
  deriving DecidableEq, Repr

/-- A port of the command engine, or one slot of the LK port (04 R103, R113, R123 to R138). -/
structure EPort where
  /-- 0 CLOSED, 1 OPEN, 2 SELECTED. -/
  session : Nat
  mask : Nat
  rxmax : Nat
  /-- OPCODE, SEQ and reply packet of the last completed command (R138). -/
  stored : Option (Nat × Nat × List Byte)
  /-- OPCODE and SEQ of the command that executes, and whether its reply is discarded (R137, R143, R144). -/
  exec : Option (Nat × Nat)
  discard : Bool
  /-- The reply that is ready to be read. -/
  ready : Option (List Byte)
  overrun : Nat
  rejects : Nat
  lastStat : Nat
  lastOp : Nat
  framing : Nat
  lost : Nat
  notices : Nat
  /-- The source node of an LK slot, and the TAG of its last request. -/
  node : Option Nat
  tag : Nat
  deriving DecidableEq, Repr

/-- A port after reset: its session CLOSED, nothing counted. -/
def EPort.reset : EPort := ⟨0, 0, 24, none, none, false, none, 0, 0, 0, 0, 0, 0, 0, none, 0⟩

/-- A class N command taken (04 R134): port, OPCODE, SEQ, parameters. -/
structure NReq where
  port : Nat
  op : Nat
  seq : Nat
  par : List Byte
  deriving DecidableEq, Repr

/-- A class J command taken (04 R135): its port, OPCODE, SEQ, parameters, and its status and reply data once its job is
done. -/
structure Job where
  port : Nat
  op : Nat
  seq : Nat
  par : List Byte
  result : Option (Nat × List Byte)
  deriving DecidableEq, Repr

/-- The image being loaded, or loaded last (19 R665 to R670). -/
structure Img where
  /-- 0 none, 1 loading, 2 verified, 3 running (IMAGE_INFO). -/
  state : Nat
  /-- Where it comes from: 0 by command, 1 from flash, 2 resident in work memory. -/
  src : Nat
  /-- The length that IMAGE_BEGIN gave, the bytes received, and how many of them are in work memory. -/
  total : Nat
  data : List Byte
  placed : Nat
  /-- The first of checks 1 to 3 that the header fails; 0 where it passes or is not whole. -/
  bad : Nat
  /-- All bytes are in and the checks run (IMAGE_VERIFY_DONE ends them). -/
  checking : Bool
  /-- The port code of the command that loads it, 0xFF for a start. -/
  port : Nat
  /-- The header of the image last verified, and the first 16 bytes of its digest. -/
  header : List Byte
  digest : List Byte
  /-- LOADBASE and IMGLEN of the image last started, kept in PD00 (03 R88, 19 R670). -/
  resident : Option (Nat × Nat)
  deriving DecidableEq, Repr

/-- No image. -/
def Img.reset : Img := ⟨0, 0, 0, [], 0, 0, false, 0xFF, [], [], none⟩

/-- The command engine, in PD01 but for what the docstrings say. -/
structure Eng where
  /-- SP, HP, MB, DP, then the four LK slots. -/
  ports : List EPort
  job : Option Job
  /-- The class N command that runs, and those that wait (R134). -/
  ncur : Option NReq
  nq : List NReq
  /-- Work of the store, the front piece in progress; a wear move; its row write is the one in progress; it is overdue
  (19 R651 to R654, 06 R222). -/
  work : List NvWork
  wear : Option NvWork
  wearRow : Bool
  wearDue : Bool
  fuse : Option FuseOp
  /-- Zeroization is running (R675 step 2 to 5). -/
  zero : Bool
  /-- Vendor debug access is open; DEBUG_OPEN ran since the last start (19 R675, R678, R680). -/
  debugOpen : Bool
  debugUsed : Bool
  /-- The device key as the crypto engine in PD49 holds it (19 R672). -/
  devKey : Option Nat
  /-- Telemetry: the period in ms, the group mask, the latest record of each group (R150). -/
  telPeriod : Nat
  telMask : Nat
  telRecs : List (Option (List Byte))
  img : Img
  /-- The device section of the calibration taken at the last start: LVDS_VOD, LVDS_PRE, LK0_SWING, LK0_EQ, LK1_SWING, LK1_EQ,
  TEMP_OFS; and those of the codes that PD32, PD41 and PD42 use since their last switch-on (19 R656, R657). -/
  cal : List Nat
  phyCal : List Nat
  /-- Fragments of command requests and replies that have arrived: source, tag, bytes (17 R591). -/
  reqFrag : List (Nat × Nat × List Byte)
  repFrag : List (Nat × Nat × List Byte)
  /-- The bytes that the last transaction of SP, HP or DP clocked out (04 R107, R110, R114). -/
  out : List Byte
  deriving DecidableEq, Repr

/-- The engine after reset (04 R150 for the telemetry, 19 R656 for the calibration). -/
def Eng.reset : Eng where
  ports := List.replicate 8 EPort.reset
  job := none
  ncur := none
  nq := []
  work := []
  wear := none
  wearRow := false
  wearDue := false
  fuse := none
  zero := false
  debugOpen := false
  debugUsed := false
  devKey := none
  telPeriod := 1000
  telMask := 1
  telRecs := [none, none, none, none]
  img := Img.reset
  cal := [3, 0, 4, 2, 4, 2, 0]
  phyCal := [3, 0, 4, 2, 4, 2]
  reqFrag := []
  repFrag := []
  out := []
/-- Everything the spec gives the device but what the non-volatile store and the fuses hold. -/
structure Hw where
  /-- Register clock cycles counted by the empty-queue step (log 2); the model's own. -/
  cycle : Nat
  /-- Picks the next free value of Config (log 1); the model's own. -/
  freeCount : Nat
  /-- Registers as software reads them, by address; one not listed holds its reset value (02 R32, R39). -/
  regs : List (Nat × Word)
  /-- Active values of shadowed registers, by address (02 R51, R52, R56). -/
  act : List (Nat × Word)
  /-- CI increments put off to the next cycle (02 R43). -/
  ciDue : List CiDue
  /-- Upper words latched by a read of a wide value's lower register, by its address (02 R31). -/
  wideRead : List (Nat × Word)
  /-- Lower words written and waiting for the upper write, by the lower register's address (02 R31). -/
  wideWrite : List (Nat × Word)
  /-- Every memory byte by address: work memory, pennant store, T5 RAMs, boot ROM, local RAMs (05 R152); one not listed reads as memReset. -/
  mem : List Host.Cell
  /-- Power, clocks and wake. -/
  pwr : Pwr
  /-- The four efts (07 R224 to R228). -/
  efts : Vector Eft 4
  /-- The instruction and data caches, no line valid (07 R265; log 4). -/
  caches : Caches
  /-- The recovery log, newest first, 32 records (04 R148). -/
  recLog : List RecRec
  /-- The all-wait condition has been reported and has not failed since (07 R254). -/
  awArmed : Bool
  /-- The bus matrix. -/
  mtx : Mtx
  /-- GPIO pins (18 R607 to R618). -/
  gpi : Gpi
  /-- Transfers of I2C0 and I2C1 (18 R640). -/
  i2c : List (Option I2cRun)
  /-- UART0 and UART1 (18 R644). -/
  uart : List Uart
  /-- The xSPI controller (18 R627 to R631). -/
  xsp : Xsp
  /-- The event log, newest first, 256 records (04 R149). -/
  evLog : List EvRec
  /-- The pennant plane and the signal table (12). -/
  pen : Pen
  /-- The CAN FD controller (18 R620 to R626). -/
  can : Can
  /-- EVENT condition units of Varan that hardware's EVT bits have made true and that Varan has not taken yet (16 R536). -/
  varPulse : List Nat
  /-- Varan (16). -/
  var : Var
  /-- The burgee link (17). -/
  brg : Brg
  /-- The coprocessor slots (08 R291 to R303). -/
  cop : Cop
  /-- The voice engine and the pennant sound (14). -/
  voc : Voc
  /-- The mix graph (15). -/
  mix : Mix
  /-- The display timing engine (09). -/
  tim : Tim
  /-- The line list sequencer (11 R389). -/
  lnl : Lnl
  /-- The texel store: the address and the bytes of each image loaded (10 R376). -/
  texels : List (Nat × List Byte)
  /-- The camera interface and the capture (10 R360, 18 R632). -/
  cam : Cam
  /-- The Anole blitter (13). -/
  ano : Ano
  /-- The bandwidth ledger (06). -/
  ldg : Ldg
  /-- The command engine (04, 19). -/
  eng : Eng
  deriving DecidableEq, Repr

/-- Hw: its value right after reset (the logs name every value that the spec does not give). -/
def Hw.reset : Hw where
  cycle := 0
  freeCount := 0
  regs := []
  act := []
  ciDue := []
  wideRead := []
  wideWrite := []
  mem := []
  pwr := Pwr.reset
  efts := Vector.replicate 4 Eft.reset
  caches := ⟨[], [], [], []⟩
  recLog := []
  awArmed := false
  mtx := Mtx.reset
  gpi := Gpi.reset
  i2c := [none, none]
  uart := [⟨[], []⟩, ⟨[], []⟩]
  xsp := ⟨[], none, none, none, none⟩
  evLog := []
  pen := Pen.reset
  can := Can.reset
  varPulse := []
  var := Var.reset
  brg := Brg.reset
  cop := Cop.reset
  voc := Voc.reset
  mix := Mix.reset
  tim := Tim.reset
  lnl := ⟨0, 0, none⟩
  texels := []
  cam := Cam.reset
  ano := Ano.reset
  ldg := Ldg.reset
  eng := Eng.reset

/-- What the non-volatile store of PD48 and the fuses hold (19 R647, R661): it survives every reset and loss of supply. -/
structure Nv where
  /-- The data bytes of the physical rows, by number; one not listed is erased: 64 bytes of 0xFF (19 R647, R649). -/
  rows : List (Nat × List Byte)
  /-- The write count of each physical row; one not listed is 0 (19 R652). -/
  counts : List (Nat × Nat)
  /-- The physical row of each logical row; one not listed is the row of its own number (19 R647; log 60). -/
  map : List (Nat × Nat)
  /-- The rows from here to 32,767 are free and have never been written: the wear reserve as delivered (19 R647). -/
  fresh : Nat
  /-- The other free rows of the wear reserve (19 R651). -/
  freed : List Nat
  /-- The free private spare rows of the secure region (19 R647, R653). -/
  spares : List Nat
  /-- Rows whose count has reached 1,000,000 and that still serve (19 R652). -/
  worn : List Nat
  /-- Worn rows withdrawn from use (19 R652). -/
  withdrawn : List Nat
  /-- The next row of the map journal's ring of 512 (19 R651). -/
  journal : Nat
  /-- Row writes to each region since the store was first used (19 R655, NVM_WEAR). -/
  writes : List Nat
  /-- Whether the last write of each region was refused with NVM_WORN (19 R655, NVM_WEAR). -/
  refused : List Bool
  /-- The start policy (03 R95). -/
  policy : Option Nat
  /-- The run set, bit k for PDk (03 R88). -/
  runSet : Option Nat
  /-- The link policy stored with PERSIST = 1 (17 R593). -/
  link : Option (List Byte)
  /-- The AVAS bus record stored with PERSIST = 1 (14 R498). -/
  avas : Option (List Byte)
  /-- The factory lock (19 R660). -/
  factoryLock : Bool
  /-- The zeroization-pending record and its OPEN flag (19 R675). -/
  pendingZero : Option Bool
  /-- Zeroizations completed (19 R675). -/
  zeroCount : Nat
  /-- The key record of the secure region (19 R672). -/
  key : Option Nat
  /-- The secret slots that hold something: APPREAD and content (19 R673). -/
  secrets : List (Nat × (Bool × List Byte))
  /-- Fuses KH0..KH3 (19 R661). -/
  kh : List Nat
  /-- Fuses PRG. -/
  prg : Nat
  /-- Fuses REV. -/
  rev : Nat
  /-- Fuses LIFE: bit 0 FIELD, bit 1 RETURNED. -/
  life : Nat
  /-- Blown bits of the SVN fuses, the security version floor. -/
  svn : Nat
  deriving DecidableEq, Repr

/-- Nv: its value right after reset (the logs name every value that the spec does not give). -/
def Nv.reset : Nv where
  rows := []
  counts := []
  map := []
  fresh := 18208
  freed := []
  spares := (List.range 32).map (fun i => 768 + i)
  worn := []
  withdrawn := []
  journal := 0
  writes := [0, 0, 0, 0]
  refused := [false, false, false, false]
  policy := none
  runSet := none
  link := none
  avas := none
  factoryLock := false
  pendingZero := none
  zeroCount := 0
  key := none
  secrets := []
  kh := [0, 0, 0, 0]
  prg := 0
  rev := 0
  life := 0
  svn := 0

/-- The state: the queue of waiting commands, first in first out; what the fuses and the non-volatile store hold; and
everything else. -/
structure State where
  pending : List Instr
  nv : Nv
  hw : Hw
  deriving DecidableEq, Repr

/-- The machine right after reset: the queue empty, every field at its reset value. -/
def State.reset : State where
  pending := []
  nv := Nv.reset
  hw := Hw.reset

end Sys2Proof.Machine
end

