-- ==== Sys2Proof/Machine/RegNames.lean ====
section
/-! DEFINITION. Names of the register fields (the register tables of the spec): base address, stride of the row and bit
range of each, so that a meaning names a field as the spec does. -/

namespace Sys2Proof.Machine.F

/-! SYS -/
abbrev SYS_REVID_REV : FieldRef := ⟨0x4000040, 0x4, 31, 0⟩
abbrev SYS_STATE_XT24HOLD : FieldRef := ⟨0x4000044, 0x4, 12, 12⟩
abbrev SYS_STATE_TRANSIT : FieldRef := ⟨0x4000044, 0x4, 8, 8⟩
abbrev SYS_STATE_TARGET : FieldRef := ⟨0x4000044, 0x4, 5, 4⟩
abbrev SYS_STATE_STATE : FieldRef := ⟨0x4000044, 0x4, 1, 0⟩
abbrev SYS_PDSTAT0_ON : FieldRef := ⟨0x4000048, 0x4, 31, 0⟩
abbrev SYS_PDSTAT1_ON : FieldRef := ⟨0x400004C, 0x4, 17, 0⟩
abbrev SYS_BANKRET_LIVE : FieldRef := ⟨0x4000050, 0x4, 31, 16⟩
abbrev SYS_BANKRET_MASK : FieldRef := ⟨0x4000050, 0x4, 15, 0⟩
abbrev SYS_CLKSTAT_LNK_LOCK : FieldRef := ⟨0x4000054, 0x4, 11, 11⟩
abbrev SYS_CLKSTAT_AUD_LOCK : FieldRef := ⟨0x4000054, 0x4, 10, 10⟩
abbrev SYS_CLKSTAT_PIX_LOCK : FieldRef := ⟨0x4000054, 0x4, 9, 9⟩
abbrev SYS_CLKSTAT_SYS_LOCK : FieldRef := ⟨0x4000054, 0x4, 8, 8⟩
abbrev SYS_CLKSTAT_XT24_OK : FieldRef := ⟨0x4000054, 0x4, 4, 4⟩
abbrev SYS_CLKSTAT_LSC_FAIL : FieldRef := ⟨0x4000054, 0x4, 1, 1⟩
abbrev SYS_CLKSTAT_LSC_SRC : FieldRef := ⟨0x4000054, 0x4, 0, 0⟩
abbrev SYS_WAKECFG_AUTORUN : FieldRef := ⟨0x4000058, 0x4, 29, 24⟩
abbrev SYS_WAKECFG_GPIO_POL : FieldRef := ⟨0x4000058, 0x4, 23, 16⟩
abbrev SYS_WAKECFG_EN_GPIO : FieldRef := ⟨0x4000058, 0x4, 15, 8⟩
abbrev SYS_WAKECFG_EN_WAKE : FieldRef := ⟨0x4000058, 0x4, 6, 6⟩
abbrev SYS_WAKECFG_EN_LNK1 : FieldRef := ⟨0x4000058, 0x4, 5, 5⟩
abbrev SYS_WAKECFG_EN_LNK0 : FieldRef := ⟨0x4000058, 0x4, 4, 4⟩
abbrev SYS_WAKECFG_EN_TMR : FieldRef := ⟨0x4000058, 0x4, 3, 3⟩
abbrev SYS_WAKECFG_WAKE_EDGE : FieldRef := ⟨0x4000058, 0x4, 2, 2⟩
abbrev SYS_WAKECFG_WAKE_POL : FieldRef := ⟨0x4000058, 0x4, 1, 1⟩
abbrev SYS_WAKECFG_EN_SPCS : FieldRef := ⟨0x4000058, 0x4, 0, 0⟩
abbrev SYS_WAKESRC_GPIO : FieldRef := ⟨0x400005C, 0x4, 15, 8⟩
abbrev SYS_WAKESRC_LNK1 : FieldRef := ⟨0x400005C, 0x4, 4, 4⟩
abbrev SYS_WAKESRC_LNK0 : FieldRef := ⟨0x400005C, 0x4, 3, 3⟩
abbrev SYS_WAKESRC_TMR : FieldRef := ⟨0x400005C, 0x4, 2, 2⟩
abbrev SYS_WAKESRC_WAKEPIN : FieldRef := ⟨0x400005C, 0x4, 1, 1⟩
abbrev SYS_WAKESRC_SPCS : FieldRef := ⟨0x400005C, 0x4, 0, 0⟩
abbrev SYS_WAKESTAMP_STAMP : FieldRef := ⟨0x4000060, 0x4, 31, 0⟩
abbrev SYS_RSTCAUSE_ZRESUME : FieldRef := ⟨0x4000064, 0x4, 6, 6⟩
abbrev SYS_RSTCAUSE_DEEPEXIT : FieldRef := ⟨0x4000064, 0x4, 5, 5⟩
abbrev SYS_RSTCAUSE_APP : FieldRef := ⟨0x4000064, 0x4, 4, 4⟩
abbrev SYS_RSTCAUSE_SYSCMD : FieldRef := ⟨0x4000064, 0x4, 3, 3⟩
abbrev SYS_RSTCAUSE_PIN : FieldRef := ⟨0x4000064, 0x4, 2, 2⟩
abbrev SYS_RSTCAUSE_BOR : FieldRef := ⟨0x4000064, 0x4, 1, 1⟩
abbrev SYS_RSTCAUSE_POR : FieldRef := ⟨0x4000064, 0x4, 0, 0⟩
/-! MTX -/
abbrev MTX_LOCKTO_LIMIT : FieldRef := ⟨0x4010040, 0x4, 15, 0⟩
abbrev MTX_LOCKSTAT_ACTIVE : FieldRef := ⟨0x4010044, 0x4, 31, 31⟩
abbrev MTX_LOCKSTAT_MASTER : FieldRef := ⟨0x4010044, 0x4, 27, 24⟩
abbrev MTX_LOCKSTAT_TARGET : FieldRef := ⟨0x4010044, 0x4, 19, 16⟩
abbrev MTX_LOCKSTAT_AGE : FieldRef := ⟨0x4010044, 0x4, 15, 0⟩
abbrev MTX_DERRADDR_ADDR : FieldRef := ⟨0x4010048, 0x4, 31, 0⟩
abbrev MTX_DERRINFO_VALID : FieldRef := ⟨0x401004C, 0x4, 31, 31⟩
abbrev MTX_DERRINFO_LOST : FieldRef := ⟨0x401004C, 0x4, 30, 30⟩
abbrev MTX_DERRINFO_KIND : FieldRef := ⟨0x401004C, 0x4, 19, 16⟩
abbrev MTX_DERRINFO_ID : FieldRef := ⟨0x401004C, 0x4, 9, 8⟩
abbrev MTX_DERRINFO_WRITE : FieldRef := ⟨0x401004C, 0x4, 4, 4⟩
abbrev MTX_DERRINFO_MASTER : FieldRef := ⟨0x401004C, 0x4, 3, 0⟩
abbrev MTX_DERRMST_MASTERS : FieldRef := ⟨0x4010050, 0x4, 11, 0⟩
abbrev MTX_ECCADDR_ADDR : FieldRef := ⟨0x4010054, 0x4, 31, 0⟩
abbrev MTX_ECCINFO_VALID : FieldRef := ⟨0x4010058, 0x4, 31, 31⟩
abbrev MTX_ECCINFO_LOST : FieldRef := ⟨0x4010058, 0x4, 30, 30⟩
abbrev MTX_ECCINFO_UE : FieldRef := ⟨0x4010058, 0x4, 24, 24⟩
abbrev MTX_ECCINFO_BANK : FieldRef := ⟨0x4010058, 0x4, 19, 16⟩
abbrev MTX_ECCINFO_MASTER : FieldRef := ⟨0x4010058, 0x4, 11, 8⟩
abbrev MTX_ECCINFO_SYNDROME : FieldRef := ⟨0x4010058, 0x4, 7, 0⟩
abbrev MTX_ECCCFG_UETHR : FieldRef := ⟨0x401005C, 0x4, 3, 0⟩
abbrev MTX_BANKSTAT_BANK0 : FieldRef := ⟨0x4010060, 0x4, 3, 0⟩
abbrev MTX_BANKSTAT_BANK1 : FieldRef := ⟨0x4010060, 0x4, 7, 4⟩
abbrev MTX_BANKSTAT_BANK2 : FieldRef := ⟨0x4010060, 0x4, 11, 8⟩
abbrev MTX_BANKSTAT_BANK3 : FieldRef := ⟨0x4010060, 0x4, 15, 12⟩
abbrev MTX_BANKSTAT_BANK4 : FieldRef := ⟨0x4010060, 0x4, 19, 16⟩
abbrev MTX_BANKSTAT_BANK5 : FieldRef := ⟨0x4010060, 0x4, 23, 20⟩
abbrev MTX_BANKSTAT_BANK6 : FieldRef := ⟨0x4010060, 0x4, 27, 24⟩
abbrev MTX_BANKSTAT_BANK7 : FieldRef := ⟨0x4010060, 0x4, 31, 28⟩
abbrev MTX_RELLOG_VALID : FieldRef := ⟨0x4010068, 0x4, 31, 31⟩
abbrev MTX_RELLOG_LOCK : FieldRef := ⟨0x4010068, 0x4, 16, 16⟩
abbrev MTX_RELLOG_COUNT : FieldRef := ⟨0x4010068, 0x4, 15, 8⟩
abbrev MTX_RELLOG_MASTER : FieldRef := ⟨0x4010068, 0x4, 3, 0⟩
abbrev MTX_DR_BASE_ADDR : FieldRef := ⟨0x4010080, 0x10, 31, 12⟩
abbrev MTX_DR_LIMIT_ADDR : FieldRef := ⟨0x4010084, 0x10, 31, 12⟩
abbrev MTX_DR_CTRL_STALL_LIMIT : FieldRef := ⟨0x4010088, 0x10, 31, 16⟩
abbrev MTX_DR_CTRL_MODE : FieldRef := ⟨0x4010088, 0x10, 1, 1⟩
abbrev MTX_DR_CTRL_EN : FieldRef := ⟨0x4010088, 0x10, 0, 0⟩
abbrev MTX_ECCCNT_UE : FieldRef := ⟨0x4010100, 0x4, 23, 16⟩
abbrev MTX_ECCCNT_CE : FieldRef := ⟨0x4010100, 0x4, 15, 0⟩
abbrev MTX_OUTST_HELD : FieldRef := ⟨0x4010140, 0x4, 23, 16⟩
abbrev MTX_OUTST_WR : FieldRef := ⟨0x4010140, 0x4, 11, 8⟩
abbrev MTX_OUTST_RD : FieldRef := ⟨0x4010140, 0x4, 3, 0⟩
/-! LDG -/
abbrev LDG_CAP_PCAP : FieldRef := ⟨0x4020040, 0x4, 24, 16⟩
abbrev LDG_CAP_CAP : FieldRef := ⟨0x4020040, 0x4, 10, 0⟩
abbrev LDG_STAT_OVER : FieldRef := ⟨0x4020044, 0x4, 31, 31⟩
abbrev LDG_STAT_REFPORT : FieldRef := ⟨0x4020044, 0x4, 30, 27⟩
abbrev LDG_STAT_EFFCAP : FieldRef := ⟨0x4020044, 0x4, 26, 16⟩
abbrev LDG_STAT_BOOKED : FieldRef := ⟨0x4020044, 0x4, 10, 0⟩
abbrev LDG_PORT_MARGIN : FieldRef := ⟨0x4020048, 0x4, 31, 31⟩
abbrev LDG_PORT_STORM : FieldRef := ⟨0x4020048, 0x4, 30, 30⟩
abbrev LDG_PORT_WBQ : FieldRef := ⟨0x4020048, 0x4, 29, 24⟩
abbrev LDG_PORT_EPCAP : FieldRef := ⟨0x4020048, 0x4, 23, 12⟩
abbrev LDG_PORT_BOOKED : FieldRef := ⟨0x4020048, 0x4, 11, 0⟩
abbrev LDG_SHEDSTAT_SHED : FieldRef := ⟨0x4020058, 0x4, 15, 1⟩
abbrev LDG_SHEDORD0_CODES : FieldRef := ⟨0x4020060, 0x4, 31, 0⟩
abbrev LDG_SHEDORD1_CODES : FieldRef := ⟨0x4020064, 0x4, 31, 0⟩
abbrev LDG_SHEDORD2_CODES : FieldRef := ⟨0x4020068, 0x4, 31, 0⟩
abbrev LDG_DISPTOL_TOL : FieldRef := ⟨0x4020070, 0x4, 15, 0⟩
abbrev LDG_SLEEPCFG_GUARD : FieldRef := ⟨0x4020074, 0x4, 23, 16⟩
abbrev LDG_SLEEPCFG_IDLE : FieldRef := ⟨0x4020074, 0x4, 15, 8⟩
abbrev LDG_SLEEPCFG_EN_RET : FieldRef := ⟨0x4020074, 0x4, 1, 1⟩
abbrev LDG_SLEEPCFG_EN_LIGHT : FieldRef := ⟨0x4020074, 0x4, 0, 0⟩
abbrev LDG_TOLWM_CFG_HYST : FieldRef := ⟨0x4020078, 0x4, 31, 16⟩
abbrev LDG_TOLWM_CFG_THRESH : FieldRef := ⟨0x4020078, 0x4, 15, 0⟩
abbrev LDG_TOLWM_STAT_BELOW : FieldRef := ⟨0x402007C, 0x4, 16, 16⟩
abbrev LDG_TOLWM_STAT_LEVEL : FieldRef := ⟨0x402007C, 0x4, 15, 0⟩
abbrev LDG_TOLWM_REC_CROSS : FieldRef := ⟨0x4020080, 0x4, 31, 16⟩
abbrev LDG_TOLWM_REC_EXTREME : FieldRef := ⟨0x4020080, 0x4, 15, 0⟩
abbrev LDG_BGSTAT_WBDROP : FieldRef := ⟨0x4020088, 0x4, 31, 16⟩
abbrev LDG_BGSTAT_FORCED : FieldRef := ⟨0x4020088, 0x4, 15, 0⟩
abbrev LDG_STORMCFG_LU : FieldRef := ⟨0x402008C, 0x4, 23, 16⟩
abbrev LDG_STORMCFG_LO : FieldRef := ⟨0x402008C, 0x4, 13, 8⟩
abbrev LDG_STORMCFG_HI : FieldRef := ⟨0x402008C, 0x4, 5, 0⟩
abbrev LDG_RES_BANKS : FieldRef := ⟨0x4020110, 0x10, 31, 16⟩
abbrev LDG_RES_SHEDDABLE : FieldRef := ⟨0x4020110, 0x10, 15, 15⟩
abbrev LDG_RES_BURST : FieldRef := ⟨0x4020110, 0x10, 14, 11⟩
abbrev LDG_RES_LU : FieldRef := ⟨0x4020110, 0x10, 10, 0⟩
abbrev LDG_RES_UNIT_BANKS : FieldRef := ⟨0x4020170, 0x10, 31, 16⟩
abbrev LDG_RES_UNIT_BURST : FieldRef := ⟨0x4020170, 0x10, 14, 11⟩
abbrev LDG_RES_UNIT_LU : FieldRef := ⟨0x4020170, 0x10, 10, 0⟩
abbrev LDG_RES_PEN_BANKS : FieldRef := ⟨0x40201E0, 0x4, 31, 16⟩
abbrev LDG_RES_PEN_BURST : FieldRef := ⟨0x40201E0, 0x4, 14, 11⟩
abbrev LDG_RES_PEN_LU : FieldRef := ⟨0x40201E0, 0x4, 10, 0⟩
abbrev LDG_RES_PVOC_BANKS : FieldRef := ⟨0x40201F0, 0x4, 31, 16⟩
abbrev LDG_RES_PVOC_BURST : FieldRef := ⟨0x40201F0, 0x4, 14, 11⟩
abbrev LDG_RES_PVOC_LU : FieldRef := ⟨0x40201F0, 0x4, 10, 0⟩
abbrev LDG_TOL_TOL : FieldRef := ⟨0x4020114, 0x10, 15, 0⟩
abbrev LDG_ACT_BANKS : FieldRef := ⟨0x4020118, 0x10, 31, 16⟩
abbrev LDG_ACT_SHEDDABLE : FieldRef := ⟨0x4020118, 0x10, 15, 15⟩
abbrev LDG_ACT_LU : FieldRef := ⟨0x4020118, 0x10, 10, 0⟩
abbrev LDG_ACT_PEN_BANKS : FieldRef := ⟨0x40201E8, 0x4, 31, 16⟩
abbrev LDG_ACT_PEN_LU : FieldRef := ⟨0x40201E8, 0x4, 10, 0⟩
abbrev LDG_ACT_PVOC_BANKS : FieldRef := ⟨0x40201F8, 0x4, 31, 16⟩
abbrev LDG_ACT_PVOC_LU : FieldRef := ⟨0x40201F8, 0x4, 10, 0⟩
abbrev LDG_CRED_DEMOTE : FieldRef := ⟨0x402011C, 0x10, 31, 16⟩
abbrev LDG_CRED_DECIM : FieldRef := ⟨0x402011C, 0x10, 11, 8⟩
abbrev LDG_CRED_CREDIT : FieldRef := ⟨0x402011C, 0x10, 7, 0⟩
/-! TIM -/
abbrev TIM_CTRL_RUN : FieldRef := ⟨0x4030040, 0x4, 0, 0⟩
abbrev TIM_H0_HFP : FieldRef := ⟨0x4030044, 0x4, 27, 16⟩
abbrev TIM_H0_HACT : FieldRef := ⟨0x4030044, 0x4, 11, 0⟩
abbrev TIM_H1_HBP : FieldRef := ⟨0x4030048, 0x4, 27, 16⟩
abbrev TIM_H1_HSW : FieldRef := ⟨0x4030048, 0x4, 7, 0⟩
abbrev TIM_V0_VFP : FieldRef := ⟨0x403004C, 0x4, 27, 16⟩
abbrev TIM_V0_VACT : FieldRef := ⟨0x403004C, 0x4, 11, 0⟩
abbrev TIM_V1_VBP : FieldRef := ⟨0x4030050, 0x4, 27, 16⟩
abbrev TIM_V1_VSW : FieldRef := ⟨0x4030050, 0x4, 5, 0⟩
abbrev TIM_PIXCLK_KHZ : FieldRef := ⟨0x4030054, 0x4, 17, 0⟩
abbrev TIM_OUT_EDGE : FieldRef := ⟨0x4030058, 0x4, 12, 12⟩
abbrev TIM_OUT_DEPOL : FieldRef := ⟨0x4030058, 0x4, 10, 10⟩
abbrev TIM_OUT_VSPOL : FieldRef := ⟨0x4030058, 0x4, 9, 9⟩
abbrev TIM_OUT_HSPOL : FieldRef := ⟨0x4030058, 0x4, 8, 8⟩
abbrev TIM_OUT_DITHER : FieldRef := ⟨0x4030058, 0x4, 7, 7⟩
abbrev TIM_OUT_LINKSWAP : FieldRef := ⟨0x4030058, 0x4, 6, 6⟩
abbrev TIM_OUT_MAP : FieldRef := ⟨0x4030058, 0x4, 5, 5⟩
abbrev TIM_OUT_BPP18 : FieldRef := ⟨0x4030058, 0x4, 4, 4⟩
abbrev TIM_OUT_MODE : FieldRef := ⟨0x4030058, 0x4, 1, 0⟩
abbrev TIM_LOCK_OFFSET : FieldRef := ⟨0x403005C, 0x4, 31, 16⟩
abbrev TIM_LOCK_XEDGE : FieldRef := ⟨0x403005C, 0x4, 5, 5⟩
abbrev TIM_LOCK_ACQ : FieldRef := ⟨0x403005C, 0x4, 4, 4⟩
abbrev TIM_LOCK_SRC : FieldRef := ⟨0x403005C, 0x4, 1, 0⟩
abbrev TIM_LINEIRQ_LINE : FieldRef := ⟨0x4030060, 0x4, 11, 0⟩
abbrev TIM_STAT_NOPHY : FieldRef := ⟨0x4030064, 0x4, 12, 12⟩
abbrev TIM_STAT_SHSEAM : FieldRef := ⟨0x4030064, 0x4, 9, 9⟩
abbrev TIM_STAT_SHBAD : FieldRef := ⟨0x4030064, 0x4, 8, 8⟩
abbrev TIM_STAT_STATE : FieldRef := ⟨0x4030064, 0x4, 2, 0⟩
abbrev TIM_POS_LINE : FieldRef := ⟨0x4030068, 0x4, 27, 16⟩
abbrev TIM_POS_PIXEL : FieldRef := ⟨0x4030068, 0x4, 11, 0⟩
abbrev TIM_FRAME_COUNT : FieldRef := ⟨0x403006C, 0x4, 31, 0⟩
abbrev TIM_LOCKSTAT_PULL : FieldRef := ⟨0x4030070, 0x4, 31, 16⟩
abbrev TIM_LOCKSTAT_PHASE : FieldRef := ⟨0x4030070, 0x4, 15, 4⟩
abbrev TIM_LOCKSTAT_STATE : FieldRef := ⟨0x4030070, 0x4, 2, 0⟩
abbrev TIM_LOCKCNT_JUMPS : FieldRef := ⟨0x4030074, 0x4, 31, 16⟩
abbrev TIM_LOCKCNT_UNLOCKS : FieldRef := ⟨0x4030074, 0x4, 15, 0⟩
abbrev TIM_LBWM_CFG_HYST : FieldRef := ⟨0x4030080, 0x4, 31, 16⟩
abbrev TIM_LBWM_CFG_THRESH : FieldRef := ⟨0x4030080, 0x4, 15, 0⟩
abbrev TIM_LBWM_STAT_BELOW : FieldRef := ⟨0x4030084, 0x4, 16, 16⟩
abbrev TIM_LBWM_STAT_LEVEL : FieldRef := ⟨0x4030084, 0x4, 15, 0⟩
abbrev TIM_LBWM_REC_CROSS : FieldRef := ⟨0x4030088, 0x4, 31, 16⟩
abbrev TIM_LBWM_REC_EXTREME : FieldRef := ⟨0x4030088, 0x4, 15, 0⟩
abbrev TIM_UFCNT_LINES : FieldRef := ⟨0x403008C, 0x4, 15, 0⟩
abbrev TIM_UFPIX_PIXELS : FieldRef := ⟨0x4030090, 0x4, 31, 0⟩
abbrev TIM_UFLAST_LINE : FieldRef := ⟨0x4030094, 0x4, 27, 16⟩
abbrev TIM_UFLAST_PIXEL : FieldRef := ⟨0x4030094, 0x4, 11, 0⟩
abbrev TIM_SEAM_LAST : FieldRef := ⟨0x4030098, 0x4, 31, 16⟩
abbrev TIM_SEAM_COUNT : FieldRef := ⟨0x4030098, 0x4, 15, 0⟩
/-! PLN -/
abbrev PLN_P_CFG_EN : FieldRef := ⟨0x4040100, 0x40, 31, 31⟩
abbrev PLN_P_CFG_WRAP : FieldRef := ⟨0x4040100, 0x40, 29, 29⟩
abbrev PLN_P_CFG_KEY0 : FieldRef := ⟨0x4040100, 0x40, 28, 28⟩
abbrev PLN_P_CFG_PAL : FieldRef := ⟨0x4040100, 0x40, 27, 24⟩
abbrev PLN_P_CFG_MAPH : FieldRef := ⟨0x4040100, 0x40, 22, 20⟩
abbrev PLN_P_CFG_MAPW : FieldRef := ⟨0x4040100, 0x40, 18, 16⟩
abbrev PLN_P_CFG_ENTRY : FieldRef := ⟨0x4040100, 0x40, 12, 12⟩
abbrev PLN_P_CFG_TH : FieldRef := ⟨0x4040100, 0x40, 9, 8⟩
abbrev PLN_P_CFG_TW : FieldRef := ⟨0x4040100, 0x40, 5, 4⟩
abbrev PLN_P_CFG_FMT : FieldRef := ⟨0x4040100, 0x40, 2, 0⟩
abbrev PLN_P_CFG45_EN : FieldRef := ⟨0x4040200, 0x40, 31, 31⟩
abbrev PLN_P_CFG45_AFF : FieldRef := ⟨0x4040200, 0x40, 30, 30⟩
abbrev PLN_P_CFG45_WRAP : FieldRef := ⟨0x4040200, 0x40, 29, 29⟩
abbrev PLN_P_CFG45_KEY0 : FieldRef := ⟨0x4040200, 0x40, 28, 28⟩
abbrev PLN_P_CFG45_PAL : FieldRef := ⟨0x4040200, 0x40, 27, 24⟩
abbrev PLN_P_CFG45_MAPH : FieldRef := ⟨0x4040200, 0x40, 22, 20⟩
abbrev PLN_P_CFG45_MAPW : FieldRef := ⟨0x4040200, 0x40, 18, 16⟩
abbrev PLN_P_CFG45_ENTRY : FieldRef := ⟨0x4040200, 0x40, 12, 12⟩
abbrev PLN_P_CFG45_TH : FieldRef := ⟨0x4040200, 0x40, 9, 8⟩
abbrev PLN_P_CFG45_TW : FieldRef := ⟨0x4040200, 0x40, 5, 4⟩
abbrev PLN_P_CFG45_FMT : FieldRef := ⟨0x4040200, 0x40, 2, 0⟩
abbrev PLN_P_MAP_ADDR : FieldRef := ⟨0x4040104, 0x40, 23, 4⟩
abbrev PLN_P_TILE_ADDR : FieldRef := ⟨0x4040108, 0x40, 23, 4⟩
abbrev PLN_P_SCROLL_SCY : FieldRef := ⟨0x404010C, 0x40, 31, 16⟩
abbrev PLN_P_SCROLL_SCX : FieldRef := ⟨0x404010C, 0x40, 15, 0⟩
abbrev PLN_P_CLIPX_X1 : FieldRef := ⟨0x4040110, 0x40, 27, 16⟩
abbrev PLN_P_CLIPX_X0 : FieldRef := ⟨0x4040110, 0x40, 11, 0⟩
abbrev PLN_P_CLIPY_Y1 : FieldRef := ⟨0x4040114, 0x40, 27, 16⟩
abbrev PLN_P_CLIPY_Y0 : FieldRef := ⟨0x4040114, 0x40, 11, 0⟩
abbrev PLN_P_PIVOT_OY : FieldRef := ⟨0x4040218, 0x40, 31, 16⟩
abbrev PLN_P_PIVOT_OX : FieldRef := ⟨0x4040218, 0x40, 15, 0⟩
abbrev PLN_P_ANCX_VAL : FieldRef := ⟨0x404021C, 0x40, 31, 0⟩
abbrev PLN_P_ANCY_VAL : FieldRef := ⟨0x4040220, 0x40, 31, 0⟩
abbrev PLN_P_M00_VAL : FieldRef := ⟨0x4040224, 0x40, 31, 0⟩
abbrev PLN_P_M01_VAL : FieldRef := ⟨0x4040228, 0x40, 31, 0⟩
abbrev PLN_P_M10_VAL : FieldRef := ⟨0x404022C, 0x40, 31, 0⟩
abbrev PLN_P_M11_VAL : FieldRef := ⟨0x4040230, 0x40, 31, 0⟩
/-! OBJ -/
abbrev OBJ_CTRL_EN : FieldRef := ⟨0x4050040, 0x4, 31, 31⟩
abbrev OBJ_CTRL_TABLE : FieldRef := ⟨0x4050040, 0x4, 16, 16⟩
abbrev OBJ_CTRL_PIXMAX : FieldRef := ⟨0x4050040, 0x4, 12, 0⟩
abbrev OBJ_LINESTAT_KEPT : FieldRef := ⟨0x4050044, 0x4, 31, 24⟩
abbrev OBJ_LINESTAT_HITS : FieldRef := ⟨0x4050044, 0x4, 23, 13⟩
abbrev OBJ_LINESTAT_PIX : FieldRef := ⟨0x4050044, 0x4, 12, 0⟩
abbrev OBJ_DROPCNT_LINES : FieldRef := ⟨0x4050048, 0x4, 31, 16⟩
abbrev OBJ_DROPCNT_OBJS : FieldRef := ⟨0x4050048, 0x4, 15, 0⟩
abbrev OBJ_DROPLAST_LINE : FieldRef := ⟨0x405004C, 0x4, 27, 16⟩
abbrev OBJ_DROPLAST_INDEX : FieldRef := ⟨0x405004C, 0x4, 9, 0⟩
abbrev OBJ_AFFSTAT_WANTED : FieldRef := ⟨0x4050050, 0x4, 25, 16⟩
abbrev OBJ_AFFSTAT_LOADED : FieldRef := ⟨0x4050050, 0x4, 3, 0⟩
abbrev OBJ_GRP_M0_M00 : FieldRef := ⟨0x4051000, 0x8, 31, 16⟩
abbrev OBJ_GRP_M0_M01 : FieldRef := ⟨0x4051000, 0x8, 15, 0⟩
abbrev OBJ_GRP_M1_M10 : FieldRef := ⟨0x4051004, 0x8, 31, 16⟩
abbrev OBJ_GRP_M1_M11 : FieldRef := ⟨0x4051004, 0x8, 15, 0⟩
/-! CMP -/
abbrev CMP_BACKDROP_COLOUR : FieldRef := ⟨0x4060040, 0x4, 23, 0⟩
abbrev CMP_PLVL0_HI3 : FieldRef := ⟨0x4060044, 0x4, 30, 28⟩
abbrev CMP_PLVL0_LO3 : FieldRef := ⟨0x4060044, 0x4, 26, 24⟩
abbrev CMP_PLVL0_HI2 : FieldRef := ⟨0x4060044, 0x4, 22, 20⟩
abbrev CMP_PLVL0_LO2 : FieldRef := ⟨0x4060044, 0x4, 18, 16⟩
abbrev CMP_PLVL0_HI1 : FieldRef := ⟨0x4060044, 0x4, 14, 12⟩
abbrev CMP_PLVL0_LO1 : FieldRef := ⟨0x4060044, 0x4, 10, 8⟩
abbrev CMP_PLVL0_HI0 : FieldRef := ⟨0x4060044, 0x4, 6, 4⟩
abbrev CMP_PLVL0_LO0 : FieldRef := ⟨0x4060044, 0x4, 2, 0⟩
abbrev CMP_PLVL1_WLVL : FieldRef := ⟨0x4060048, 0x4, 18, 16⟩
abbrev CMP_PLVL1_HI5 : FieldRef := ⟨0x4060048, 0x4, 14, 12⟩
abbrev CMP_PLVL1_LO5 : FieldRef := ⟨0x4060048, 0x4, 10, 8⟩
abbrev CMP_PLVL1_HI4 : FieldRef := ⟨0x4060048, 0x4, 6, 4⟩
abbrev CMP_PLVL1_LO4 : FieldRef := ⟨0x4060048, 0x4, 2, 0⟩
abbrev CMP_BLEND_MODE : FieldRef := ⟨0x4060050, 0x4, 9, 8⟩
abbrev CMP_BLEND_ALPHA : FieldRef := ⟨0x4060050, 0x4, 7, 0⟩
abbrev CMP_WBLEND_MODE : FieldRef := ⟨0x4060068, 0x4, 9, 8⟩
abbrev CMP_WBLEND_ALPHA : FieldRef := ⟨0x4060068, 0x4, 7, 0⟩
abbrev CMP_PALSET_SET : FieldRef := ⟨0x4060080, 0x4, 1, 0⟩
abbrev CMP_FENCESET_SET : FieldRef := ⟨0x4060090, 0x4, 31, 0⟩
abbrev CMP_FENCE_COUNT : FieldRef := ⟨0x4060100, 0x4, 15, 0⟩
abbrev CMP_FLIP_CTRL_MAXDEF : FieldRef := ⟨0x4060200, 0x10, 31, 24⟩
abbrev CMP_FLIP_CTRL_ACT : FieldRef := ⟨0x4060200, 0x10, 21, 20⟩
abbrev CMP_FLIP_CTRL_FEN : FieldRef := ⟨0x4060200, 0x10, 16, 16⟩
abbrev CMP_FLIP_CTRL_FENCE : FieldRef := ⟨0x4060200, 0x10, 12, 8⟩
abbrev CMP_FLIP_CTRL_BLOCKS : FieldRef := ⟨0x4060200, 0x10, 4, 0⟩
abbrev CMP_FLIP_NEED_NEED : FieldRef := ⟨0x4060204, 0x10, 15, 0⟩
abbrev CMP_FLIP_STAT_DEFTOT : FieldRef := ⟨0x4060208, 0x10, 31, 16⟩
abbrev CMP_FLIP_STAT_DEFCUR : FieldRef := ⟨0x4060208, 0x10, 15, 8⟩
abbrev CMP_FLIP_STAT_READY : FieldRef := ⟨0x4060208, 0x10, 7, 7⟩
abbrev CMP_FLIP_STAT_MEMBERS : FieldRef := ⟨0x4060208, 0x10, 4, 0⟩
/-! LNL -/
abbrev LNL_CTRL_EN : FieldRef := ⟨0x4070040, 0x4, 0, 0⟩
abbrev LNL_BASE_ADDR : FieldRef := ⟨0x4070044, 0x4, 23, 3⟩
abbrev LNL_STAT_LINE : FieldRef := ⟨0x4070048, 0x4, 27, 16⟩
abbrev LNL_STAT_WRITES : FieldRef := ⟨0x4070048, 0x4, 14, 8⟩
abbrev LNL_STAT_STATE : FieldRef := ⟨0x4070048, 0x4, 1, 0⟩
abbrev LNL_CNT_DENY : FieldRef := ⟨0x407004C, 0x4, 31, 16⟩
abbrev LNL_CNT_OVER : FieldRef := ⟨0x407004C, 0x4, 15, 0⟩
abbrev LNL_ERR_KIND : FieldRef := ⟨0x4070050, 0x4, 31, 28⟩
abbrev LNL_ERR_OFFSET : FieldRef := ⟨0x4070050, 0x4, 23, 3⟩
abbrev LNL_LATE_LINES : FieldRef := ⟨0x4070054, 0x4, 15, 0⟩
/-! PEN -/
abbrev PEN_STAT_NEN : FieldRef := ⟨0x4080040, 0x4, 30, 24⟩
abbrev PEN_STAT_GAPMAX : FieldRef := ⟨0x4080040, 0x4, 19, 16⟩
abbrev PEN_STAT_CAUSE : FieldRef := ⟨0x4080040, 0x4, 15, 8⟩
abbrev PEN_STAT_WDOG : FieldRef := ⟨0x4080040, 0x4, 3, 3⟩
abbrev PEN_STAT_REFPEND : FieldRef := ⟨0x4080040, 0x4, 2, 2⟩
abbrev PEN_STAT_ALARM : FieldRef := ⟨0x4080040, 0x4, 1, 1⟩
abbrev PEN_STAT_ONLY : FieldRef := ⟨0x4080040, 0x4, 0, 0⟩
abbrev PEN_FCOUNT_F : FieldRef := ⟨0x4080044, 0x4, 31, 0⟩
abbrev PEN_ENA : FieldRef := ⟨0x4080048, 0x4, 31, 0⟩
abbrev PEN_FAIL : FieldRef := ⟨0x4080050, 0x4, 31, 0⟩
abbrev PEN_CHKCNT_FRAMES : FieldRef := ⟨0x4080058, 0x4, 31, 16⟩
abbrev PEN_CHKCNT_FAILED : FieldRef := ⟨0x4080058, 0x4, 15, 4⟩
abbrev PEN_CHKCNT_LOGERR : FieldRef := ⟨0x4080058, 0x4, 3, 0⟩
abbrev PEN_GAP_WORST : FieldRef := ⟨0x408005C, 0x4, 31, 16⟩
abbrev PEN_GAP_NOW : FieldRef := ⟨0x408005C, 0x4, 15, 0⟩
abbrev PEN_WAIT : FieldRef := ⟨0x4080060, 0x4, 31, 0⟩
abbrev PEN_FRZ_EN : FieldRef := ⟨0x4080068, 0x4, 11, 8⟩
abbrev PEN_FRZ_FIRED : FieldRef := ⟨0x4080068, 0x4, 3, 0⟩
abbrev PEN_SIGSTAT_SHORT : FieldRef := ⟨0x408006C, 0x4, 31, 0⟩
abbrev PEN_STALE_STALE : FieldRef := ⟨0x4080070, 0x4, 31, 0⟩
abbrev PEN_LOGBASE_ADDR : FieldRef := ⟨0x4080074, 0x4, 23, 4⟩
abbrev PEN_FRZCFG : FieldRef := ⟨0x4080080, 0x8, 31, 0⟩
abbrev PEN_FRZCFG_1 : FieldRef := ⟨0x4080084, 0x8, 31, 0⟩
abbrev PEN_SIGVAL : FieldRef := ⟨0x4080100, 0x4, 31, 0⟩
abbrev PEN_CRC : FieldRef := ⟨0x4080200, 0x4, 31, 0⟩
abbrev PEN_REF : FieldRef := ⟨0x4080300, 0x4, 31, 0⟩
abbrev PEN_CELL : FieldRef := ⟨0x4080400, 0x4, 31, 0⟩
/-! ANO -/
abbrev ANO_CTRL_STOP : FieldRef := ⟨0x4090040, 0x4, 8, 8⟩
abbrev ANO_CTRL_LGO : FieldRef := ⟨0x4090040, 0x4, 1, 1⟩
abbrev ANO_CTRL_GO : FieldRef := ⟨0x4090040, 0x4, 0, 0⟩
abbrev ANO_STAT_LCNT : FieldRef := ⟨0x4090044, 0x4, 31, 16⟩
abbrev ANO_STAT_ERR : FieldRef := ⟨0x4090044, 0x4, 7, 4⟩
abbrev ANO_STAT_FWAIT : FieldRef := ⟨0x4090044, 0x4, 3, 3⟩
abbrev ANO_STAT_PAUSED : FieldRef := ⟨0x4090044, 0x4, 2, 2⟩
abbrev ANO_STAT_LIST : FieldRef := ⟨0x4090044, 0x4, 1, 1⟩
abbrev ANO_STAT_REG : FieldRef := ⟨0x4090044, 0x4, 0, 0⟩
abbrev ANO_LBASE_ADDR : FieldRef := ⟨0x4090048, 0x4, 23, 4⟩
abbrev ANO_LPTR_ADDR : FieldRef := ⟨0x409004C, 0x4, 23, 4⟩
abbrev ANO_LCFG_AGE : FieldRef := ⟨0x4090050, 0x4, 15, 0⟩
abbrev ANO_ERR_KIND : FieldRef := ⟨0x4090054, 0x4, 31, 28⟩
abbrev ANO_ERR_ADDR : FieldRef := ⟨0x4090054, 0x4, 23, 4⟩
abbrev ANO_MARK : FieldRef := ⟨0x4090058, 0x4, 31, 0⟩
abbrev ANO_CNT_OPS : FieldRef := ⟨0x409005C, 0x4, 31, 16⟩
abbrev ANO_CNT_ERRS : FieldRef := ⟨0x409005C, 0x4, 15, 0⟩
abbrev ANO_LCNT_ENTRIES : FieldRef := ⟨0x4090060, 0x4, 31, 0⟩
abbrev ANO_RSRC0_CMD : FieldRef := ⟨0x4090100, 0x4, 31, 24⟩
abbrev ANO_RSRC0_BODY : FieldRef := ⟨0x4090100, 0x4, 23, 0⟩
abbrev ANO_RSRC : FieldRef := ⟨0x4090104, 0x4, 31, 0⟩
abbrev ANO_RDST0_CMD : FieldRef := ⟨0x4090110, 0x4, 31, 24⟩
abbrev ANO_RDST0_BODY : FieldRef := ⟨0x4090110, 0x4, 23, 0⟩
abbrev ANO_RDST : FieldRef := ⟨0x4090114, 0x4, 31, 0⟩
abbrev ANO_RPEN0_CMD : FieldRef := ⟨0x4090120, 0x4, 31, 24⟩
abbrev ANO_RPEN0_BODY : FieldRef := ⟨0x4090120, 0x4, 23, 0⟩
abbrev ANO_RPEN : FieldRef := ⟨0x4090124, 0x4, 31, 0⟩
abbrev ANO_RMODE_CMD : FieldRef := ⟨0x4090130, 0x4, 31, 24⟩
abbrev ANO_RMODE_BODY : FieldRef := ⟨0x4090130, 0x4, 23, 0⟩
abbrev ANO_ROP : FieldRef := ⟨0x4090140, 0x4, 31, 0⟩
/-! VOC -/
abbrev VOC_POOLCFG_LEAD : FieldRef := ⟨0x40A0040, 0x4, 15, 8⟩
abbrev VOC_POOLSTAT_ACTIVE : FieldRef := ⟨0x40A0044, 0x4, 31, 24⟩
abbrev VOC_POOLSTAT_PFREE : FieldRef := ⟨0x40A0044, 0x4, 23, 16⟩
abbrev VOC_POOLSTAT_FREE : FieldRef := ⟨0x40A0044, 0x4, 10, 0⟩
abbrev VOC_POOLWM_CFG_HYST : FieldRef := ⟨0x40A0048, 0x4, 31, 16⟩
abbrev VOC_POOLWM_CFG_THRESH : FieldRef := ⟨0x40A0048, 0x4, 15, 0⟩
abbrev VOC_POOLWM_STAT_BELOW : FieldRef := ⟨0x40A004C, 0x4, 16, 16⟩
abbrev VOC_POOLWM_STAT_LEVEL : FieldRef := ⟨0x40A004C, 0x4, 15, 0⟩
abbrev VOC_POOLWM_REC_CROSS : FieldRef := ⟨0x40A0050, 0x4, 31, 16⟩
abbrev VOC_POOLWM_REC_EXTREME : FieldRef := ⟨0x40A0050, 0x4, 15, 0⟩
abbrev VOC_CNT_STARVES : FieldRef := ⟨0x40A0054, 0x4, 31, 16⟩
abbrev VOC_CNT_FERRS : FieldRef := ⟨0x40A0054, 0x4, 15, 0⟩
abbrev VOC_STARVE_BITS : FieldRef := ⟨0x40A0060, 0x4, 31, 0⟩
abbrev VOC_AVAS_LEVEL : FieldRef := ⟨0x40A0080, 0x4, 31, 16⟩
abbrev VOC_AVAS_GEAR : FieldRef := ⟨0x40A0080, 0x4, 14, 12⟩
abbrev VOC_AVAS_WANT : FieldRef := ⟨0x40A0080, 0x4, 8, 8⟩
abbrev VOC_AVAS_SPEED : FieldRef := ⟨0x40A0080, 0x4, 7, 0⟩
abbrev VOC_AVASPITCH_RATIO : FieldRef := ⟨0x40A0084, 0x4, 31, 0⟩
abbrev VOC_PBUS_FLOOR : FieldRef := ⟨0x40A0088, 0x4, 31, 16⟩
abbrev VOC_PBUS_PGAIN : FieldRef := ⟨0x40A0088, 0x4, 15, 0⟩
abbrev VOC_PAUDIT_CHECKS : FieldRef := ⟨0x40A008C, 0x4, 31, 16⟩
abbrev VOC_PAUDIT_FAILS : FieldRef := ⟨0x40A008C, 0x4, 15, 8⟩
abbrev VOC_PAUDIT_AVEN : FieldRef := ⟨0x40A008C, 0x4, 0, 0⟩
abbrev VOC_V_MIX_VOL : FieldRef := ⟨0x40A1000, 0x20, 31, 16⟩
abbrev VOC_V_MIX_GROUP : FieldRef := ⟨0x40A1000, 0x20, 15, 12⟩
abbrev VOC_V_MIX_FMODE : FieldRef := ⟨0x40A1000, 0x20, 11, 9⟩
abbrev VOC_V_MIX_PAN : FieldRef := ⟨0x40A1000, 0x20, 8, 0⟩
abbrev VOC_V_SEND_SEND0 : FieldRef := ⟨0x40A1004, 0x20, 31, 24⟩
abbrev VOC_V_SEND_SEND1 : FieldRef := ⟨0x40A1004, 0x20, 23, 16⟩
abbrev VOC_V_SEND_SEND2 : FieldRef := ⟨0x40A1004, 0x20, 15, 8⟩
abbrev VOC_V_SEND_SEND3 : FieldRef := ⟨0x40A1004, 0x20, 7, 0⟩
abbrev VOC_V_FILT_F : FieldRef := ⟨0x40A1008, 0x20, 31, 16⟩
abbrev VOC_V_FILT_QD : FieldRef := ⟨0x40A1008, 0x20, 15, 0⟩
abbrev VOC_V_PITCH_RATIO : FieldRef := ⟨0x40A100C, 0x20, 31, 0⟩
abbrev VOC_V_STAT_ENV : FieldRef := ⟨0x40A1010, 0x20, 31, 16⟩
abbrev VOC_V_STAT_BUFS : FieldRef := ⟨0x40A1010, 0x20, 11, 8⟩
abbrev VOC_V_STAT_END : FieldRef := ⟨0x40A1010, 0x20, 6, 4⟩
abbrev VOC_V_STAT_STATE : FieldRef := ⟨0x40A1010, 0x20, 2, 0⟩
abbrev VOC_V_POS_POS : FieldRef := ⟨0x40A1014, 0x20, 23, 0⟩
/-! MIX -/
abbrev MIX_STAT_FALLBACK : FieldRef := ⟨0x40B0040, 0x4, 8, 8⟩
abbrev MIX_STAT_LRXD : FieldRef := ⟨0x40B0040, 0x4, 7, 0⟩
abbrev MIX_CLIPCNT_POINT : FieldRef := ⟨0x40B0044, 0x4, 21, 16⟩
abbrev MIX_CLIPCNT_COUNT : FieldRef := ⟨0x40B0044, 0x4, 15, 0⟩
abbrev MIX_SEND01_GAIN : FieldRef := ⟨0x40B0050, 0x4, 31, 16⟩
abbrev MIX_SEND01_DEST : FieldRef := ⟨0x40B0050, 0x4, 1, 0⟩
abbrev MIX_SEND23_GAIN : FieldRef := ⟨0x40B0058, 0x4, 31, 16⟩
abbrev MIX_SEND23_DEST : FieldRef := ⟨0x40B0058, 0x4, 1, 0⟩
abbrev MIX_REV0_PREDLY : FieldRef := ⟨0x40B0060, 0x4, 11, 0⟩
abbrev MIX_REV1_DECAY : FieldRef := ⟨0x40B0064, 0x4, 31, 16⟩
abbrev MIX_REV1_DAMP : FieldRef := ⟨0x40B0064, 0x4, 15, 0⟩
abbrev MIX_DLY0_DR : FieldRef := ⟨0x40B0068, 0x4, 30, 16⟩
abbrev MIX_DLY0_DL : FieldRef := ⟨0x40B0068, 0x4, 14, 0⟩
abbrev MIX_DLY1_FB : FieldRef := ⟨0x40B006C, 0x4, 31, 16⟩
abbrev MIX_DLY1_CROSS : FieldRef := ⟨0x40B006C, 0x4, 0, 0⟩
abbrev MIX_RET_GAIN : FieldRef := ⟨0x40B0070, 0x4, 31, 16⟩
abbrev MIX_RET_DEST : FieldRef := ⟨0x40B0070, 0x4, 1, 0⟩
abbrev MIX_GRP_GAIN : FieldRef := ⟨0x40B0080, 0x4, 31, 16⟩
abbrev MIX_GRP_MUTE : FieldRef := ⟨0x40B0080, 0x4, 8, 8⟩
abbrev MIX_GRP_DEST : FieldRef := ⟨0x40B0080, 0x4, 1, 0⟩
abbrev MIX_IN_GAIN : FieldRef := ⟨0x40B00C0, 0x4, 31, 16⟩
abbrev MIX_IN_PAN : FieldRef := ⟨0x40B00C0, 0x4, 12, 4⟩
abbrev MIX_IN_DEST : FieldRef := ⟨0x40B00C0, 0x4, 1, 0⟩
abbrev MIX_MAIN_GAINB : FieldRef := ⟨0x40B00F0, 0x4, 31, 16⟩
abbrev MIX_MAIN_GAINA : FieldRef := ⟨0x40B00F0, 0x4, 15, 0⟩
abbrev MIX_ZONE_GAIN : FieldRef := ⟨0x40B0100, 0x10, 31, 16⟩
abbrev MIX_ZONE_MUTE : FieldRef := ⟨0x40B0100, 0x10, 8, 8⟩
abbrev MIX_ZONE_SRC : FieldRef := ⟨0x40B0100, 0x10, 5, 0⟩
abbrev MIX_LIMTHR_THR : FieldRef := ⟨0x40B0104, 0x10, 23, 0⟩
abbrev MIX_LIMREL_REL : FieldRef := ⟨0x40B0108, 0x10, 15, 0⟩
abbrev MIX_LIMGAIN_GAIN : FieldRef := ⟨0x40B010C, 0x10, 15, 0⟩
abbrev MIX_CHIME_SRC : FieldRef := ⟨0x40B0140, 0x4, 3, 0⟩
abbrev MIX_CHTHR_THR : FieldRef := ⟨0x40B0144, 0x4, 23, 0⟩
abbrev MIX_CHREL_REL : FieldRef := ⟨0x40B0148, 0x4, 15, 0⟩
abbrev MIX_CHGAIN_GAIN : FieldRef := ⟨0x40B014C, 0x4, 15, 0⟩
abbrev MIX_LT_SRC : FieldRef := ⟨0x40B0160, 0x4, 5, 0⟩
abbrev MIX_MTR_CFG_HOLDN : FieldRef := ⟨0x40B0400, 0x10, 23, 16⟩
abbrev MIX_MTR_CFG_WIN : FieldRef := ⟨0x40B0400, 0x10, 11, 8⟩
abbrev MIX_MTR_CFG_TAP : FieldRef := ⟨0x40B0400, 0x10, 5, 0⟩
abbrev MIX_MTR22_CFG_HOLDN : FieldRef := ⟨0x40B0560, 0x4, 23, 16⟩
abbrev MIX_MTR22_CFG_WIN : FieldRef := ⟨0x40B0560, 0x4, 11, 8⟩
abbrev MIX_MTR22_CFG_TAP : FieldRef := ⟨0x40B0560, 0x4, 5, 0⟩
abbrev MIX_MTR23_CFG_HOLDN : FieldRef := ⟨0x40B0570, 0x4, 23, 16⟩
abbrev MIX_MTR23_CFG_WIN : FieldRef := ⟨0x40B0570, 0x4, 11, 8⟩
abbrev MIX_MTR23_CFG_TAP : FieldRef := ⟨0x40B0570, 0x4, 5, 0⟩
abbrev MIX_MTR_LVL_PEAK : FieldRef := ⟨0x40B0404, 0x10, 31, 16⟩
abbrev MIX_MTR_LVL_RMS : FieldRef := ⟨0x40B0404, 0x10, 15, 0⟩
abbrev MIX_MTR_HOLD_OTHR : FieldRef := ⟨0x40B0408, 0x10, 31, 16⟩
abbrev MIX_MTR_HOLD_HOLD : FieldRef := ⟨0x40B0408, 0x10, 15, 0⟩
abbrev MIX_MTR_OVER_COUNT : FieldRef := ⟨0x40B040C, 0x10, 15, 0⟩
abbrev MIX_EQ0_B0 : FieldRef := ⟨0x40B1000, 0x18, 31, 0⟩
abbrev MIX_EQ0_B1 : FieldRef := ⟨0x40B1004, 0x18, 31, 0⟩
abbrev MIX_EQ0_B2 : FieldRef := ⟨0x40B1008, 0x18, 31, 0⟩
abbrev MIX_EQ0_A1 : FieldRef := ⟨0x40B100C, 0x18, 31, 0⟩
abbrev MIX_EQ0_A2 : FieldRef := ⟨0x40B1010, 0x18, 31, 0⟩
abbrev MIX_EQ0_EN_EN : FieldRef := ⟨0x40B1014, 0x18, 0, 0⟩
abbrev MIX_EQ1_B0 : FieldRef := ⟨0x40B1100, 0x18, 31, 0⟩
abbrev MIX_EQ1_B1 : FieldRef := ⟨0x40B1104, 0x18, 31, 0⟩
abbrev MIX_EQ1_B2 : FieldRef := ⟨0x40B1108, 0x18, 31, 0⟩
abbrev MIX_EQ1_A1 : FieldRef := ⟨0x40B110C, 0x18, 31, 0⟩
abbrev MIX_EQ1_A2 : FieldRef := ⟨0x40B1110, 0x18, 31, 0⟩
abbrev MIX_EQ1_EN_EN : FieldRef := ⟨0x40B1114, 0x18, 0, 0⟩
abbrev MIX_EQ2_B0 : FieldRef := ⟨0x40B1200, 0x18, 31, 0⟩
abbrev MIX_EQ2_B1 : FieldRef := ⟨0x40B1204, 0x18, 31, 0⟩
abbrev MIX_EQ2_B2 : FieldRef := ⟨0x40B1208, 0x18, 31, 0⟩
abbrev MIX_EQ2_A1 : FieldRef := ⟨0x40B120C, 0x18, 31, 0⟩
abbrev MIX_EQ2_A2 : FieldRef := ⟨0x40B1210, 0x18, 31, 0⟩
abbrev MIX_EQ2_EN_EN : FieldRef := ⟨0x40B1214, 0x18, 0, 0⟩
abbrev MIX_EQ3_B0 : FieldRef := ⟨0x40B1300, 0x18, 31, 0⟩
abbrev MIX_EQ3_B1 : FieldRef := ⟨0x40B1304, 0x18, 31, 0⟩
abbrev MIX_EQ3_B2 : FieldRef := ⟨0x40B1308, 0x18, 31, 0⟩
abbrev MIX_EQ3_A1 : FieldRef := ⟨0x40B130C, 0x18, 31, 0⟩
abbrev MIX_EQ3_A2 : FieldRef := ⟨0x40B1310, 0x18, 31, 0⟩
abbrev MIX_EQ3_EN_EN : FieldRef := ⟨0x40B1314, 0x18, 0, 0⟩
/-! VAR -/
abbrev VAR_CTRL_PBTAP : FieldRef := ⟨0x40C0040, 0x4, 13, 12⟩
abbrev VAR_CTRL_HCH : FieldRef := ⟨0x40C0040, 0x4, 10, 8⟩
abbrev VAR_CTRL_HTAP : FieldRef := ⟨0x40C0040, 0x4, 5, 4⟩
abbrev VAR_CTRL_PBEN : FieldRef := ⟨0x40C0040, 0x4, 1, 1⟩
abbrev VAR_CTRL_HEN : FieldRef := ⟨0x40C0040, 0x4, 0, 0⟩
abbrev VAR_STAT_HBANK : FieldRef := ⟨0x40C0044, 0x4, 0, 0⟩
abbrev VAR_HCNT_FRAMES : FieldRef := ⟨0x40C0048, 0x4, 31, 0⟩
abbrev VAR_HRGN_X_X1 : FieldRef := ⟨0x40C0050, 0x8, 27, 16⟩
abbrev VAR_HRGN_X_X0 : FieldRef := ⟨0x40C0050, 0x8, 11, 0⟩
abbrev VAR_HRGN_Y_Y1 : FieldRef := ⟨0x40C0054, 0x8, 27, 16⟩
abbrev VAR_HRGN_Y_Y0 : FieldRef := ⟨0x40C0054, 0x8, 11, 0⟩
abbrev VAR_CU_CFG_SEL : FieldRef := ⟨0x40C0100, 0x10, 28, 16⟩
abbrev VAR_CU_CFG_OP : FieldRef := ⟨0x40C0100, 0x10, 10, 8⟩
abbrev VAR_CU_CFG_PBASE : FieldRef := ⟨0x40C0100, 0x10, 7, 4⟩
abbrev VAR_CU_CFG_KIND : FieldRef := ⟨0x40C0100, 0x10, 2, 0⟩
abbrev VAR_CU_MASK : FieldRef := ⟨0x40C0104, 0x10, 31, 0⟩
abbrev VAR_CU_A : FieldRef := ⟨0x40C0108, 0x10, 31, 0⟩
abbrev VAR_CU_B : FieldRef := ⟨0x40C010C, 0x10, 31, 0⟩
abbrev VAR_SCFG_TAP : FieldRef := ⟨0x40C0200, 0x80, 29, 24⟩
abbrev VAR_SCFG_PSZ : FieldRef := ⟨0x40C0200, 0x80, 21, 16⟩
abbrev VAR_SCFG_MARKS : FieldRef := ⟨0x40C0200, 0x80, 10, 10⟩
abbrev VAR_SCFG_RELAX : FieldRef := ⟨0x40C0200, 0x80, 9, 9⟩
abbrev VAR_SCFG_RMODE : FieldRef := ⟨0x40C0200, 0x80, 8, 8⟩
abbrev VAR_SCFG_FMT : FieldRef := ⟨0x40C0200, 0x80, 7, 6⟩
abbrev VAR_SCFG_VTAP : FieldRef := ⟨0x40C0200, 0x80, 5, 4⟩
abbrev VAR_SCFG_MODE : FieldRef := ⟨0x40C0200, 0x80, 3, 3⟩
abbrev VAR_SCFG_SRC : FieldRef := ⟨0x40C0200, 0x80, 2, 0⟩
abbrev VAR_SSELA_X1_DIV : FieldRef := ⟨0x40C0204, 0x80, 27, 16⟩
abbrev VAR_SSELA_X0_PBASE : FieldRef := ⟨0x40C0204, 0x80, 15, 0⟩
abbrev VAR_SSELB_Y1 : FieldRef := ⟨0x40C0208, 0x80, 27, 16⟩
abbrev VAR_SSELB_Y0 : FieldRef := ⟨0x40C0208, 0x80, 11, 0⟩
abbrev VAR_SRBASE_ADDR : FieldRef := ⟨0x40C020C, 0x80, 23, 12⟩
abbrev VAR_SRSIZE_SIZE : FieldRef := ⟨0x40C0210, 0x80, 24, 12⟩
abbrev VAR_SDEPTH_PRE : FieldRef := ⟨0x40C0214, 0x80, 31, 16⟩
abbrev VAR_SDEPTH_POST : FieldRef := ⟨0x40C0214, 0x80, 15, 0⟩
abbrev VAR_SCTRL_STOP : FieldRef := ⟨0x40C0218, 0x80, 2, 2⟩
abbrev VAR_SCTRL_SWTRIG : FieldRef := ⟨0x40C0218, 0x80, 1, 1⟩
abbrev VAR_SCTRL_START : FieldRef := ⟨0x40C0218, 0x80, 0, 0⟩
abbrev VAR_SSTAT_RED : FieldRef := ⟨0x40C021C, 0x80, 23, 20⟩
abbrev VAR_SSTAT_AUTO : FieldRef := ⟨0x40C021C, 0x80, 19, 16⟩
abbrev VAR_SSTAT_ERR : FieldRef := ⟨0x40C021C, 0x80, 11, 8⟩
abbrev VAR_SSTAT_SEQ : FieldRef := ⟨0x40C021C, 0x80, 5, 4⟩
abbrev VAR_SSTAT_PHASE : FieldRef := ⟨0x40C021C, 0x80, 2, 0⟩
abbrev VAR_SWRPTR_ADDR : FieldRef := ⟨0x40C0220, 0x80, 23, 4⟩
abbrev VAR_SRDPTR_ADDR : FieldRef := ⟨0x40C0224, 0x80, 23, 4⟩
abbrev VAR_STRIGPTR_ADDR : FieldRef := ⟨0x40C0228, 0x80, 23, 4⟩
abbrev VAR_SXTRIG_TW : FieldRef := ⟨0x40C022C, 0x80, 23, 16⟩
abbrev VAR_SXTRIG_BEN : FieldRef := ⟨0x40C022C, 0x80, 15, 15⟩
abbrev VAR_SXTRIG_BLINE : FieldRef := ⟨0x40C022C, 0x80, 10, 8⟩
abbrev VAR_SXTRIG_T1EN : FieldRef := ⟨0x40C022C, 0x80, 5, 5⟩
abbrev VAR_SXTRIG_T0EN : FieldRef := ⟨0x40C022C, 0x80, 4, 4⟩
abbrev VAR_SQ_0_COUNT : FieldRef := ⟨0x40C0230, 0x80, 31, 16⟩
abbrev VAR_SQ_0_RMASK : FieldRef := ⟨0x40C0230, 0x80, 15, 12⟩
abbrev VAR_SQ_0_NEXT : FieldRef := ⟨0x40C0230, 0x80, 10, 8⟩
abbrev VAR_SQ_0_GAND : FieldRef := ⟨0x40C0230, 0x80, 4, 4⟩
abbrev VAR_SQ_0_GMASK : FieldRef := ⟨0x40C0230, 0x80, 3, 0⟩
abbrev VAR_SQ_1_COUNT : FieldRef := ⟨0x40C0234, 0x80, 31, 16⟩
abbrev VAR_SQ_1_RMASK : FieldRef := ⟨0x40C0234, 0x80, 15, 12⟩
abbrev VAR_SQ_1_NEXT : FieldRef := ⟨0x40C0234, 0x80, 10, 8⟩
abbrev VAR_SQ_1_GAND : FieldRef := ⟨0x40C0234, 0x80, 4, 4⟩
abbrev VAR_SQ_1_GMASK : FieldRef := ⟨0x40C0234, 0x80, 3, 0⟩
abbrev VAR_SQ_2_COUNT : FieldRef := ⟨0x40C0238, 0x80, 31, 16⟩
abbrev VAR_SQ_2_RMASK : FieldRef := ⟨0x40C0238, 0x80, 15, 12⟩
abbrev VAR_SQ_2_NEXT : FieldRef := ⟨0x40C0238, 0x80, 10, 8⟩
abbrev VAR_SQ_2_GAND : FieldRef := ⟨0x40C0238, 0x80, 4, 4⟩
abbrev VAR_SQ_2_GMASK : FieldRef := ⟨0x40C0238, 0x80, 3, 0⟩
abbrev VAR_SQ_3_COUNT : FieldRef := ⟨0x40C023C, 0x80, 31, 16⟩
abbrev VAR_SQ_3_RMASK : FieldRef := ⟨0x40C023C, 0x80, 15, 12⟩
abbrev VAR_SQ_3_NEXT : FieldRef := ⟨0x40C023C, 0x80, 10, 8⟩
abbrev VAR_SQ_3_GAND : FieldRef := ⟨0x40C023C, 0x80, 4, 4⟩
abbrev VAR_SQ_3_GMASK : FieldRef := ⟨0x40C023C, 0x80, 3, 0⟩
abbrev VAR_SCNT_WRITTEN : FieldRef := ⟨0x40C0240, 0x80, 31, 16⟩
abbrev VAR_SCNT_DROPPED : FieldRef := ⟨0x40C0240, 0x80, 15, 0⟩
abbrev VAR_SRED_RAISES : FieldRef := ⟨0x40C0244, 0x80, 31, 16⟩
abbrev VAR_SRED_FIFO : FieldRef := ⟨0x40C0244, 0x80, 12, 0⟩
abbrev VAR_SSEQCNT_COUNT : FieldRef := ⟨0x40C0248, 0x80, 15, 0⟩
/-! BRG -/
abbrev BRG_STAT_LEAD : FieldRef := ⟨0x40D0040, 0x4, 31, 31⟩
abbrev BRG_STAT_TOPO : FieldRef := ⟨0x40D0040, 0x4, 29, 28⟩
abbrev BRG_STAT_SYNC : FieldRef := ⟨0x40D0040, 0x4, 24, 24⟩
abbrev BRG_STAT_TPORT : FieldRef := ⟨0x40D0040, 0x4, 20, 20⟩
abbrev BRG_STAT_NODES : FieldRef := ⟨0x40D0040, 0x4, 15, 8⟩
abbrev BRG_STAT_ID : FieldRef := ⟨0x40D0040, 0x4, 7, 0⟩
abbrev BRG_TIMING_LRXD : FieldRef := ⟨0x40D0044, 0x4, 31, 24⟩
abbrev BRG_TIMING_BLAT : FieldRef := ⟨0x40D0044, 0x4, 23, 0⟩
abbrev BRG_TSERR_ERR : FieldRef := ⟨0x40D0048, 0x4, 31, 0⟩
abbrev BRG_STIMELO_COUNT : FieldRef := ⟨0x40D0050, 0x4, 31, 0⟩
abbrev BRG_STIMEHI_COUNT : FieldRef := ⟨0x40D0054, 0x4, 31, 0⟩
abbrev BRG_SFCNT_COUNT : FieldRef := ⟨0x40D0058, 0x4, 31, 0⟩
abbrev BRG_REACH_BITS : FieldRef := ⟨0x40D0060, 0x4, 31, 0⟩
abbrev BRG_ATX_B3EN : FieldRef := ⟨0x40D0070, 0x4, 31, 31⟩
abbrev BRG_ATX_B3CH : FieldRef := ⟨0x40D0070, 0x4, 28, 24⟩
abbrev BRG_ATX_B2EN : FieldRef := ⟨0x40D0070, 0x4, 23, 23⟩
abbrev BRG_ATX_B2CH : FieldRef := ⟨0x40D0070, 0x4, 20, 16⟩
abbrev BRG_ATX_B1EN : FieldRef := ⟨0x40D0070, 0x4, 15, 15⟩
abbrev BRG_ATX_B1CH : FieldRef := ⟨0x40D0070, 0x4, 12, 8⟩
abbrev BRG_ATX_B0EN : FieldRef := ⟨0x40D0070, 0x4, 7, 7⟩
abbrev BRG_ATX_B0CH : FieldRef := ⟨0x40D0070, 0x4, 4, 0⟩
abbrev BRG_ARX_B3EN : FieldRef := ⟨0x40D0078, 0x4, 31, 31⟩
abbrev BRG_ARX_B3CH : FieldRef := ⟨0x40D0078, 0x4, 28, 24⟩
abbrev BRG_ARX_B2EN : FieldRef := ⟨0x40D0078, 0x4, 23, 23⟩
abbrev BRG_ARX_B2CH : FieldRef := ⟨0x40D0078, 0x4, 20, 16⟩
abbrev BRG_ARX_B1EN : FieldRef := ⟨0x40D0078, 0x4, 15, 15⟩
abbrev BRG_ARX_B1CH : FieldRef := ⟨0x40D0078, 0x4, 12, 8⟩
abbrev BRG_ARX_B0EN : FieldRef := ⟨0x40D0078, 0x4, 7, 7⟩
abbrev BRG_ARX_B0CH : FieldRef := ⟨0x40D0078, 0x4, 4, 0⟩
abbrev BRG_BREQ_LINE : FieldRef := ⟨0x40D0080, 0x4, 10, 8⟩
abbrev BRG_BREQ_REQ : FieldRef := ⟨0x40D0080, 0x4, 0, 0⟩
abbrev BRG_BIO_PW : FieldRef := ⟨0x40D0084, 0x4, 31, 24⟩
abbrev BRG_BIO_IEN1 : FieldRef := ⟨0x40D0084, 0x4, 23, 23⟩
abbrev BRG_BIO_ILINE1 : FieldRef := ⟨0x40D0084, 0x4, 22, 20⟩
abbrev BRG_BIO_IEN0 : FieldRef := ⟨0x40D0084, 0x4, 19, 19⟩
abbrev BRG_BIO_ILINE0 : FieldRef := ⟨0x40D0084, 0x4, 18, 16⟩
abbrev BRG_BIO_OEN1 : FieldRef := ⟨0x40D0084, 0x4, 7, 7⟩
abbrev BRG_BIO_OLINE1 : FieldRef := ⟨0x40D0084, 0x4, 6, 4⟩
abbrev BRG_BIO_OEN0 : FieldRef := ⟨0x40D0084, 0x4, 3, 3⟩
abbrev BRG_BIO_OLINE0 : FieldRef := ⟨0x40D0084, 0x4, 2, 0⟩
abbrev BRG_BLAST_TICK : FieldRef := ⟨0x40D0088, 0x4, 31, 0⟩
abbrev BRG_BCNT_LANDED : FieldRef := ⟨0x40D008C, 0x4, 31, 16⟩
abbrev BRG_BCNT_LATE : FieldRef := ⟨0x40D008C, 0x4, 15, 8⟩
abbrev BRG_BCNT_DROP : FieldRef := ⟨0x40D008C, 0x4, 7, 0⟩
abbrev BRG_WCFG_TIMEOUT : FieldRef := ⟨0x40D0090, 0x4, 15, 0⟩
abbrev BRG_WERR_VALID : FieldRef := ⟨0x40D0094, 0x4, 31, 31⟩
abbrev BRG_WERR_STATUS : FieldRef := ⟨0x40D0094, 0x4, 27, 24⟩
abbrev BRG_WERR_RKIND : FieldRef := ⟨0x40D0094, 0x4, 19, 16⟩
abbrev BRG_WERR_NODE : FieldRef := ⟨0x40D0094, 0x4, 14, 8⟩
abbrev BRG_WCNT_LATE : FieldRef := ⟨0x40D0098, 0x4, 31, 16⟩
abbrev BRG_WCNT_RETRY : FieldRef := ⟨0x40D0098, 0x4, 15, 0⟩
abbrev BRG_POLICY_BYTES : FieldRef := ⟨0x40D00A0, 0x4, 31, 0⟩
abbrev BRG_POLICY1_BYTES : FieldRef := ⟨0x40D00A4, 0x4, 31, 0⟩
abbrev BRG_P_CTRL_TXEN : FieldRef := ⟨0x40D0100, 0x40, 0, 0⟩
abbrev BRG_P_STAT_TV : FieldRef := ⟨0x40D0104, 0x40, 17, 17⟩
abbrev BRG_P_STAT_PPORT : FieldRef := ⟨0x40D0104, 0x40, 16, 16⟩
abbrev BRG_P_STAT_PARTNER : FieldRef := ⟨0x40D0104, 0x40, 15, 8⟩
abbrev BRG_P_STAT_STATE : FieldRef := ⟨0x40D0104, 0x40, 2, 0⟩
abbrev BRG_P_DELAY_DELAY : FieldRef := ⟨0x40D0108, 0x40, 31, 0⟩
abbrev BRG_P_ERR_CODE : FieldRef := ⟨0x40D010C, 0x40, 31, 16⟩
abbrev BRG_P_ERR_RESYNC : FieldRef := ⟨0x40D010C, 0x40, 15, 8⟩
abbrev BRG_P_ERR_CRC : FieldRef := ⟨0x40D010C, 0x40, 7, 0⟩
abbrev BRG_P_PRBS_ERRS : FieldRef := ⟨0x40D0110, 0x40, 31, 0⟩
/-! GPI -/
abbrev GPI_OUT_OUT : FieldRef := ⟨0x40E0040, 0x4, 31, 0⟩
abbrev GPI_OE_OE : FieldRef := ⟨0x40E0050, 0x4, 31, 0⟩
abbrev GPI_IN_IN : FieldRef := ⟨0x40E0060, 0x4, 31, 0⟩
abbrev GPI_EDGE_EDGE : FieldRef := ⟨0x40E0070, 0x4, 31, 0⟩
abbrev GPI_BANK_BAD : FieldRef := ⟨0x40E0080, 0x4, 11, 8⟩
abbrev GPI_BANK_V : FieldRef := ⟨0x40E0080, 0x4, 3, 0⟩
abbrev GPI_PIN8_OWNER : FieldRef := ⟨0x40E0120, 0x4, 30, 28⟩
abbrev GPI_PIN8_FUNC : FieldRef := ⟨0x40E0120, 0x4, 24, 24⟩
abbrev GPI_PIN8_EDGE : FieldRef := ⟨0x40E0120, 0x4, 21, 20⟩
abbrev GPI_PIN8_ACTIVE : FieldRef := ⟨0x40E0120, 0x4, 16, 16⟩
abbrev GPI_PIN8_PULL : FieldRef := ⟨0x40E0120, 0x4, 13, 12⟩
abbrev GPI_PIN8_DRIVE : FieldRef := ⟨0x40E0120, 0x4, 9, 8⟩
abbrev GPI_PIN8_SLEW : FieldRef := ⟨0x40E0120, 0x4, 4, 4⟩
abbrev GPI_PIN_OWNER : FieldRef := ⟨0x40E0100, 0x4, 30, 28⟩
abbrev GPI_PIN_FUNC : FieldRef := ⟨0x40E0100, 0x4, 24, 24⟩
abbrev GPI_PIN_EDGE : FieldRef := ⟨0x40E0100, 0x4, 21, 20⟩
abbrev GPI_PIN_ACTIVE : FieldRef := ⟨0x40E0100, 0x4, 16, 16⟩
abbrev GPI_PIN_PULL : FieldRef := ⟨0x40E0100, 0x4, 13, 12⟩
abbrev GPI_PIN_DRIVE : FieldRef := ⟨0x40E0100, 0x4, 9, 8⟩
abbrev GPI_PIN_SLEW : FieldRef := ⟨0x40E0100, 0x4, 4, 4⟩
abbrev GPI_I2C_XFER_RLEN : FieldRef := ⟨0x40E0400, 0x80, 21, 16⟩
abbrev GPI_I2C_XFER_WLEN : FieldRef := ⟨0x40E0400, 0x80, 13, 8⟩
abbrev GPI_I2C_XFER_A10 : FieldRef := ⟨0x40E0400, 0x80, 1, 1⟩
abbrev GPI_I2C_XFER_GO : FieldRef := ⟨0x40E0400, 0x80, 0, 0⟩
abbrev GPI_I2C_ADDR_ADDR : FieldRef := ⟨0x40E0404, 0x80, 9, 0⟩
abbrev GPI_I2C_TIM_HIGH : FieldRef := ⟨0x40E0408, 0x80, 31, 16⟩
abbrev GPI_I2C_TIM_LOW : FieldRef := ⟨0x40E0408, 0x80, 15, 0⟩
abbrev GPI_I2C_STAT_BYTES : FieldRef := ⟨0x40E040C, 0x80, 21, 16⟩
abbrev GPI_I2C_STAT_RES : FieldRef := ⟨0x40E040C, 0x80, 3, 0⟩
abbrev GPI_I2C0_TXBUF : FieldRef := ⟨0x40E0420, 0x4, 31, 0⟩
abbrev GPI_I2C1_TXBUF : FieldRef := ⟨0x40E04A0, 0x4, 31, 0⟩
abbrev GPI_I2C0_RXBUF : FieldRef := ⟨0x40E0440, 0x4, 31, 0⟩
abbrev GPI_I2C1_RXBUF : FieldRef := ⟨0x40E04C0, 0x4, 31, 0⟩
abbrev GPI_UART_CFG_EN : FieldRef := ⟨0x40E0600, 0x80, 31, 31⟩
abbrev GPI_UART_CFG_PAR : FieldRef := ⟨0x40E0600, 0x80, 30, 29⟩
abbrev GPI_UART_CFG_D7 : FieldRef := ⟨0x40E0600, 0x80, 28, 28⟩
abbrev GPI_UART_CFG_STOP2 : FieldRef := ⟨0x40E0600, 0x80, 27, 27⟩
abbrev GPI_UART_CFG_DIV : FieldRef := ⟨0x40E0600, 0x80, 23, 4⟩
abbrev GPI_UART_THR_RXTHR : FieldRef := ⟨0x40E0604, 0x80, 14, 8⟩
abbrev GPI_UART_THR_TXTHR : FieldRef := ⟨0x40E0604, 0x80, 6, 0⟩
abbrev GPI_UART_STAT_TXDROP : FieldRef := ⟨0x40E0608, 0x80, 20, 20⟩
abbrev GPI_UART_STAT_BRK : FieldRef := ⟨0x40E0608, 0x80, 19, 19⟩
abbrev GPI_UART_STAT_OE : FieldRef := ⟨0x40E0608, 0x80, 18, 18⟩
abbrev GPI_UART_STAT_PE : FieldRef := ⟨0x40E0608, 0x80, 17, 17⟩
abbrev GPI_UART_STAT_FE : FieldRef := ⟨0x40E0608, 0x80, 16, 16⟩
abbrev GPI_UART_STAT_TXLVL : FieldRef := ⟨0x40E0608, 0x80, 14, 8⟩
abbrev GPI_UART_STAT_RXLVL : FieldRef := ⟨0x40E0608, 0x80, 6, 0⟩
abbrev GPI_UART_TX_DATA : FieldRef := ⟨0x40E060C, 0x80, 7, 0⟩
abbrev GPI_UART_RX_VALID : FieldRef := ⟨0x40E0610, 0x80, 8, 8⟩
abbrev GPI_UART_RX_DATA : FieldRef := ⟨0x40E0610, 0x80, 7, 0⟩
abbrev GPI_UART_RXPOP_POP : FieldRef := ⟨0x40E0614, 0x80, 0, 0⟩
abbrev GPI_PWM_CFG_EN : FieldRef := ⟨0x40E0800, 0x10, 31, 31⟩
abbrev GPI_PWM_CFG_POL : FieldRef := ⟨0x40E0800, 0x10, 30, 30⟩
abbrev GPI_PWM_CFG_FSYNC : FieldRef := ⟨0x40E0800, 0x10, 29, 29⟩
abbrev GPI_PWM_CFG_PRESC : FieldRef := ⟨0x40E0800, 0x10, 18, 16⟩
abbrev GPI_PWM_CFG_PERIOD : FieldRef := ⟨0x40E0800, 0x10, 15, 0⟩
abbrev GPI_PWM_DUTY_DUTY : FieldRef := ⟨0x40E0804, 0x10, 15, 0⟩
abbrev GPI_PWM_ACT_DUTY : FieldRef := ⟨0x40E0808, 0x10, 31, 16⟩
abbrev GPI_PWM_ACT_PERIOD : FieldRef := ⟨0x40E0808, 0x10, 15, 0⟩
/-! CAN -/
abbrev CAN_CFG_AUTOREC : FieldRef := ⟨0x40F0040, 0x4, 8, 8⟩
abbrev CAN_CFG_BRS : FieldRef := ⟨0x40F0040, 0x4, 5, 5⟩
abbrev CAN_CFG_FD : FieldRef := ⟨0x40F0040, 0x4, 4, 4⟩
abbrev CAN_CFG_MODE : FieldRef := ⟨0x40F0040, 0x4, 1, 0⟩
abbrev CAN_NBT_SJW : FieldRef := ⟨0x40F0044, 0x4, 31, 25⟩
abbrev CAN_NBT_SEG2 : FieldRef := ⟨0x40F0044, 0x4, 22, 16⟩
abbrev CAN_NBT_SEG1 : FieldRef := ⟨0x40F0044, 0x4, 15, 8⟩
abbrev CAN_NBT_BRP : FieldRef := ⟨0x40F0044, 0x4, 4, 0⟩
abbrev CAN_DBT_SJW : FieldRef := ⟨0x40F0048, 0x4, 27, 24⟩
abbrev CAN_DBT_SEG2 : FieldRef := ⟨0x40F0048, 0x4, 19, 16⟩
abbrev CAN_DBT_SEG1 : FieldRef := ⟨0x40F0048, 0x4, 12, 8⟩
abbrev CAN_DBT_BRP : FieldRef := ⟨0x40F0048, 0x4, 4, 0⟩
abbrev CAN_TDC_EN : FieldRef := ⟨0x40F004C, 0x4, 31, 31⟩
abbrev CAN_TDC_OFFSET : FieldRef := ⟨0x40F004C, 0x4, 6, 0⟩
abbrev CAN_ERR_TEC : FieldRef := ⟨0x40F0050, 0x4, 23, 16⟩
abbrev CAN_ERR_REC : FieldRef := ⟨0x40F0050, 0x4, 14, 8⟩
abbrev CAN_ERR_WARN : FieldRef := ⟨0x40F0050, 0x4, 2, 2⟩
abbrev CAN_ERR_STATE : FieldRef := ⟨0x40F0050, 0x4, 1, 0⟩
abbrev CAN_CNT_RXLOST : FieldRef := ⟨0x40F0054, 0x4, 31, 16⟩
abbrev CAN_CNT_PROTERR : FieldRef := ⟨0x40F0054, 0x4, 15, 0⟩
abbrev CAN_RXF_STAT_PUT : FieldRef := ⟨0x40F0058, 0x8, 20, 16⟩
abbrev CAN_RXF_STAT_LEVEL : FieldRef := ⟨0x40F0058, 0x8, 13, 8⟩
abbrev CAN_RXF_STAT_GET : FieldRef := ⟨0x40F0058, 0x8, 4, 0⟩
abbrev CAN_RXF_ACK_COUNT : FieldRef := ⟨0x40F005C, 0x8, 5, 0⟩
abbrev CAN_TXREQ_REQ : FieldRef := ⟨0x40F0070, 0x4, 7, 0⟩
abbrev CAN_TXABORT_ABORT : FieldRef := ⟨0x40F0074, 0x4, 7, 0⟩
abbrev CAN_TXDONE_DONE : FieldRef := ⟨0x40F0078, 0x4, 7, 0⟩
abbrev CAN_FLT_ID_EN : FieldRef := ⟨0x40F0100, 0x8, 31, 31⟩
abbrev CAN_FLT_ID_IDE : FieldRef := ⟨0x40F0100, 0x8, 30, 30⟩
abbrev CAN_FLT_ID_FIFO : FieldRef := ⟨0x40F0100, 0x8, 29, 29⟩
abbrev CAN_FLT_ID_ID : FieldRef := ⟨0x40F0100, 0x8, 28, 0⟩
abbrev CAN_FLT_MASK : FieldRef := ⟨0x40F0104, 0x8, 28, 0⟩
abbrev CAN_RXF0_EL : FieldRef := ⟨0x40F1000, 0x4, 31, 0⟩
abbrev CAN_RXF1_EL : FieldRef := ⟨0x40F2000, 0x4, 31, 0⟩
abbrev CAN_TXB : FieldRef := ⟨0x40F3000, 0x4, 31, 0⟩
/-! XSP -/
abbrev XSP_CFG_SIZE : FieldRef := ⟨0x4100040, 0x4, 28, 24⟩
abbrev XSP_CFG_ADDR4 : FieldRef := ⟨0x4100040, 0x4, 20, 20⟩
abbrev XSP_CFG_RMODE : FieldRef := ⟨0x4100040, 0x4, 17, 16⟩
abbrev XSP_CFG_ROP : FieldRef := ⟨0x4100040, 0x4, 15, 8⟩
abbrev XSP_CFG_DUMMY : FieldRef := ⟨0x4100040, 0x4, 7, 4⟩
abbrev XSP_CFG_DIV : FieldRef := ⟨0x4100040, 0x4, 2, 0⟩
abbrev XSP_CMD_DLEN : FieldRef := ⟨0x4100044, 0x4, 28, 20⟩
abbrev XSP_CMD_QUAD : FieldRef := ⟨0x4100044, 0x4, 19, 19⟩
abbrev XSP_CMD_DIR : FieldRef := ⟨0x4100044, 0x4, 18, 18⟩
abbrev XSP_CMD_ALEN : FieldRef := ⟨0x4100044, 0x4, 17, 16⟩
abbrev XSP_CMD_DUMMY : FieldRef := ⟨0x4100044, 0x4, 15, 12⟩
abbrev XSP_CMD_OP : FieldRef := ⟨0x4100044, 0x4, 11, 4⟩
abbrev XSP_CMD_GO : FieldRef := ⟨0x4100044, 0x4, 0, 0⟩
abbrev XSP_CMDADDR_ADDR : FieldRef := ⟨0x4100048, 0x4, 31, 0⟩
abbrev XSP_DMASRC_ADDR : FieldRef := ⟨0x4100050, 0x4, 31, 0⟩
abbrev XSP_DMADST_ADDR : FieldRef := ⟨0x4100054, 0x4, 23, 4⟩
abbrev XSP_DMALEN_LEN : FieldRef := ⟨0x4100058, 0x4, 24, 4⟩
abbrev XSP_DMACTRL_GO : FieldRef := ⟨0x410005C, 0x4, 0, 0⟩
abbrev XSP_BUF : FieldRef := ⟨0x4100100, 0x4, 31, 0⟩
/-! CAM -/
abbrev CAM_WCTRL_EN : FieldRef := ⟨0x4110040, 0x4, 31, 31⟩
abbrev CAM_WCTRL_SRC : FieldRef := ⟨0x4110040, 0x4, 16, 16⟩
abbrev CAM_WCTRL_LDBL : FieldRef := ⟨0x4110040, 0x4, 12, 12⟩
abbrev CAM_WCTRL_RANGE : FieldRef := ⟨0x4110040, 0x4, 9, 9⟩
abbrev CAM_WCTRL_MATRIX : FieldRef := ⟨0x4110040, 0x4, 8, 8⟩
abbrev CAM_WCTRL_PAL : FieldRef := ⟨0x4110040, 0x4, 7, 4⟩
abbrev CAM_WCTRL_FMT : FieldRef := ⟨0x4110040, 0x4, 1, 0⟩
abbrev CAM_WOUT0_WY : FieldRef := ⟨0x4110044, 0x4, 27, 16⟩
abbrev CAM_WOUT0_WX : FieldRef := ⟨0x4110044, 0x4, 11, 0⟩
abbrev CAM_WOUT1_HOUT : FieldRef := ⟨0x4110048, 0x4, 27, 16⟩
abbrev CAM_WOUT1_WOUT : FieldRef := ⟨0x4110048, 0x4, 11, 0⟩
abbrev CAM_WSRC0_SY : FieldRef := ⟨0x411004C, 0x4, 27, 16⟩
abbrev CAM_WSRC0_SX : FieldRef := ⟨0x411004C, 0x4, 11, 0⟩
abbrev CAM_WSRC1_HSRC : FieldRef := ⟨0x4110050, 0x4, 27, 16⟩
abbrev CAM_WSRC1_WSRC : FieldRef := ⟨0x4110050, 0x4, 11, 0⟩
abbrev CAM_WBMP_ADDR : FieldRef := ⟨0x4110054, 0x4, 23, 4⟩
abbrev CAM_WPITCH_PITCH : FieldRef := ⟨0x4110058, 0x4, 15, 4⟩
abbrev CAM_WFILL_COLOUR : FieldRef := ⟨0x411005C, 0x4, 23, 0⟩
abbrev CAM_CCTRL_EN : FieldRef := ⟨0x4110060, 0x4, 31, 31⟩
abbrev CAM_CCTRL_STALE : FieldRef := ⟨0x4110060, 0x4, 15, 8⟩
abbrev CAM_CCTRL_NBUF : FieldRef := ⟨0x4110060, 0x4, 1, 0⟩
abbrev CAM_CBUF_ADDR : FieldRef := ⟨0x4110064, 0x4, 23, 4⟩
abbrev CAM_CPITCH_PITCH : FieldRef := ⟨0x4110070, 0x4, 15, 4⟩
abbrev CAM_CCROP0_CY0 : FieldRef := ⟨0x4110074, 0x4, 27, 16⟩
abbrev CAM_CCROP0_CX0 : FieldRef := ⟨0x4110074, 0x4, 11, 0⟩
abbrev CAM_CCROP1_H_IN : FieldRef := ⟨0x4110078, 0x4, 27, 16⟩
abbrev CAM_CCROP1_W_IN : FieldRef := ⟨0x4110078, 0x4, 11, 0⟩
abbrev CAM_CSTAT_AGE : FieldRef := ⟨0x411007C, 0x4, 31, 24⟩
abbrev CAM_CSTAT_WRITING : FieldRef := ⟨0x411007C, 0x4, 9, 8⟩
abbrev CAM_CSTAT_NEWEST : FieldRef := ⟨0x411007C, 0x4, 5, 4⟩
abbrev CAM_CSTAT_LATCHED : FieldRef := ⟨0x411007C, 0x4, 1, 0⟩
abbrev CAM_CCNT_FRAMES : FieldRef := ⟨0x4110080, 0x4, 31, 16⟩
abbrev CAM_CCNT_DROPS : FieldRef := ⟨0x4110080, 0x4, 15, 0⟩
abbrev CAM_IFCFG_EN : FieldRef := ⟨0x4110100, 0x4, 31, 31⟩
abbrev CAM_IFCFG_HCORR : FieldRef := ⟨0x4110100, 0x4, 3, 3⟩
abbrev CAM_IFCFG_YLANE : FieldRef := ⟨0x4110100, 0x4, 2, 2⟩
abbrev CAM_IFCFG_EDGE : FieldRef := ⟨0x4110100, 0x4, 1, 1⟩
abbrev CAM_IFCFG_STD : FieldRef := ⟨0x4110100, 0x4, 0, 0⟩
abbrev CAM_IFSTAT_LOCK : FieldRef := ⟨0x4110104, 0x4, 31, 31⟩
abbrev CAM_IFSTAT_ILACE : FieldRef := ⟨0x4110104, 0x4, 30, 30⟩
abbrev CAM_IFSTAT_FIELD : FieldRef := ⟨0x4110104, 0x4, 29, 29⟩
abbrev CAM_IFSTAT_HEIGHT : FieldRef := ⟨0x4110104, 0x4, 27, 16⟩
abbrev CAM_IFSTAT_WIDTH : FieldRef := ⟨0x4110104, 0x4, 11, 0⟩
abbrev CAM_IFCNT_SYNCERR : FieldRef := ⟨0x4110108, 0x4, 31, 16⟩
abbrev CAM_IFCNT_CORR : FieldRef := ⟨0x4110108, 0x4, 15, 0⟩
/-! AUS -/
abbrev AUS_AS0CFG_EN : FieldRef := ⟨0x4120040, 0x4, 31, 31⟩
abbrev AUS_AS0CFG_RATE : FieldRef := ⟨0x4120040, 0x4, 8, 8⟩
abbrev AUS_AS0CFG_SW : FieldRef := ⟨0x4120040, 0x4, 5, 4⟩
abbrev AUS_AS0CFG_FSP : FieldRef := ⟨0x4120040, 0x4, 3, 3⟩
abbrev AUS_AS0CFG_DLY : FieldRef := ⟨0x4120040, 0x4, 2, 2⟩
abbrev AUS_AS0CFG_BINV : FieldRef := ⟨0x4120040, 0x4, 1, 1⟩
abbrev AUS_AS0CFG_MCLKEN : FieldRef := ⟨0x4120040, 0x4, 0, 0⟩
abbrev AUS_AS1CFG_RATE : FieldRef := ⟨0x4120044, 0x4, 8, 8⟩
abbrev AUS_AS1CFG_SW : FieldRef := ⟨0x4120044, 0x4, 5, 4⟩
abbrev AUS_STAT_RBMIS : FieldRef := ⟨0x4120048, 0x4, 15, 0⟩
/-! EFT -/
abbrev EFT_FLAGS_FLAGS : FieldRef := ⟨0x4130040, 0x4, 31, 0⟩
abbrev EFT_FLAGSET_SET : FieldRef := ⟨0x4130044, 0x4, 31, 0⟩
abbrev EFT_VBAR_BASE : FieldRef := ⟨0x4130048, 0x4, 31, 6⟩
abbrev EFT_RSTVEC_VEC : FieldRef := ⟨0x413004C, 0x4, 31, 0⟩
abbrev EFT_AWEN_EN : FieldRef := ⟨0x4130050, 0x4, 3, 0⟩
abbrev EFT_AWSTAT_COUNT : FieldRef := ⟨0x4130054, 0x4, 31, 16⟩
abbrev EFT_AWSTAT_TARGET : FieldRef := ⟨0x4130054, 0x4, 14, 12⟩
abbrev EFT_AWSTAT_LEN : FieldRef := ⟨0x4130054, 0x4, 8, 0⟩
abbrev EFT_RUNSTAT_HALTED : FieldRef := ⟨0x4130058, 0x4, 11, 8⟩
abbrev EFT_RUNSTAT_STARTED : FieldRef := ⟨0x4130058, 0x4, 3, 0⟩
abbrev EFT_STAT_EXL : FieldRef := ⟨0x4130060, 0x4, 5, 5⟩
abbrev EFT_STAT_MODE : FieldRef := ⟨0x4130060, 0x4, 4, 4⟩
abbrev EFT_STAT_STATE : FieldRef := ⟨0x4130060, 0x4, 2, 0⟩
abbrev EFT_WMASK : FieldRef := ⟨0x4130070, 0x4, 31, 0⟩
abbrev EFT_IRQPEND_PEND : FieldRef := ⟨0x41300C0, 0x4, 22, 0⟩
abbrev EFT_CPMODE_MODE : FieldRef := ⟨0x4130080, 0x4, 31, 0⟩
abbrev EFT_UNC_BASE_ADDR : FieldRef := ⟨0x41300A0, 0x8, 23, 12⟩
abbrev EFT_UNC_BASE_EN : FieldRef := ⟨0x41300A0, 0x8, 0, 0⟩
abbrev EFT_UNC_LIMIT_ADDR : FieldRef := ⟨0x41300A4, 0x8, 23, 12⟩
abbrev EFT_LRAMERR_UE : FieldRef := ⟨0x41300B0, 0x4, 23, 16⟩
abbrev EFT_LRAMERR_CE : FieldRef := ⟨0x41300B0, 0x4, 15, 0⟩
abbrev EFT_IRQROUTE_IEN : FieldRef := ⟨0x4130100, 0x4, 31, 31⟩
abbrev EFT_IRQROUTE_EFT : FieldRef := ⟨0x4130100, 0x4, 25, 24⟩
abbrev EFT_IRQROUTE_FEN : FieldRef := ⟨0x4130100, 0x4, 15, 15⟩
abbrev EFT_IRQROUTE_FLAG : FieldRef := ⟨0x4130100, 0x4, 4, 0⟩
abbrev EFT_COPCFG_TIMEOUT : FieldRef := ⟨0x4130180, 0x4, 31, 16⟩
abbrev EFT_COPCFG_BOUND : FieldRef := ⟨0x4130180, 0x4, 15, 15⟩
abbrev EFT_COPCFG_SSLOT : FieldRef := ⟨0x4130180, 0x4, 10, 8⟩
abbrev EFT_COPCFG_NODE : FieldRef := ⟨0x4130180, 0x4, 6, 0⟩
abbrev EFT_COPCFG47_TIMEOUT : FieldRef := ⟨0x4130190, 0x4, 31, 16⟩
abbrev EFT_COPCFG47_BOUND : FieldRef := ⟨0x4130190, 0x4, 15, 15⟩
abbrev EFT_COPCFG47_SSLOT : FieldRef := ⟨0x4130190, 0x4, 10, 8⟩
abbrev EFT_COPCFG47_NODE : FieldRef := ⟨0x4130190, 0x4, 6, 0⟩
abbrev EFT_COPSTAT_LATE : FieldRef := ⟨0x41301A0, 0x4, 23, 16⟩
abbrev EFT_COPSTAT_PEND : FieldRef := ⟨0x41301A0, 0x4, 15, 0⟩
abbrev EFT_COPSTAT2_ARITH : FieldRef := ⟨0x41301A8, 0x4, 31, 31⟩
abbrev EFT_COPSTAT2_LATE : FieldRef := ⟨0x41301A8, 0x4, 23, 16⟩
abbrev EFT_COPSTAT2_PEND : FieldRef := ⟨0x41301A8, 0x4, 15, 0⟩
abbrev EFT_COPSTAT37_LATE : FieldRef := ⟨0x41301AC, 0x4, 23, 16⟩
abbrev EFT_COPSTAT37_PEND : FieldRef := ⟨0x41301AC, 0x4, 15, 0⟩
/-! MBX -/
abbrev MBX_CTRL_RFREE : FieldRef := ⟨0x4140040, 0x4, 1, 1⟩
abbrev MBX_CTRL_SEND : FieldRef := ⟨0x4140040, 0x4, 0, 0⟩
abbrev MBX_STAT_RLEN : FieldRef := ⟨0x4140044, 0x4, 31, 16⟩
abbrev MBX_STAT_SESSION : FieldRef := ⟨0x4140044, 0x4, 5, 4⟩
abbrev MBX_STAT_EXEC : FieldRef := ⟨0x4140044, 0x4, 1, 1⟩
abbrev MBX_STAT_RFULL : FieldRef := ⟨0x4140044, 0x4, 0, 0⟩
abbrev MBX_NOTICE_NOTICES : FieldRef := ⟨0x4140048, 0x4, 15, 0⟩
abbrev MBX_REQUEST : FieldRef := ⟨0x4141000, 0x4, 31, 0⟩
abbrev MBX_REPLY : FieldRef := ⟨0x4143000, 0x4, 31, 0⟩
/-! NVS -/
abbrev NVS_STAT_CALSRC : FieldRef := ⟨0x4150040, 0x4, 9, 8⟩
abbrev NVS_STAT_EVAL : FieldRef := ⟨0x4150040, 0x4, 7, 7⟩
abbrev NVS_STAT_DEBUG : FieldRef := ⟨0x4150040, 0x4, 6, 6⟩
abbrev NVS_STAT_LIFE : FieldRef := ⟨0x4150040, 0x4, 5, 4⟩
abbrev NVS_STAT_FLOCK : FieldRef := ⟨0x4150040, 0x4, 3, 3⟩
abbrev NVS_STAT_DEVKEY : FieldRef := ⟨0x4150040, 0x4, 2, 2⟩
abbrev NVS_STAT_ZPEND : FieldRef := ⟨0x4150040, 0x4, 1, 1⟩
abbrev NVS_STAT_BUSY : FieldRef := ⟨0x4150040, 0x4, 0, 0⟩
abbrev NVS_IMGERR_CODE : FieldRef := ⟨0x4150044, 0x4, 3, 0⟩
abbrev NVS_WRITES_COUNT : FieldRef := ⟨0x4150048, 0x4, 31, 0⟩
abbrev NVS_SPAREWM_CFG_HYST : FieldRef := ⟨0x415004C, 0x4, 31, 16⟩
abbrev NVS_SPAREWM_CFG_THRESH : FieldRef := ⟨0x415004C, 0x4, 15, 0⟩
abbrev NVS_SPAREWM_STAT_BELOW : FieldRef := ⟨0x4150050, 0x4, 16, 16⟩
abbrev NVS_SPAREWM_STAT_LEVEL : FieldRef := ⟨0x4150050, 0x4, 15, 0⟩
abbrev NVS_SPAREWM_REC_CROSS : FieldRef := ⟨0x4150054, 0x4, 31, 16⟩
abbrev NVS_SPAREWM_REC_EXTREME : FieldRef := ⟨0x4150054, 0x4, 15, 0⟩
abbrev NVS_FUSE_SVN : FieldRef := ⟨0x4150060, 0x4, 13, 8⟩
abbrev NVS_FUSE_PRG : FieldRef := ⟨0x4150060, 0x4, 7, 4⟩
abbrev NVS_FUSE_REV : FieldRef := ⟨0x4150060, 0x4, 3, 0⟩
abbrev NVS_DEVIDLO_ID : FieldRef := ⟨0x4150064, 0x4, 31, 0⟩
abbrev NVS_DEVIDHI_ID : FieldRef := ⟨0x4150068, 0x4, 31, 0⟩
abbrev NVS_SEC : FieldRef := ⟨0x4151000, 0x4, 31, 0⟩
/-! TMR -/
abbrev TMR_CNTLO_COUNT : FieldRef := ⟨0x4160040, 0x4, 31, 0⟩
abbrev TMR_CNTHI_COUNT : FieldRef := ⟨0x4160044, 0x4, 15, 0⟩
abbrev TMR_ALM0LO_CMP : FieldRef := ⟨0x4160048, 0x4, 31, 0⟩
abbrev TMR_ALM0HI_CMP : FieldRef := ⟨0x416004C, 0x4, 15, 0⟩
abbrev TMR_ALM1LO_CMP : FieldRef := ⟨0x4160050, 0x4, 31, 0⟩
abbrev TMR_ALM1HI_CMP : FieldRef := ⟨0x4160054, 0x4, 15, 0⟩

end Sys2Proof.Machine.F
end

