-- ==== Sys2Proof/Machine/RegTable.lean ====
section
/-! DEFINITION. The register tables of the spec (02 R32, and the register table of every chapter): which fields each
register has, their access codes (R12), collision classes (R14, R40) and reset values. -/

namespace Sys2Proof.Machine

/-- Register rows of SYS (03 R39). -/
def rowsSYS0 : List RegRow :=
  [ ⟨0x40, 1, 0x4, [⟨31, 0, .ro, .lv, 0xB1⟩]⟩,
    ⟨0x44, 1, 0x4, [⟨12, 12, .ro, .sw, 0x0⟩, ⟨8, 8, .ro, .lv, 0x0⟩, ⟨5, 4, .ro, .lv, 0x1⟩, ⟨1, 0, .ro, .lv, 0x1⟩]⟩,
    ⟨0x48, 1, 0x4, [⟨31, 0, .ro, .lv, 0x3⟩]⟩,
    ⟨0x4C, 1, 0x4, [⟨17, 0, .ro, .lv, 0x10000⟩]⟩,
    ⟨0x50, 1, 0x4, [⟨31, 16, .ro, .lv, 0x0⟩, ⟨15, 0, .ro, .sw, 0x0⟩]⟩,
    ⟨0x54, 1, 0x4, [⟨11, 11, .ro, .lv, 0x0⟩, ⟨10, 10, .ro, .lv, 0x0⟩, ⟨9, 9, .ro, .lv, 0x0⟩, ⟨8, 8, .ro, .lv, 0x0⟩, ⟨4, 4, .ro, .lv, 0x0⟩, ⟨1, 1, .ro, .lv, 0x0⟩, ⟨0, 0, .ro, .lv, 0x0⟩]⟩,
    ⟨0x58, 1, 0x4, [⟨29, 24, .ro, .sw, 0x0⟩, ⟨23, 16, .ro, .sw, 0x0⟩, ⟨15, 8, .ro, .sw, 0x0⟩, ⟨6, 6, .ro, .sw, 0x0⟩, ⟨5, 5, .ro, .sw, 0x0⟩, ⟨4, 4, .ro, .sw, 0x0⟩, ⟨3, 3, .ro, .sw, 0x0⟩, ⟨2, 2, .ro, .sw, 0x0⟩, ⟨1, 1, .ro, .sw, 0x0⟩, ⟨0, 0, .ro, .sw, 0x1⟩]⟩,
    ⟨0x5C, 1, 0x4, [⟨15, 8, .w1c, .hs, 0x0⟩, ⟨4, 4, .w1c, .hs, 0x0⟩, ⟨3, 3, .w1c, .hs, 0x0⟩, ⟨2, 2, .w1c, .hs, 0x0⟩, ⟨1, 1, .w1c, .hs, 0x0⟩, ⟨0, 0, .w1c, .hs, 0x0⟩]⟩,
    ⟨0x60, 1, 0x4, [⟨31, 0, .ro, .lv, 0x0⟩]⟩,
    ⟨0x64, 1, 0x4, [⟨6, 6, .w1c, .hs, 0x0⟩, ⟨5, 5, .w1c, .hs, 0x0⟩, ⟨4, 4, .w1c, .hs, 0x0⟩, ⟨3, 3, .w1c, .hs, 0x0⟩, ⟨2, 2, .w1c, .hs, 0x0⟩, ⟨1, 1, .w1c, .hs, 0x0⟩, ⟨0, 0, .w1c, .hs, 0x1⟩]⟩ ]
/-- Block SYS: its rows, whether it is shadowed, whether it has the active-value view, its block-defined EVT bits. -/
def blockSYS : RegBlock := ⟨0x4000000, false, false, 0x1FF, rowsSYS0⟩

/-- Register rows of MTX (05 R186). -/
def rowsMTX0 : List RegRow :=
  [ ⟨0x40, 1, 0x4, [⟨15, 0, .rw, .sw, 0x1000⟩]⟩,
    ⟨0x44, 1, 0x4, [⟨31, 31, .ro, .lv, 0x0⟩, ⟨27, 24, .ro, .lv, 0x0⟩, ⟨19, 16, .ro, .lv, 0x0⟩, ⟨15, 0, .ro, .lv, 0x0⟩]⟩,
    ⟨0x48, 1, 0x4, [⟨31, 0, .ro, .lv, 0x0⟩]⟩,
    ⟨0x4C, 1, 0x4, [⟨31, 31, .w1c, .hs, 0x0⟩, ⟨30, 30, .w1c, .hs, 0x0⟩, ⟨19, 16, .ro, .lv, 0x0⟩, ⟨9, 8, .ro, .lv, 0x0⟩, ⟨4, 4, .ro, .lv, 0x0⟩, ⟨3, 0, .ro, .lv, 0x0⟩]⟩,
    ⟨0x50, 1, 0x4, [⟨11, 0, .w1c, .hs, 0x0⟩]⟩,
    ⟨0x54, 1, 0x4, [⟨31, 0, .ro, .lv, 0x0⟩]⟩,
    ⟨0x58, 1, 0x4, [⟨31, 31, .w1c, .hs, 0x0⟩, ⟨30, 30, .w1c, .hs, 0x0⟩, ⟨24, 24, .ro, .lv, 0x0⟩, ⟨19, 16, .ro, .lv, 0x0⟩, ⟨11, 8, .ro, .lv, 0x0⟩, ⟨7, 0, .ro, .lv, 0x0⟩]⟩,
    ⟨0x5C, 1, 0x4, [⟨3, 0, .rw, .sw, 0x1⟩]⟩,
    ⟨0x60, 2, 0x4, [⟨3, 0, .ro, .lv, 0x3⟩, ⟨7, 4, .ro, .lv, 0x3⟩, ⟨11, 8, .ro, .lv, 0x3⟩, ⟨15, 12, .ro, .lv, 0x3⟩, ⟨19, 16, .ro, .lv, 0x3⟩, ⟨23, 20, .ro, .lv, 0x3⟩, ⟨27, 24, .ro, .lv, 0x3⟩, ⟨31, 28, .ro, .lv, 0x3⟩]⟩,
    ⟨0x68, 1, 0x4, [⟨31, 31, .w1c, .hs, 0x0⟩, ⟨16, 16, .ro, .lv, 0x0⟩, ⟨15, 8, .ro, .lv, 0x0⟩, ⟨3, 0, .ro, .lv, 0x0⟩]⟩,
    ⟨0x80, 8, 0x10, [⟨31, 12, .rw, .sw, 0x0⟩]⟩,
    ⟨0x84, 8, 0x10, [⟨31, 12, .rw, .sw, 0x0⟩]⟩ ]
/-- Register rows of MTX (05 R186). -/
def rowsMTX1 : List RegRow :=
  [ ⟨0x88, 8, 0x10, [⟨31, 16, .rw, .sw, 0x0⟩, ⟨1, 1, .rw, .sw, 0x0⟩, ⟨0, 0, .rw, .sw, 0x0⟩]⟩,
    ⟨0x100, 16, 0x4, [⟨23, 16, .rw, .ci, 0x0⟩, ⟨15, 0, .rw, .ci, 0x0⟩]⟩,
    ⟨0x140, 12, 0x4, [⟨23, 16, .ro, .lv, 0x0⟩, ⟨11, 8, .ro, .lv, 0x0⟩, ⟨3, 0, .ro, .lv, 0x0⟩]⟩ ]
/-- Block MTX: its rows, whether it is shadowed, whether it has the active-value view, its block-defined EVT bits. -/
def blockMTX : RegBlock := ⟨0x4010000, false, false, 0x7F, rowsMTX0 ++ rowsMTX1⟩

/-- Register rows of LDG (06 R190). -/
def rowsLDG0 : List RegRow :=
  [ ⟨0x40, 1, 0x4, [⟨24, 16, .ro, .sw, 0x12C⟩, ⟨10, 0, .ro, .sw, 0x4B0⟩]⟩,
    ⟨0x44, 1, 0x4, [⟨31, 31, .ro, .lv, 0x0⟩, ⟨30, 27, .ro, .lv, 0x0⟩, ⟨26, 16, .ro, .lv, 0x4B0⟩, ⟨10, 0, .ro, .lv, 0x5⟩]⟩,
    ⟨0x48, 4, 0x4, [⟨31, 31, .ro, .lv, 0x0⟩, ⟨30, 30, .ro, .lv, 0x0⟩, ⟨29, 24, .ro, .lv, 0x0⟩, ⟨23, 12, .ro, .lv, 0x12C⟩, ⟨11, 0, .ro, .lv, 0x2⟩]⟩,
    ⟨0x58, 1, 0x4, [⟨15, 1, .ro, .lv, 0x0⟩]⟩,
    ⟨0x60, 1, 0x4, [⟨31, 0, .ro, .sw, 0x3040506⟩]⟩,
    ⟨0x64, 1, 0x4, [⟨31, 0, .ro, .sw, 0xB0D0102⟩]⟩,
    ⟨0x68, 2, 0x4, [⟨31, 0, .ro, .sw, 0x0⟩]⟩,
    ⟨0x70, 1, 0x4, [⟨15, 0, .ro, .lv, 0xFFFF⟩]⟩,
    ⟨0x74, 1, 0x4, [⟨23, 16, .rw, .sw, 0x40⟩, ⟨15, 8, .rw, .sw, 0x10⟩, ⟨1, 1, .rw, .sw, 0x1⟩, ⟨0, 0, .rw, .sw, 0x1⟩]⟩,
    ⟨0x78, 1, 0x4, [⟨31, 16, .rw, .sw, 0x100⟩, ⟨15, 0, .rw, .sw, 0x428⟩]⟩,
    ⟨0x7C, 1, 0x4, [⟨16, 16, .ro, .lv, 0x0⟩, ⟨15, 0, .ro, .lv, 0xFFFF⟩]⟩,
    ⟨0x80, 1, 0x4, [⟨31, 16, .rw, .ci, 0x0⟩, ⟨15, 0, .rw, (.hu 0), 0xFFFF⟩]⟩ ]
/-- Register rows of LDG (06 R190). -/
def rowsLDG1 : List RegRow :=
  [ ⟨0x88, 1, 0x4, [⟨31, 16, .rw, .ci, 0x0⟩, ⟨15, 0, .rw, .ci, 0x0⟩]⟩,
    ⟨0x8C, 1, 0x4, [⟨23, 16, .rw, .sw, 0x10⟩, ⟨13, 8, .rw, .sw, 0x4⟩, ⟨5, 0, .rw, .sw, 0x20⟩]⟩,
    ⟨0x110, 6, 0x10, [⟨31, 16, .rw, .sw, 0x0⟩, ⟨15, 15, .rw, .sw, 0x0⟩, ⟨14, 11, .rw, .sw, 0x8⟩, ⟨10, 0, .rw, .sw, 0x0⟩]⟩,
    ⟨0x170, 7, 0x10, [⟨31, 16, .rw, .sw, 0x0⟩, ⟨14, 11, .rw, .sw, 0x8⟩, ⟨10, 0, .rw, .sw, 0x0⟩]⟩,
    ⟨0x1E0, 1, 0x4, [⟨31, 16, .ro, .sw, 0xFFFF⟩, ⟨14, 11, .rw, .sw, 0x8⟩, ⟨10, 0, .ro, .sw, 0x4⟩]⟩,
    ⟨0x1F0, 1, 0x4, [⟨31, 16, .ro, .sw, 0xFFFF⟩, ⟨14, 11, .rw, .sw, 0x8⟩, ⟨10, 0, .ro, .sw, 0x1⟩]⟩,
    ⟨0x114, 15, 0x10, [⟨15, 0, .rw, .sw, 0xFFFF⟩]⟩,
    ⟨0x118, 13, 0x10, [⟨31, 16, .ro, .lv, 0x0⟩, ⟨15, 15, .ro, .lv, 0x0⟩, ⟨10, 0, .ro, .lv, 0x0⟩]⟩,
    ⟨0x1E8, 1, 0x4, [⟨31, 16, .ro, .lv, 0xFFFF⟩, ⟨10, 0, .ro, .lv, 0x4⟩]⟩,
    ⟨0x1F8, 1, 0x4, [⟨31, 16, .ro, .lv, 0xFFFF⟩, ⟨10, 0, .ro, .lv, 0x1⟩]⟩,
    ⟨0x11C, 15, 0x10, [⟨31, 16, .rw, .ci, 0x0⟩, ⟨11, 8, .ro, .lv, 0x0⟩, ⟨7, 0, .ro, .lv, 0x0⟩]⟩ ]
/-- Block LDG: its rows, whether it is shadowed, whether it has the active-value view, its block-defined EVT bits. -/
def blockLDG : RegBlock := ⟨0x4020000, false, false, 0x1FF, rowsLDG0 ++ rowsLDG1⟩

/-- Register rows of TIM (09 R304). -/
def rowsTIM0 : List RegRow :=
  [ ⟨0x40, 1, 0x4, [⟨0, 0, .rw, .sw, 0x0⟩]⟩,
    ⟨0x44, 1, 0x4, [⟨27, 16, .sh, .sh, 0x18⟩, ⟨11, 0, .sh, .sh, 0x780⟩]⟩,
    ⟨0x48, 1, 0x4, [⟨27, 16, .sh, .sh, 0x28⟩, ⟨7, 0, .sh, .sh, 0x10⟩]⟩,
    ⟨0x4C, 1, 0x4, [⟨27, 16, .sh, .sh, 0xA⟩, ⟨11, 0, .sh, .sh, 0x2D0⟩]⟩,
    ⟨0x50, 1, 0x4, [⟨27, 16, .sh, .sh, 0x10⟩, ⟨5, 0, .sh, .sh, 0x4⟩]⟩,
    ⟨0x54, 1, 0x4, [⟨17, 0, .sh, .sh, 0x15F90⟩]⟩,
    ⟨0x58, 1, 0x4, [⟨12, 12, .sh, .sh, 0x0⟩, ⟨10, 10, .sh, .sh, 0x0⟩, ⟨9, 9, .sh, .sh, 0x1⟩, ⟨8, 8, .sh, .sh, 0x1⟩, ⟨7, 7, .sh, .sh, 0x0⟩, ⟨6, 6, .sh, .sh, 0x0⟩, ⟨5, 5, .sh, .sh, 0x0⟩, ⟨4, 4, .sh, .sh, 0x0⟩, ⟨1, 0, .sh, .sh, 0x0⟩]⟩,
    ⟨0x5C, 1, 0x4, [⟨31, 16, .sh, .sh, 0x0⟩, ⟨5, 5, .sh, .sh, 0x0⟩, ⟨4, 4, .sh, .sh, 0x0⟩, ⟨1, 0, .sh, .sh, 0x0⟩]⟩,
    ⟨0x60, 1, 0x4, [⟨11, 0, .rw, .sw, 0x0⟩]⟩,
    ⟨0x64, 1, 0x4, [⟨12, 12, .ro, .lv, 0x0⟩, ⟨9, 9, .ro, .lv, 0x0⟩, ⟨8, 8, .ro, .lv, 0x0⟩, ⟨2, 0, .ro, .lv, 0x0⟩]⟩,
    ⟨0x68, 1, 0x4, [⟨27, 16, .ro, .lv, 0x0⟩, ⟨11, 0, .ro, .lv, 0x0⟩]⟩,
    ⟨0x6C, 1, 0x4, [⟨31, 0, .ro, .lv, 0x0⟩]⟩ ]
/-- Register rows of TIM (09 R304). -/
def rowsTIM1 : List RegRow :=
  [ ⟨0x70, 1, 0x4, [⟨31, 16, .ro, .lv, 0x0⟩, ⟨15, 4, .ro, .lv, 0x0⟩, ⟨2, 0, .ro, .lv, 0x0⟩]⟩,
    ⟨0x74, 1, 0x4, [⟨31, 16, .rw, .ci, 0x0⟩, ⟨15, 0, .rw, .ci, 0x0⟩]⟩,
    ⟨0x80, 1, 0x4, [⟨31, 16, .rw, .sw, 0x20⟩, ⟨15, 0, .rw, .sw, 0x200⟩]⟩,
    ⟨0x84, 1, 0x4, [⟨16, 16, .ro, .lv, 0x0⟩, ⟨15, 0, .ro, .lv, 0xFFFF⟩]⟩,
    ⟨0x88, 1, 0x4, [⟨31, 16, .rw, .ci, 0x0⟩, ⟨15, 0, .rw, (.hu 0), 0xFFFF⟩]⟩,
    ⟨0x8C, 1, 0x4, [⟨15, 0, .rw, .ci, 0x0⟩]⟩,
    ⟨0x90, 1, 0x4, [⟨31, 0, .rw, .ci, 0x0⟩]⟩,
    ⟨0x94, 1, 0x4, [⟨27, 16, .ro, .lv, 0x0⟩, ⟨11, 0, .ro, .lv, 0x0⟩]⟩,
    ⟨0x98, 1, 0x4, [⟨31, 16, .ro, .lv, 0x0⟩, ⟨15, 0, .rw, .ci, 0x0⟩]⟩ ]
/-- Block TIM: its rows, whether it is shadowed, whether it has the active-value view, its block-defined EVT bits. -/
def blockTIM : RegBlock := ⟨0x4030000, true, true, 0x7FF, rowsTIM0 ++ rowsTIM1⟩

/-- Register rows of PLN (10 R344). -/
def rowsPLN0 : List RegRow :=
  [ ⟨0x100, 4, 0x40, [⟨31, 31, .sh, .sh, 0x0⟩, ⟨29, 29, .sh, .sh, 0x0⟩, ⟨28, 28, .sh, .sh, 0x0⟩, ⟨27, 24, .sh, .sh, 0x0⟩, ⟨22, 20, .sh, .sh, 0x0⟩, ⟨18, 16, .sh, .sh, 0x0⟩, ⟨12, 12, .sh, .sh, 0x0⟩, ⟨9, 8, .sh, .sh, 0x0⟩, ⟨5, 4, .sh, .sh, 0x0⟩, ⟨2, 0, .sh, .sh, 0x0⟩]⟩,
    ⟨0x200, 2, 0x40, [⟨31, 31, .sh, .sh, 0x0⟩, ⟨30, 30, .sh, .sh, 0x0⟩, ⟨29, 29, .sh, .sh, 0x0⟩, ⟨28, 28, .sh, .sh, 0x0⟩, ⟨27, 24, .sh, .sh, 0x0⟩, ⟨22, 20, .sh, .sh, 0x0⟩, ⟨18, 16, .sh, .sh, 0x0⟩, ⟨12, 12, .sh, .sh, 0x0⟩, ⟨9, 8, .sh, .sh, 0x0⟩, ⟨5, 4, .sh, .sh, 0x0⟩, ⟨2, 0, .sh, .sh, 0x0⟩]⟩,
    ⟨0x104, 6, 0x40, [⟨23, 4, .sh, .sh, 0x0⟩]⟩,
    ⟨0x108, 6, 0x40, [⟨23, 4, .sh, .sh, 0x0⟩]⟩,
    ⟨0x10C, 6, 0x40, [⟨31, 16, .sh, .sh, 0x0⟩, ⟨15, 0, .sh, .sh, 0x0⟩]⟩,
    ⟨0x110, 6, 0x40, [⟨27, 16, .sh, .sh, 0x7FF⟩, ⟨11, 0, .sh, .sh, 0x0⟩]⟩,
    ⟨0x114, 6, 0x40, [⟨27, 16, .sh, .sh, 0x7FF⟩, ⟨11, 0, .sh, .sh, 0x0⟩]⟩,
    ⟨0x218, 2, 0x40, [⟨31, 16, .sh, .sh, 0x0⟩, ⟨15, 0, .sh, .sh, 0x0⟩]⟩,
    ⟨0x21C, 2, 0x40, [⟨31, 0, .sh, .sh, 0x0⟩]⟩,
    ⟨0x220, 2, 0x40, [⟨31, 0, .sh, .sh, 0x0⟩]⟩,
    ⟨0x224, 2, 0x40, [⟨31, 0, .sh, .sh, 0x10000⟩]⟩,
    ⟨0x228, 2, 0x40, [⟨31, 0, .sh, .sh, 0x0⟩]⟩ ]
/-- Register rows of PLN (10 R344). -/
def rowsPLN1 : List RegRow :=
  [ ⟨0x22C, 2, 0x40, [⟨31, 0, .sh, .sh, 0x0⟩]⟩,
    ⟨0x230, 2, 0x40, [⟨31, 0, .sh, .sh, 0x10000⟩]⟩ ]
/-- Block PLN: its rows, whether it is shadowed, whether it has the active-value view, its block-defined EVT bits. -/
def blockPLN : RegBlock := ⟨0x4040000, true, false, 0x3F3F, rowsPLN0 ++ rowsPLN1⟩

/-- Register rows of OBJ (10 R366). -/
def rowsOBJ0 : List RegRow :=
  [ ⟨0x40, 1, 0x4, [⟨31, 31, .sh, .sh, 0x0⟩, ⟨16, 16, .sh, .sh, 0x0⟩, ⟨12, 0, .sh, .sh, 0x1000⟩]⟩,
    ⟨0x44, 1, 0x4, [⟨31, 24, .ro, .lv, 0x0⟩, ⟨23, 13, .ro, .lv, 0x0⟩, ⟨12, 0, .ro, .lv, 0x0⟩]⟩,
    ⟨0x48, 1, 0x4, [⟨31, 16, .rw, .ci, 0x0⟩, ⟨15, 0, .rw, .ci, 0x0⟩]⟩,
    ⟨0x4C, 1, 0x4, [⟨27, 16, .ro, .lv, 0x0⟩, ⟨9, 0, .ro, .lv, 0x0⟩]⟩,
    ⟨0x50, 1, 0x4, [⟨25, 16, .ro, .lv, 0x0⟩, ⟨3, 0, .ro, .lv, 0x0⟩]⟩,
    ⟨0x1000, 32, 0x8, [⟨31, 16, .sh, .sh, 0x1000⟩, ⟨15, 0, .sh, .sh, 0x0⟩]⟩,
    ⟨0x1004, 32, 0x8, [⟨31, 16, .sh, .sh, 0x0⟩, ⟨15, 0, .sh, .sh, 0x1000⟩]⟩ ]
/-- Block OBJ: its rows, whether it is shadowed, whether it has the active-value view, its block-defined EVT bits. -/
def blockOBJ : RegBlock := ⟨0x4050000, true, false, 0x7, rowsOBJ0⟩

/-- Register rows of CMP (11 R382). -/
def rowsCMP0 : List RegRow :=
  [ ⟨0x40, 1, 0x4, [⟨23, 0, .sh, .sh, 0x0⟩]⟩,
    ⟨0x44, 1, 0x4, [⟨30, 28, .sh, .sh, 0x4⟩, ⟨26, 24, .sh, .sh, 0x0⟩, ⟨22, 20, .sh, .sh, 0x4⟩, ⟨18, 16, .sh, .sh, 0x0⟩, ⟨14, 12, .sh, .sh, 0x4⟩, ⟨10, 8, .sh, .sh, 0x0⟩, ⟨6, 4, .sh, .sh, 0x4⟩, ⟨2, 0, .sh, .sh, 0x0⟩]⟩,
    ⟨0x48, 1, 0x4, [⟨18, 16, .sh, .sh, 0x2⟩, ⟨14, 12, .sh, .sh, 0x4⟩, ⟨10, 8, .sh, .sh, 0x0⟩, ⟨6, 4, .sh, .sh, 0x4⟩, ⟨2, 0, .sh, .sh, 0x0⟩]⟩,
    ⟨0x50, 6, 0x4, [⟨9, 8, .sh, .sh, 0x0⟩, ⟨7, 0, .sh, .sh, 0xFF⟩]⟩,
    ⟨0x68, 1, 0x4, [⟨9, 8, .sh, .sh, 0x0⟩, ⟨7, 0, .sh, .sh, 0xFF⟩]⟩,
    ⟨0x80, 1, 0x4, [⟨1, 0, .sh, .sh, 0x0⟩]⟩,
    ⟨0x90, 1, 0x4, [⟨31, 0, .wo, .sw, 0x0⟩]⟩,
    ⟨0x100, 32, 0x4, [⟨15, 0, .rw, .ci, 0x0⟩]⟩,
    ⟨0x200, 4, 0x10, [⟨31, 24, .rw, .sw, 0x0⟩, ⟨21, 20, .rw, .sw, 0x0⟩, ⟨16, 16, .rw, .sw, 0x0⟩, ⟨12, 8, .rw, .sw, 0x0⟩, ⟨4, 0, .rw, .sw, 0x0⟩]⟩,
    ⟨0x204, 4, 0x10, [⟨15, 0, .rw, .sw, 0x0⟩]⟩,
    ⟨0x208, 4, 0x10, [⟨31, 16, .rw, .ci, 0x0⟩, ⟨15, 8, .ro, .lv, 0x0⟩, ⟨7, 7, .ro, .lv, 0x0⟩, ⟨4, 0, .ro, .lv, 0x0⟩]⟩ ]
/-- Block CMP: its rows, whether it is shadowed, whether it has the active-value view, its block-defined EVT bits. -/
def blockCMP : RegBlock := ⟨0x4060000, true, false, 0xFFF, rowsCMP0⟩

/-- Register rows of LNL (11 R389). -/
def rowsLNL0 : List RegRow :=
  [ ⟨0x40, 1, 0x4, [⟨0, 0, .sh, .sh, 0x0⟩]⟩,
    ⟨0x44, 1, 0x4, [⟨23, 3, .sh, .sh, 0x0⟩]⟩,
    ⟨0x48, 1, 0x4, [⟨27, 16, .ro, .lv, 0x0⟩, ⟨14, 8, .ro, .lv, 0x0⟩, ⟨1, 0, .ro, .lv, 0x0⟩]⟩,
    ⟨0x4C, 1, 0x4, [⟨31, 16, .rw, .ci, 0x0⟩, ⟨15, 0, .rw, .ci, 0x0⟩]⟩,
    ⟨0x50, 1, 0x4, [⟨31, 28, .ro, .lv, 0x0⟩, ⟨23, 3, .ro, .lv, 0x0⟩]⟩,
    ⟨0x54, 1, 0x4, [⟨15, 0, .rw, .ci, 0x0⟩]⟩ ]
/-- Block LNL: its rows, whether it is shadowed, whether it has the active-value view, its block-defined EVT bits. -/
def blockLNL : RegBlock := ⟨0x4070000, true, false, 0x3F, rowsLNL0⟩

/-- Register rows of PEN (12 R437). -/
def rowsPEN0 : List RegRow :=
  [ ⟨0x40, 1, 0x4, [⟨30, 24, .ro, .lv, 0x0⟩, ⟨19, 16, .ro, .sw, 0x2⟩, ⟨15, 8, .ro, .hs, 0x0⟩, ⟨3, 3, .ro, .lv, 0x0⟩, ⟨2, 2, .ro, .lv, 0x0⟩, ⟨1, 1, .ro, .lv, 0x0⟩, ⟨0, 0, .ro, .lv, 0x0⟩]⟩,
    ⟨0x44, 1, 0x4, [⟨31, 0, .ro, .lv, 0x0⟩]⟩,
    ⟨0x48, 2, 0x4, [⟨31, 0, .ro, .lv, 0x0⟩]⟩,
    ⟨0x50, 2, 0x4, [⟨31, 0, .ro, .lv, 0x0⟩]⟩,
    ⟨0x58, 1, 0x4, [⟨31, 16, .ro, .lv, 0x0⟩, ⟨15, 4, .ro, .lv, 0x0⟩, ⟨3, 0, .ro, .lv, 0x0⟩]⟩,
    ⟨0x5C, 1, 0x4, [⟨31, 16, .ro, .lv, 0x0⟩, ⟨15, 0, .ro, .lv, 0x0⟩]⟩,
    ⟨0x60, 2, 0x4, [⟨31, 0, .ro, .lv, 0x0⟩]⟩,
    ⟨0x68, 1, 0x4, [⟨11, 8, .ro, .sw, 0x0⟩, ⟨3, 0, .ro, .lv, 0x0⟩]⟩,
    ⟨0x6C, 1, 0x4, [⟨31, 0, .ro, .lv, 0x0⟩]⟩,
    ⟨0x70, 1, 0x4, [⟨31, 0, .ro, .lv, 0xFFFFFFFF⟩]⟩,
    ⟨0x74, 1, 0x4, [⟨23, 4, .ro, .sw, 0x0⟩]⟩,
    ⟨0x80, 4, 0x8, [⟨31, 0, .ro, .sw, 0x0⟩]⟩ ]
/-- Register rows of PEN (12 R437). -/
def rowsPEN1 : List RegRow :=
  [ ⟨0x84, 4, 0x8, [⟨31, 0, .ro, .sw, 0x0⟩]⟩,
    ⟨0x100, 32, 0x4, [⟨31, 0, .ro, .lv, 0x0⟩]⟩,
    ⟨0x200, 64, 0x4, [⟨31, 0, .ro, .lv, 0x0⟩]⟩,
    ⟨0x300, 64, 0x4, [⟨31, 0, .ro, .lv, 0x0⟩]⟩,
    ⟨0x400, 256, 0x4, [⟨31, 0, .ro, .lv, 0x0⟩]⟩ ]
/-- Block PEN: its rows, whether it is shadowed, whether it has the active-value view, its block-defined EVT bits. -/
def blockPEN : RegBlock := ⟨0x4080000, false, false, 0xFF, rowsPEN0 ++ rowsPEN1⟩

/-- Register rows of ANO (13 R438). -/
def rowsANO0 : List RegRow :=
  [ ⟨0x40, 1, 0x4, [⟨8, 8, .wo, .sw, 0x0⟩, ⟨1, 1, .sc, .go, 0x0⟩, ⟨0, 0, .sc, .go, 0x0⟩]⟩,
    ⟨0x44, 1, 0x4, [⟨31, 16, .ro, .lv, 0x0⟩, ⟨7, 4, .ro, .lv, 0x0⟩, ⟨3, 3, .ro, .lv, 0x0⟩, ⟨2, 2, .ro, .lv, 0x0⟩, ⟨1, 1, .ro, .lv, 0x0⟩, ⟨0, 0, .ro, .lv, 0x0⟩]⟩,
    ⟨0x48, 1, 0x4, [⟨23, 4, .rw, .sw, 0x0⟩]⟩,
    ⟨0x4C, 1, 0x4, [⟨23, 4, .ro, .lv, 0x0⟩]⟩,
    ⟨0x50, 1, 0x4, [⟨15, 0, .rw, .sw, 0x40⟩]⟩,
    ⟨0x54, 1, 0x4, [⟨31, 28, .ro, .lv, 0x0⟩, ⟨23, 4, .ro, .lv, 0x0⟩]⟩,
    ⟨0x58, 1, 0x4, [⟨31, 0, .ro, .lv, 0x0⟩]⟩,
    ⟨0x5C, 1, 0x4, [⟨31, 16, .rw, .ci, 0x0⟩, ⟨15, 0, .rw, .ci, 0x0⟩]⟩,
    ⟨0x60, 1, 0x4, [⟨31, 0, .ro, .lv, 0x0⟩]⟩,
    ⟨0x100, 1, 0x4, [⟨31, 24, .ro, .sw, 0x1⟩, ⟨23, 0, .rw, .sw, 0x0⟩]⟩,
    ⟨0x104, 3, 0x4, [⟨31, 0, .rw, .sw, 0x0⟩]⟩,
    ⟨0x110, 1, 0x4, [⟨31, 24, .ro, .sw, 0x2⟩, ⟨23, 0, .rw, .sw, 0x0⟩]⟩ ]
/-- Register rows of ANO (13 R438). -/
def rowsANO1 : List RegRow :=
  [ ⟨0x114, 3, 0x4, [⟨31, 0, .rw, .sw, 0x0⟩]⟩,
    ⟨0x120, 1, 0x4, [⟨31, 24, .ro, .sw, 0x3⟩, ⟨23, 0, .rw, .sw, 0x0⟩]⟩,
    ⟨0x124, 3, 0x4, [⟨31, 0, .rw, .sw, 0x0⟩]⟩,
    ⟨0x130, 1, 0x4, [⟨31, 24, .ro, .sw, 0x4⟩, ⟨23, 0, .rw, .sw, 0xFF0C⟩]⟩,
    ⟨0x140, 4, 0x4, [⟨31, 0, .rw, .sw, 0x0⟩]⟩ ]
/-- Block ANO: its rows, whether it is shadowed, whether it has the active-value view, its block-defined EVT bits. -/
def blockANO : RegBlock := ⟨0x4090000, false, false, 0x3F, rowsANO0 ++ rowsANO1⟩

/-- Register rows of VOC (14 R470). -/
def rowsVOC0 : List RegRow :=
  [ ⟨0x40, 1, 0x4, [⟨15, 8, .rw, .sw, 0x20⟩]⟩,
    ⟨0x44, 1, 0x4, [⟨31, 24, .ro, .lv, 0x0⟩, ⟨23, 16, .ro, .lv, 0x80⟩, ⟨10, 0, .ro, .lv, 0x780⟩]⟩,
    ⟨0x48, 1, 0x4, [⟨31, 16, .rw, .sw, 0x10⟩, ⟨15, 0, .rw, .sw, 0x40⟩]⟩,
    ⟨0x4C, 1, 0x4, [⟨16, 16, .ro, .lv, 0x0⟩, ⟨15, 0, .ro, .lv, 0x780⟩]⟩,
    ⟨0x50, 1, 0x4, [⟨31, 16, .rw, .ci, 0x0⟩, ⟨15, 0, .rw, (.hu 0), 0xFFFF⟩]⟩,
    ⟨0x54, 1, 0x4, [⟨31, 16, .rw, .ci, 0x0⟩, ⟨15, 0, .rw, .ci, 0x0⟩]⟩,
    ⟨0x60, 8, 0x4, [⟨31, 0, .w1c, .hs, 0x0⟩]⟩,
    ⟨0x80, 1, 0x4, [⟨31, 16, .ro, .lv, 0x0⟩, ⟨14, 12, .ro, .lv, 0x4⟩, ⟨8, 8, .ro, .lv, 0x0⟩, ⟨7, 0, .ro, .lv, 0x0⟩]⟩,
    ⟨0x84, 1, 0x4, [⟨31, 0, .ro, .lv, 0x0⟩]⟩,
    ⟨0x88, 1, 0x4, [⟨31, 16, .ro, .sw, 0x0⟩, ⟨15, 0, .ro, .sw, 0x0⟩]⟩,
    ⟨0x8C, 1, 0x4, [⟨31, 16, .ro, .lv, 0x0⟩, ⟨15, 8, .ro, .lv, 0x0⟩, ⟨0, 0, .ro, .sw, 0x0⟩]⟩,
    ⟨0x1000, 256, 0x20, [⟨31, 16, .sh, .sh, 0x0⟩, ⟨15, 12, .sh, .sh, 0x0⟩, ⟨11, 9, .sh, .sh, 0x0⟩, ⟨8, 0, .sh, .sh, 0x80⟩]⟩ ]
/-- Register rows of VOC (14 R470). -/
def rowsVOC1 : List RegRow :=
  [ ⟨0x1004, 256, 0x20, [⟨31, 24, .sh, .sh, 0x0⟩, ⟨23, 16, .sh, .sh, 0x0⟩, ⟨15, 8, .sh, .sh, 0x0⟩, ⟨7, 0, .sh, .sh, 0x0⟩]⟩,
    ⟨0x1008, 256, 0x20, [⟨31, 16, .sh, .sh, 0x0⟩, ⟨15, 0, .sh, .sh, 0x8000⟩]⟩,
    ⟨0x100C, 256, 0x20, [⟨31, 0, .sh, .sh, 0x10000⟩]⟩,
    ⟨0x1010, 256, 0x20, [⟨31, 16, .ro, .lv, 0x0⟩, ⟨11, 8, .ro, .lv, 0x0⟩, ⟨6, 4, .ro, .lv, 0x0⟩, ⟨2, 0, .ro, .lv, 0x0⟩]⟩,
    ⟨0x1014, 256, 0x20, [⟨23, 0, .ro, .lv, 0x0⟩]⟩ ]
/-- Block VOC: its rows, whether it is shadowed, whether it has the active-value view, its block-defined EVT bits. -/
def blockVOC : RegBlock := ⟨0x40A0000, true, true, 0x1F, rowsVOC0 ++ rowsVOC1⟩

/-- Register rows of MIX (15 R531). -/
def rowsMIX0 : List RegRow :=
  [ ⟨0x40, 1, 0x4, [⟨8, 8, .ro, .lv, 0x0⟩, ⟨7, 0, .ro, .lv, 0x0⟩]⟩,
    ⟨0x44, 1, 0x4, [⟨21, 16, .ro, .lv, 0x0⟩, ⟨15, 0, .rw, .ci, 0x0⟩]⟩,
    ⟨0x50, 2, 0x4, [⟨31, 16, .sh, .sh, 0x4000⟩, ⟨1, 0, .sh, .sh, 0x1⟩]⟩,
    ⟨0x58, 2, 0x4, [⟨31, 16, .sh, .sh, 0x4000⟩, ⟨1, 0, .sh, .sh, 0x2⟩]⟩,
    ⟨0x60, 1, 0x4, [⟨11, 0, .sh, .sh, 0x0⟩]⟩,
    ⟨0x64, 1, 0x4, [⟨31, 16, .sh, .sh, 0xB000⟩, ⟨15, 0, .sh, .sh, 0xC000⟩]⟩,
    ⟨0x68, 1, 0x4, [⟨30, 16, .sh, .sh, 0x2580⟩, ⟨14, 0, .sh, .sh, 0x2580⟩]⟩,
    ⟨0x6C, 1, 0x4, [⟨31, 16, .sh, .sh, 0x6000⟩, ⟨0, 0, .sh, .sh, 0x0⟩]⟩,
    ⟨0x70, 2, 0x4, [⟨31, 16, .sh, .sh, 0x0⟩, ⟨1, 0, .sh, .sh, 0x1⟩]⟩,
    ⟨0x80, 16, 0x4, [⟨31, 16, .sh, .sh, 0x4000⟩, ⟨8, 8, .sh, .sh, 0x0⟩, ⟨1, 0, .sh, .sh, 0x1⟩]⟩,
    ⟨0xC0, 12, 0x4, [⟨31, 16, .sh, .sh, 0x0⟩, ⟨12, 4, .sh, .sh, 0x80⟩, ⟨1, 0, .sh, .sh, 0x1⟩]⟩,
    ⟨0xF0, 1, 0x4, [⟨31, 16, .sh, .sh, 0x4000⟩, ⟨15, 0, .sh, .sh, 0x4000⟩]⟩ ]
/-- Register rows of MIX (15 R531). -/
def rowsMIX1 : List RegRow :=
  [ ⟨0x100, 4, 0x10, [⟨31, 16, .sh, .sh, 0x4000⟩, ⟨8, 8, .sh, .sh, 0x0⟩, ⟨5, 0, .sh, .sh, 0x1⟩]⟩,
    ⟨0x104, 4, 0x10, [⟨23, 0, .sh, .sh, 0x7FFFFF⟩]⟩,
    ⟨0x108, 4, 0x10, [⟨15, 0, .sh, .sh, 0x20⟩]⟩,
    ⟨0x10C, 4, 0x10, [⟨15, 0, .ro, .lv, 0x8000⟩]⟩,
    ⟨0x140, 1, 0x4, [⟨3, 0, .sh, .sh, 0x0⟩]⟩,
    ⟨0x144, 1, 0x4, [⟨23, 0, .sh, .sh, 0x7FFFFF⟩]⟩,
    ⟨0x148, 1, 0x4, [⟨15, 0, .sh, .sh, 0x20⟩]⟩,
    ⟨0x14C, 1, 0x4, [⟨15, 0, .ro, .lv, 0x8000⟩]⟩,
    ⟨0x160, 8, 0x4, [⟨5, 0, .sh, .sh, 0x0⟩]⟩,
    ⟨0x400, 22, 0x10, [⟨23, 16, .rw, .sw, 0x0⟩, ⟨11, 8, .rw, .sw, 0xA⟩, ⟨5, 0, .rw, .sw, 0x3F⟩]⟩,
    ⟨0x560, 1, 0x4, [⟨23, 16, .rw, .sw, 0x0⟩, ⟨11, 8, .rw, .sw, 0xA⟩, ⟨5, 0, .rw, .sw, 0x21⟩]⟩,
    ⟨0x570, 1, 0x4, [⟨23, 16, .rw, .sw, 0x0⟩, ⟨11, 8, .rw, .sw, 0xA⟩, ⟨5, 0, .rw, .sw, 0x20⟩]⟩ ]
/-- Register rows of MIX (15 R531). -/
def rowsMIX2 : List RegRow :=
  [ ⟨0x404, 24, 0x10, [⟨31, 16, .ro, .lv, 0x0⟩, ⟨15, 0, .ro, .lv, 0x0⟩]⟩,
    ⟨0x408, 24, 0x10, [⟨31, 16, .rw, .sw, 0x0⟩, ⟨15, 0, .rw, (.hu 0), 0x0⟩]⟩,
    ⟨0x40C, 24, 0x10, [⟨15, 0, .rw, .ci, 0x0⟩]⟩,
    ⟨0x1000, 10, 0x18, [⟨31, 0, .sh, .sh, 0x10000000⟩]⟩,
    ⟨0x1004, 10, 0x18, [⟨31, 0, .sh, .sh, 0x0⟩]⟩,
    ⟨0x1008, 10, 0x18, [⟨31, 0, .sh, .sh, 0x0⟩]⟩,
    ⟨0x100C, 10, 0x18, [⟨31, 0, .sh, .sh, 0x0⟩]⟩,
    ⟨0x1010, 10, 0x18, [⟨31, 0, .sh, .sh, 0x0⟩]⟩,
    ⟨0x1014, 10, 0x18, [⟨0, 0, .sh, .sh, 0x0⟩]⟩,
    ⟨0x1100, 10, 0x18, [⟨31, 0, .sh, .sh, 0x10000000⟩]⟩,
    ⟨0x1104, 10, 0x18, [⟨31, 0, .sh, .sh, 0x0⟩]⟩,
    ⟨0x1108, 10, 0x18, [⟨31, 0, .sh, .sh, 0x0⟩]⟩ ]
/-- Register rows of MIX (15 R531). -/
def rowsMIX3 : List RegRow :=
  [ ⟨0x110C, 10, 0x18, [⟨31, 0, .sh, .sh, 0x0⟩]⟩,
    ⟨0x1110, 10, 0x18, [⟨31, 0, .sh, .sh, 0x0⟩]⟩,
    ⟨0x1114, 10, 0x18, [⟨0, 0, .sh, .sh, 0x0⟩]⟩,
    ⟨0x1200, 10, 0x18, [⟨31, 0, .sh, .sh, 0x10000000⟩]⟩,
    ⟨0x1204, 10, 0x18, [⟨31, 0, .sh, .sh, 0x0⟩]⟩,
    ⟨0x1208, 10, 0x18, [⟨31, 0, .sh, .sh, 0x0⟩]⟩,
    ⟨0x120C, 10, 0x18, [⟨31, 0, .sh, .sh, 0x0⟩]⟩,
    ⟨0x1210, 10, 0x18, [⟨31, 0, .sh, .sh, 0x0⟩]⟩,
    ⟨0x1214, 10, 0x18, [⟨0, 0, .sh, .sh, 0x0⟩]⟩,
    ⟨0x1300, 10, 0x18, [⟨31, 0, .sh, .sh, 0x10000000⟩]⟩,
    ⟨0x1304, 10, 0x18, [⟨31, 0, .sh, .sh, 0x0⟩]⟩,
    ⟨0x1308, 10, 0x18, [⟨31, 0, .sh, .sh, 0x0⟩]⟩ ]
/-- Register rows of MIX (15 R531). -/
def rowsMIX4 : List RegRow :=
  [ ⟨0x130C, 10, 0x18, [⟨31, 0, .sh, .sh, 0x0⟩]⟩,
    ⟨0x1310, 10, 0x18, [⟨31, 0, .sh, .sh, 0x0⟩]⟩,
    ⟨0x1314, 10, 0x18, [⟨0, 0, .sh, .sh, 0x0⟩]⟩ ]
/-- Block MIX: its rows, whether it is shadowed, whether it has the active-value view, its block-defined EVT bits. -/
def blockMIX : RegBlock := ⟨0x40B0000, true, true, 0xFFFFFFF, rowsMIX0 ++ rowsMIX1 ++ rowsMIX2 ++ rowsMIX3 ++ rowsMIX4⟩

/-- Register rows of VAR (16 R532). -/
def rowsVAR0 : List RegRow :=
  [ ⟨0x40, 1, 0x4, [⟨13, 12, .rw, .sw, 0x0⟩, ⟨10, 8, .rw, .sw, 0x0⟩, ⟨5, 4, .rw, .sw, 0x0⟩, ⟨1, 1, .rw, .sw, 0x0⟩, ⟨0, 0, .rw, .sw, 0x0⟩]⟩,
    ⟨0x44, 1, 0x4, [⟨0, 0, .ro, .lv, 0x0⟩]⟩,
    ⟨0x48, 1, 0x4, [⟨31, 0, .ro, .lv, 0x0⟩]⟩,
    ⟨0x50, 8, 0x8, [⟨27, 16, .rw, .sw, 0x0⟩, ⟨11, 0, .rw, .sw, 0x0⟩]⟩,
    ⟨0x54, 8, 0x8, [⟨27, 16, .rw, .sw, 0x0⟩, ⟨11, 0, .rw, .sw, 0x0⟩]⟩,
    ⟨0x100, 4, 0x10, [⟨28, 16, .rw, .sw, 0x0⟩, ⟨10, 8, .rw, .sw, 0x0⟩, ⟨7, 4, .rw, .sw, 0x0⟩, ⟨2, 0, .rw, .sw, 0x0⟩]⟩,
    ⟨0x104, 4, 0x10, [⟨31, 0, .rw, .sw, 0x0⟩]⟩,
    ⟨0x108, 4, 0x10, [⟨31, 0, .rw, .sw, 0x0⟩]⟩,
    ⟨0x10C, 4, 0x10, [⟨31, 0, .rw, .sw, 0x0⟩]⟩,
    ⟨0x200, 4, 0x80, [⟨29, 24, .rw, .sw, 0x3F⟩, ⟨21, 16, .rw, .sw, 0x10⟩, ⟨10, 10, .rw, .sw, 0x0⟩, ⟨9, 9, .rw, .sw, 0x1⟩, ⟨8, 8, .rw, .sw, 0x0⟩, ⟨7, 6, .rw, .sw, 0x0⟩, ⟨5, 4, .rw, .sw, 0x0⟩, ⟨3, 3, .rw, .sw, 0x0⟩, ⟨2, 0, .rw, .sw, 0x0⟩]⟩,
    ⟨0x204, 4, 0x80, [⟨27, 16, .rw, .sw, 0x0⟩, ⟨15, 0, .rw, .sw, 0x0⟩]⟩,
    ⟨0x208, 4, 0x80, [⟨27, 16, .rw, .sw, 0x0⟩, ⟨11, 0, .rw, .sw, 0x0⟩]⟩ ]
/-- Register rows of VAR (16 R532). -/
def rowsVAR1 : List RegRow :=
  [ ⟨0x20C, 4, 0x80, [⟨23, 12, .rw, .sw, 0x0⟩]⟩,
    ⟨0x210, 4, 0x80, [⟨24, 12, .rw, .sw, 0x0⟩]⟩,
    ⟨0x214, 4, 0x80, [⟨31, 16, .rw, .sw, 0x0⟩, ⟨15, 0, .rw, .sw, 0x0⟩]⟩,
    ⟨0x218, 4, 0x80, [⟨2, 2, .wo, .sw, 0x0⟩, ⟨1, 1, .wo, .sw, 0x0⟩, ⟨0, 0, .sc, .go, 0x0⟩]⟩,
    ⟨0x21C, 4, 0x80, [⟨23, 20, .ro, .lv, 0x0⟩, ⟨19, 16, .ro, .lv, 0x0⟩, ⟨11, 8, .ro, .lv, 0x0⟩, ⟨5, 4, .ro, .lv, 0x0⟩, ⟨2, 0, .ro, .lv, 0x0⟩]⟩,
    ⟨0x220, 4, 0x80, [⟨23, 4, .ro, .lv, 0x0⟩]⟩,
    ⟨0x224, 4, 0x80, [⟨23, 4, .rw, .sw, 0x0⟩]⟩,
    ⟨0x228, 4, 0x80, [⟨23, 4, .ro, .lv, 0x0⟩]⟩,
    ⟨0x22C, 4, 0x80, [⟨23, 16, .rw, .sw, 0x1⟩, ⟨15, 15, .rw, .sw, 0x0⟩, ⟨10, 8, .rw, .sw, 0x0⟩, ⟨5, 5, .rw, .sw, 0x0⟩, ⟨4, 4, .rw, .sw, 0x0⟩]⟩,
    ⟨0x230, 4, 0x80, [⟨31, 16, .rw, .sw, 0x1⟩, ⟨15, 12, .rw, .sw, 0x0⟩, ⟨10, 8, .rw, .sw, 0x4⟩, ⟨4, 4, .rw, .sw, 0x0⟩, ⟨3, 0, .rw, .sw, 0x0⟩]⟩,
    ⟨0x234, 4, 0x80, [⟨31, 16, .rw, .sw, 0x1⟩, ⟨15, 12, .rw, .sw, 0x0⟩, ⟨10, 8, .rw, .sw, 0x4⟩, ⟨4, 4, .rw, .sw, 0x0⟩, ⟨3, 0, .rw, .sw, 0x0⟩]⟩,
    ⟨0x238, 4, 0x80, [⟨31, 16, .rw, .sw, 0x1⟩, ⟨15, 12, .rw, .sw, 0x0⟩, ⟨10, 8, .rw, .sw, 0x4⟩, ⟨4, 4, .rw, .sw, 0x0⟩, ⟨3, 0, .rw, .sw, 0x0⟩]⟩ ]
/-- Register rows of VAR (16 R532). -/
def rowsVAR2 : List RegRow :=
  [ ⟨0x23C, 4, 0x80, [⟨31, 16, .rw, .sw, 0x1⟩, ⟨15, 12, .rw, .sw, 0x0⟩, ⟨10, 8, .rw, .sw, 0x4⟩, ⟨4, 4, .rw, .sw, 0x0⟩, ⟨3, 0, .rw, .sw, 0x0⟩]⟩,
    ⟨0x240, 4, 0x80, [⟨31, 16, .rw, .ci, 0x0⟩, ⟨15, 0, .rw, .ci, 0x0⟩]⟩,
    ⟨0x244, 4, 0x80, [⟨31, 16, .rw, .ci, 0x0⟩, ⟨12, 0, .ro, .lv, 0x0⟩]⟩,
    ⟨0x248, 4, 0x80, [⟨15, 0, .ro, .lv, 0x0⟩]⟩ ]
/-- Block VAR: its rows, whether it is shadowed, whether it has the active-value view, its block-defined EVT bits. -/
def blockVAR : RegBlock := ⟨0x40C0000, false, false, 0x3FFFF, rowsVAR0 ++ rowsVAR1 ++ rowsVAR2⟩

/-- Register rows of BRG (17 R606). -/
def rowsBRG0 : List RegRow :=
  [ ⟨0x40, 1, 0x4, [⟨31, 31, .ro, .lv, 0x0⟩, ⟨29, 28, .ro, .lv, 0x0⟩, ⟨24, 24, .ro, .lv, 0x0⟩, ⟨20, 20, .ro, .lv, 0x0⟩, ⟨15, 8, .ro, .lv, 0x0⟩, ⟨7, 0, .ro, .lv, 0xFF⟩]⟩,
    ⟨0x44, 1, 0x4, [⟨31, 24, .ro, .lv, 0x0⟩, ⟨23, 0, .ro, .lv, 0x0⟩]⟩,
    ⟨0x48, 1, 0x4, [⟨31, 0, .ro, .lv, 0x0⟩]⟩,
    ⟨0x50, 1, 0x4, [⟨31, 0, .ro, .lv, 0x0⟩]⟩,
    ⟨0x54, 1, 0x4, [⟨31, 0, .ro, .lv, 0x0⟩]⟩,
    ⟨0x58, 1, 0x4, [⟨31, 0, .ro, .lv, 0x0⟩]⟩,
    ⟨0x60, 4, 0x4, [⟨31, 0, .ro, .lv, 0x0⟩]⟩,
    ⟨0x70, 2, 0x4, [⟨31, 31, .rw, .sw, 0x0⟩, ⟨28, 24, .rw, .sw, 0x0⟩, ⟨23, 23, .rw, .sw, 0x0⟩, ⟨20, 16, .rw, .sw, 0x0⟩, ⟨15, 15, .rw, .sw, 0x0⟩, ⟨12, 8, .rw, .sw, 0x0⟩, ⟨7, 7, .rw, .sw, 0x0⟩, ⟨4, 0, .rw, .sw, 0x0⟩]⟩,
    ⟨0x78, 2, 0x4, [⟨31, 31, .rw, .sw, 0x0⟩, ⟨28, 24, .rw, .sw, 0x0⟩, ⟨23, 23, .rw, .sw, 0x0⟩, ⟨20, 16, .rw, .sw, 0x0⟩, ⟨15, 15, .rw, .sw, 0x0⟩, ⟨12, 8, .rw, .sw, 0x0⟩, ⟨7, 7, .rw, .sw, 0x0⟩, ⟨4, 0, .rw, .sw, 0x0⟩]⟩,
    ⟨0x80, 1, 0x4, [⟨10, 8, .rw, .sw, 0x0⟩, ⟨0, 0, .wo, .sw, 0x0⟩]⟩,
    ⟨0x84, 1, 0x4, [⟨31, 24, .rw, .sw, 0x1⟩, ⟨23, 23, .rw, .sw, 0x0⟩, ⟨22, 20, .rw, .sw, 0x0⟩, ⟨19, 19, .rw, .sw, 0x0⟩, ⟨18, 16, .rw, .sw, 0x0⟩, ⟨7, 7, .rw, .sw, 0x0⟩, ⟨6, 4, .rw, .sw, 0x0⟩, ⟨3, 3, .rw, .sw, 0x0⟩, ⟨2, 0, .rw, .sw, 0x0⟩]⟩,
    ⟨0x88, 1, 0x4, [⟨31, 0, .ro, .lv, 0x0⟩]⟩ ]
/-- Register rows of BRG (17 R606). -/
def rowsBRG1 : List RegRow :=
  [ ⟨0x8C, 1, 0x4, [⟨31, 16, .rw, .ci, 0x0⟩, ⟨15, 8, .rw, .ci, 0x0⟩, ⟨7, 0, .rw, .ci, 0x0⟩]⟩,
    ⟨0x90, 1, 0x4, [⟨15, 0, .rw, .sw, 0x3E8⟩]⟩,
    ⟨0x94, 1, 0x4, [⟨31, 31, .w1c, .hs, 0x0⟩, ⟨27, 24, .ro, .lv, 0x0⟩, ⟨19, 16, .ro, .lv, 0x0⟩, ⟨14, 8, .ro, .lv, 0x0⟩]⟩,
    ⟨0x98, 1, 0x4, [⟨31, 16, .rw, .ci, 0x0⟩, ⟨15, 0, .rw, .ci, 0x0⟩]⟩,
    ⟨0xA0, 1, 0x4, [⟨31, 0, .ro, .sw, 0xFF30⟩]⟩,
    ⟨0xA4, 1, 0x4, [⟨31, 0, .ro, .sw, 0x0⟩]⟩,
    ⟨0x100, 2, 0x40, [⟨0, 0, .rw, .sw, 0x1⟩]⟩,
    ⟨0x104, 2, 0x40, [⟨17, 17, .ro, .lv, 0x0⟩, ⟨16, 16, .ro, .lv, 0x0⟩, ⟨15, 8, .ro, .lv, 0xFF⟩, ⟨2, 0, .ro, .lv, 0x0⟩]⟩,
    ⟨0x108, 2, 0x40, [⟨31, 0, .ro, .lv, 0x0⟩]⟩,
    ⟨0x10C, 2, 0x40, [⟨31, 16, .rw, .ci, 0x0⟩, ⟨15, 8, .rw, .ci, 0x0⟩, ⟨7, 0, .rw, .ci, 0x0⟩]⟩,
    ⟨0x110, 2, 0x40, [⟨31, 0, .ro, .lv, 0x0⟩]⟩ ]
/-- Block BRG: its rows, whether it is shadowed, whether it has the active-value view, its block-defined EVT bits. -/
def blockBRG : RegBlock := ⟨0x40D0000, false, false, 0x3FFF, rowsBRG0 ++ rowsBRG1⟩

/-- Register rows of GPI (18 R607). -/
def rowsGPI0 : List RegRow :=
  [ ⟨0x40, 3, 0x4, [⟨31, 0, .rw, .sw, 0x0⟩]⟩,
    ⟨0x50, 3, 0x4, [⟨31, 0, .rw, .sw, 0x0⟩]⟩,
    ⟨0x60, 3, 0x4, [⟨31, 0, .ro, .lv, 0x0⟩]⟩,
    ⟨0x70, 3, 0x4, [⟨31, 0, .w1c, .hs, 0x0⟩]⟩,
    ⟨0x80, 1, 0x4, [⟨11, 8, .ro, .lv, 0x0⟩, ⟨3, 0, .ro, .lv, 0x0⟩]⟩,
    ⟨0x120, 1, 0x4, [⟨30, 28, .ro, .sw, 0x0⟩, ⟨24, 24, .rw, .sw, 0x0⟩, ⟨21, 20, .rw, .sw, 0x0⟩, ⟨16, 16, .ro, .lv, 0x0⟩, ⟨13, 12, .rw, .sw, 0x2⟩, ⟨9, 8, .rw, .sw, 0x1⟩, ⟨4, 4, .rw, .sw, 0x0⟩]⟩,
    ⟨0x100, 96, 0x4, [⟨30, 28, .ro, .sw, 0x0⟩, ⟨24, 24, .rw, .sw, 0x0⟩, ⟨21, 20, .rw, .sw, 0x0⟩, ⟨16, 16, .ro, .lv, 0x0⟩, ⟨13, 12, .rw, .sw, 0x1⟩, ⟨9, 8, .rw, .sw, 0x1⟩, ⟨4, 4, .rw, .sw, 0x0⟩]⟩,
    ⟨0x400, 2, 0x80, [⟨21, 16, .rw, .sw, 0x0⟩, ⟨13, 8, .rw, .sw, 0x0⟩, ⟨1, 1, .rw, .sw, 0x0⟩, ⟨0, 0, .sc, .go, 0x0⟩]⟩,
    ⟨0x404, 2, 0x80, [⟨9, 0, .rw, .sw, 0x0⟩]⟩,
    ⟨0x408, 2, 0x80, [⟨31, 16, .rw, .sw, 0x3C⟩, ⟨15, 0, .rw, .sw, 0x82⟩]⟩,
    ⟨0x40C, 2, 0x80, [⟨21, 16, .ro, .lv, 0x0⟩, ⟨3, 0, .ro, .lv, 0x0⟩]⟩,
    ⟨0x420, 8, 0x4, [⟨31, 0, .rw, .sw, 0x0⟩]⟩ ]
/-- Register rows of GPI (18 R607). -/
def rowsGPI1 : List RegRow :=
  [ ⟨0x4A0, 8, 0x4, [⟨31, 0, .rw, .sw, 0x0⟩]⟩,
    ⟨0x440, 8, 0x4, [⟨31, 0, .ro, .lv, 0x0⟩]⟩,
    ⟨0x4C0, 8, 0x4, [⟨31, 0, .ro, .lv, 0x0⟩]⟩,
    ⟨0x600, 2, 0x80, [⟨31, 31, .rw, .sw, 0x0⟩, ⟨30, 29, .rw, .sw, 0x0⟩, ⟨28, 28, .rw, .sw, 0x0⟩, ⟨27, 27, .rw, .sw, 0x0⟩, ⟨23, 4, .rw, .sw, 0x364⟩]⟩,
    ⟨0x604, 2, 0x80, [⟨14, 8, .rw, .sw, 0x1⟩, ⟨6, 0, .rw, .sw, 0x0⟩]⟩,
    ⟨0x608, 2, 0x80, [⟨20, 20, .w1c, .hs, 0x0⟩, ⟨19, 19, .w1c, .hs, 0x0⟩, ⟨18, 18, .w1c, .hs, 0x0⟩, ⟨17, 17, .w1c, .hs, 0x0⟩, ⟨16, 16, .w1c, .hs, 0x0⟩, ⟨14, 8, .ro, .lv, 0x0⟩, ⟨6, 0, .ro, .lv, 0x0⟩]⟩,
    ⟨0x60C, 2, 0x80, [⟨7, 0, .wo, .sw, 0x0⟩]⟩,
    ⟨0x610, 2, 0x80, [⟨8, 8, .ro, .lv, 0x0⟩, ⟨7, 0, .ro, .lv, 0x0⟩]⟩,
    ⟨0x614, 2, 0x80, [⟨0, 0, .wo, .sw, 0x0⟩]⟩,
    ⟨0x800, 8, 0x10, [⟨31, 31, .rw, .sw, 0x0⟩, ⟨30, 30, .rw, .sw, 0x0⟩, ⟨29, 29, .rw, .sw, 0x0⟩, ⟨18, 16, .rw, .sw, 0x0⟩, ⟨15, 0, .rw, .sw, 0x1388⟩]⟩,
    ⟨0x804, 8, 0x10, [⟨15, 0, .rw, .sw, 0x0⟩]⟩,
    ⟨0x808, 8, 0x10, [⟨31, 16, .ro, .lv, 0x0⟩, ⟨15, 0, .ro, .lv, 0x1388⟩]⟩ ]
/-- Block GPI: its rows, whether it is shadowed, whether it has the active-value view, its block-defined EVT bits. -/
def blockGPI : RegBlock := ⟨0x40E0000, false, false, 0x1FFF, rowsGPI0 ++ rowsGPI1⟩

/-- Register rows of CAN (18 R620). -/
def rowsCAN0 : List RegRow :=
  [ ⟨0x40, 1, 0x4, [⟨8, 8, .ro, .sw, 0x1⟩, ⟨5, 5, .ro, .sw, 0x0⟩, ⟨4, 4, .ro, .sw, 0x0⟩, ⟨1, 0, .ro, .sw, 0x0⟩]⟩,
    ⟨0x44, 1, 0x4, [⟨31, 25, .ro, .sw, 0x0⟩, ⟨22, 16, .ro, .sw, 0x0⟩, ⟨15, 8, .ro, .sw, 0x0⟩, ⟨4, 0, .ro, .sw, 0x0⟩]⟩,
    ⟨0x48, 1, 0x4, [⟨27, 24, .ro, .sw, 0x0⟩, ⟨19, 16, .ro, .sw, 0x0⟩, ⟨12, 8, .ro, .sw, 0x0⟩, ⟨4, 0, .ro, .sw, 0x0⟩]⟩,
    ⟨0x4C, 1, 0x4, [⟨31, 31, .ro, .sw, 0x0⟩, ⟨6, 0, .ro, .sw, 0x0⟩]⟩,
    ⟨0x50, 1, 0x4, [⟨23, 16, .ro, .lv, 0x0⟩, ⟨14, 8, .ro, .lv, 0x0⟩, ⟨2, 2, .ro, .lv, 0x0⟩, ⟨1, 0, .ro, .lv, 0x0⟩]⟩,
    ⟨0x54, 1, 0x4, [⟨31, 16, .rw, .ci, 0x0⟩, ⟨15, 0, .rw, .ci, 0x0⟩]⟩,
    ⟨0x58, 2, 0x8, [⟨20, 16, .ro, .lv, 0x0⟩, ⟨13, 8, .ro, .lv, 0x0⟩, ⟨4, 0, .ro, .lv, 0x0⟩]⟩,
    ⟨0x5C, 2, 0x8, [⟨5, 0, .wo, .sw, 0x0⟩]⟩,
    ⟨0x70, 1, 0x4, [⟨7, 0, .sc, .go, 0x0⟩]⟩,
    ⟨0x74, 1, 0x4, [⟨7, 0, .wo, .sw, 0x0⟩]⟩,
    ⟨0x78, 1, 0x4, [⟨7, 0, .w1c, .hs, 0x0⟩]⟩,
    ⟨0x100, 64, 0x8, [⟨31, 31, .rw, .sw, 0x0⟩, ⟨30, 30, .rw, .sw, 0x0⟩, ⟨29, 29, .rw, .sw, 0x0⟩, ⟨28, 0, .rw, .sw, 0x0⟩]⟩ ]
/-- Register rows of CAN (18 R620). -/
def rowsCAN1 : List RegRow :=
  [ ⟨0x104, 64, 0x8, [⟨28, 0, .rw, .sw, 0x0⟩]⟩,
    ⟨0x1000, 640, 0x4, [⟨31, 0, .ro, .lv, 0x0⟩]⟩,
    ⟨0x2000, 640, 0x4, [⟨31, 0, .ro, .lv, 0x0⟩]⟩,
    ⟨0x3000, 160, 0x4, [⟨31, 0, .rw, .sw, 0x0⟩]⟩ ]
/-- Block CAN: its rows, whether it is shadowed, whether it has the active-value view, its block-defined EVT bits. -/
def blockCAN : RegBlock := ⟨0x40F0000, false, false, 0x3FF, rowsCAN0 ++ rowsCAN1⟩

/-- Register rows of XSP (18 R627). -/
def rowsXSP0 : List RegRow :=
  [ ⟨0x40, 1, 0x4, [⟨28, 24, .rw, .sw, 0x18⟩, ⟨20, 20, .rw, .sw, 0x0⟩, ⟨17, 16, .rw, .sw, 0x0⟩, ⟨15, 8, .rw, .sw, 0x3⟩, ⟨7, 4, .rw, .sw, 0x0⟩, ⟨2, 0, .rw, .sw, 0x3⟩]⟩,
    ⟨0x44, 1, 0x4, [⟨28, 20, .rw, .sw, 0x0⟩, ⟨19, 19, .rw, .sw, 0x0⟩, ⟨18, 18, .rw, .sw, 0x0⟩, ⟨17, 16, .rw, .sw, 0x0⟩, ⟨15, 12, .rw, .sw, 0x0⟩, ⟨11, 4, .rw, .sw, 0x0⟩, ⟨0, 0, .sc, .go, 0x0⟩]⟩,
    ⟨0x48, 1, 0x4, [⟨31, 0, .rw, .sw, 0x0⟩]⟩,
    ⟨0x50, 1, 0x4, [⟨31, 0, .rw, .sw, 0x0⟩]⟩,
    ⟨0x54, 1, 0x4, [⟨23, 4, .rw, .sw, 0x0⟩]⟩,
    ⟨0x58, 1, 0x4, [⟨24, 4, .rw, .sw, 0x0⟩]⟩,
    ⟨0x5C, 1, 0x4, [⟨0, 0, .sc, .go, 0x0⟩]⟩,
    ⟨0x100, 64, 0x4, [⟨31, 0, .rw, .sw, 0x0⟩]⟩ ]
/-- Block XSP: its rows, whether it is shadowed, whether it has the active-value view, its block-defined EVT bits. -/
def blockXSP : RegBlock := ⟨0x4100000, false, false, 0x7, rowsXSP0⟩

/-- Register rows of CAM (10 R360). -/
def rowsCAM0 : List RegRow :=
  [ ⟨0x40, 1, 0x4, [⟨31, 31, .sh, .sh, 0x0⟩, ⟨16, 16, .sh, .sh, 0x0⟩, ⟨12, 12, .sh, .sh, 0x0⟩, ⟨9, 9, .sh, .sh, 0x0⟩, ⟨8, 8, .sh, .sh, 0x0⟩, ⟨7, 4, .sh, .sh, 0x0⟩, ⟨1, 0, .sh, .sh, 0x0⟩]⟩,
    ⟨0x44, 1, 0x4, [⟨27, 16, .sh, .sh, 0x0⟩, ⟨11, 0, .sh, .sh, 0x0⟩]⟩,
    ⟨0x48, 1, 0x4, [⟨27, 16, .sh, .sh, 0x1⟩, ⟨11, 0, .sh, .sh, 0x1⟩]⟩,
    ⟨0x4C, 1, 0x4, [⟨27, 16, .sh, .sh, 0x0⟩, ⟨11, 0, .sh, .sh, 0x0⟩]⟩,
    ⟨0x50, 1, 0x4, [⟨27, 16, .sh, .sh, 0x1⟩, ⟨11, 0, .sh, .sh, 0x1⟩]⟩,
    ⟨0x54, 1, 0x4, [⟨23, 4, .sh, .sh, 0x0⟩]⟩,
    ⟨0x58, 1, 0x4, [⟨15, 4, .sh, .sh, 0x0⟩]⟩,
    ⟨0x5C, 1, 0x4, [⟨23, 0, .sh, .sh, 0x0⟩]⟩,
    ⟨0x60, 1, 0x4, [⟨31, 31, .sh, .sh, 0x0⟩, ⟨15, 8, .sh, .sh, 0x6⟩, ⟨1, 0, .sh, .sh, 0x3⟩]⟩,
    ⟨0x64, 3, 0x4, [⟨23, 4, .sh, .sh, 0x0⟩]⟩,
    ⟨0x70, 1, 0x4, [⟨15, 4, .sh, .sh, 0x0⟩]⟩,
    ⟨0x74, 1, 0x4, [⟨27, 16, .sh, .sh, 0x0⟩, ⟨11, 0, .sh, .sh, 0x0⟩]⟩ ]
/-- Register rows of CAM (10 R360). -/
def rowsCAM1 : List RegRow :=
  [ ⟨0x78, 1, 0x4, [⟨27, 16, .sh, .sh, 0x2D0⟩, ⟨11, 0, .sh, .sh, 0x500⟩]⟩,
    ⟨0x7C, 1, 0x4, [⟨31, 24, .ro, .lv, 0x0⟩, ⟨9, 8, .ro, .lv, 0x0⟩, ⟨5, 4, .ro, .lv, 0x0⟩, ⟨1, 0, .ro, .lv, 0x0⟩]⟩,
    ⟨0x80, 1, 0x4, [⟨31, 16, .rw, .ci, 0x0⟩, ⟨15, 0, .rw, .ci, 0x0⟩]⟩,
    ⟨0x100, 1, 0x4, [⟨31, 31, .rw, .sw, 0x0⟩, ⟨3, 3, .rw, .sw, 0x1⟩, ⟨2, 2, .rw, .sw, 0x0⟩, ⟨1, 1, .rw, .sw, 0x0⟩, ⟨0, 0, .rw, .sw, 0x0⟩]⟩,
    ⟨0x104, 1, 0x4, [⟨31, 31, .ro, .lv, 0x0⟩, ⟨30, 30, .ro, .lv, 0x0⟩, ⟨29, 29, .ro, .lv, 0x0⟩, ⟨27, 16, .ro, .lv, 0x0⟩, ⟨11, 0, .ro, .lv, 0x0⟩]⟩,
    ⟨0x108, 1, 0x4, [⟨31, 16, .rw, .ci, 0x0⟩, ⟨15, 0, .rw, .ci, 0x0⟩]⟩ ]
/-- Block CAM: its rows, whether it is shadowed, whether it has the active-value view, its block-defined EVT bits. -/
def blockCAM : RegBlock := ⟨0x4110000, true, false, 0xFF, rowsCAM0 ++ rowsCAM1⟩

/-- Register rows of AUS (18 R635). -/
def rowsAUS0 : List RegRow :=
  [ ⟨0x40, 1, 0x4, [⟨31, 31, .rw, .sw, 0x0⟩, ⟨8, 8, .rw, .sw, 0x0⟩, ⟨5, 4, .rw, .sw, 0x1⟩, ⟨3, 3, .rw, .sw, 0x0⟩, ⟨2, 2, .rw, .sw, 0x1⟩, ⟨1, 1, .rw, .sw, 0x0⟩, ⟨0, 0, .rw, .sw, 0x1⟩]⟩,
    ⟨0x44, 1, 0x4, [⟨8, 8, .ro, .sw, 0x0⟩, ⟨5, 4, .ro, .sw, 0x1⟩]⟩,
    ⟨0x48, 1, 0x4, [⟨15, 0, .rw, .ci, 0x0⟩]⟩ ]
/-- Block AUS: its rows, whether it is shadowed, whether it has the active-value view, its block-defined EVT bits. -/
def blockAUS : RegBlock := ⟨0x4120000, false, false, 0x1, rowsAUS0⟩

/-- Register rows of EFT (07 R273). -/
def rowsEFT0 : List RegRow :=
  [ ⟨0x40, 1, 0x4, [⟨31, 0, .w1c, .hs, 0x0⟩]⟩,
    ⟨0x44, 1, 0x4, [⟨31, 0, .wo, .sw, 0x0⟩]⟩,
    ⟨0x48, 1, 0x4, [⟨31, 6, .rw, .sw, 0x0⟩]⟩,
    ⟨0x4C, 1, 0x4, [⟨31, 0, .ro, .sw, 0x0⟩]⟩,
    ⟨0x50, 1, 0x4, [⟨3, 0, .rw, .sw, 0x0⟩]⟩,
    ⟨0x54, 1, 0x4, [⟨31, 16, .rw, .ci, 0x0⟩, ⟨14, 12, .ro, .lv, 0x4⟩, ⟨8, 0, .ro, .lv, 0x0⟩]⟩,
    ⟨0x58, 1, 0x4, [⟨11, 8, .ro, .lv, 0x0⟩, ⟨3, 0, .ro, .lv, 0x0⟩]⟩,
    ⟨0x60, 4, 0x4, [⟨5, 5, .ro, .lv, 0x0⟩, ⟨4, 4, .ro, .lv, 0x0⟩, ⟨2, 0, .ro, .lv, 0x0⟩]⟩,
    ⟨0x70, 4, 0x4, [⟨31, 0, .ro, .lv, 0x0⟩]⟩,
    ⟨0xC0, 4, 0x4, [⟨22, 0, .ro, .lv, 0x0⟩]⟩,
    ⟨0x80, 8, 0x4, [⟨31, 0, .ro, .sw, 0x0⟩]⟩,
    ⟨0xA0, 2, 0x8, [⟨23, 12, .rw, .sw, 0x0⟩, ⟨0, 0, .rw, .sw, 0x0⟩]⟩ ]
/-- Register rows of EFT (07 R273). -/
def rowsEFT1 : List RegRow :=
  [ ⟨0xA4, 2, 0x8, [⟨23, 12, .rw, .sw, 0x0⟩]⟩,
    ⟨0xB0, 1, 0x4, [⟨23, 16, .rw, .ci, 0x0⟩, ⟨15, 0, .rw, .ci, 0x0⟩]⟩,
    ⟨0x100, 23, 0x4, [⟨31, 31, .rw, .sw, 0x0⟩, ⟨25, 24, .rw, .sw, 0x0⟩, ⟨15, 15, .rw, .sw, 0x0⟩, ⟨4, 0, .rw, .sw, 0x0⟩]⟩,
    ⟨0x180, 4, 0x4, [⟨31, 16, .rw, .sw, 0x0⟩, ⟨15, 15, .ro, .sw, 0x1⟩, ⟨10, 8, .ro, .sw, 0x0⟩, ⟨6, 0, .ro, .sw, 0x0⟩]⟩,
    ⟨0x190, 4, 0x4, [⟨31, 16, .rw, .sw, 0x3E8⟩, ⟨15, 15, .ro, .sw, 0x0⟩, ⟨10, 8, .ro, .sw, 0x0⟩, ⟨6, 0, .ro, .sw, 0x0⟩]⟩,
    ⟨0x1A0, 2, 0x4, [⟨23, 16, .rw, .ci, 0x0⟩, ⟨15, 0, .ro, .lv, 0x0⟩]⟩,
    ⟨0x1A8, 1, 0x4, [⟨31, 31, .w1c, .hs, 0x0⟩, ⟨23, 16, .rw, .ci, 0x0⟩, ⟨15, 0, .ro, .lv, 0x0⟩]⟩,
    ⟨0x1AC, 5, 0x4, [⟨23, 16, .rw, .ci, 0x0⟩, ⟨15, 0, .ro, .lv, 0x0⟩]⟩ ]
/-- Block EFT: its rows, whether it is shadowed, whether it has the active-value view, its block-defined EVT bits. -/
def blockEFT : RegBlock := ⟨0x4130000, false, false, 0xF, rowsEFT0 ++ rowsEFT1⟩

/-- Register rows of MBX (04 R151). -/
def rowsMBX0 : List RegRow :=
  [ ⟨0x40, 1, 0x4, [⟨1, 1, .wo, .sw, 0x0⟩, ⟨0, 0, .sc, .go, 0x0⟩]⟩,
    ⟨0x44, 1, 0x4, [⟨31, 16, .ro, .lv, 0x0⟩, ⟨5, 4, .ro, .lv, 0x0⟩, ⟨1, 1, .ro, .lv, 0x0⟩, ⟨0, 0, .ro, .lv, 0x0⟩]⟩,
    ⟨0x48, 1, 0x4, [⟨15, 0, .w1c, .hs, 0x0⟩]⟩,
    ⟨0x1000, 1027, 0x4, [⟨31, 0, .rw, .sw, 0x0⟩]⟩,
    ⟨0x3000, 1026, 0x4, [⟨31, 0, .ro, .lv, 0x0⟩]⟩ ]
/-- Block MBX: its rows, whether it is shadowed, whether it has the active-value view, its block-defined EVT bits. -/
def blockMBX : RegBlock := ⟨0x4140000, false, false, 0xF, rowsMBX0⟩

/-- Register rows of NVS (19 R647). -/
def rowsNVS0 : List RegRow :=
  [ ⟨0x40, 1, 0x4, [⟨9, 8, .ro, .lv, 0x2⟩, ⟨7, 7, .ro, .lv, 0x0⟩, ⟨6, 6, .ro, .lv, 0x0⟩, ⟨5, 4, .ro, .lv, 0x0⟩, ⟨3, 3, .ro, .sw, 0x0⟩, ⟨2, 2, .ro, .lv, 0x0⟩, ⟨1, 1, .ro, .lv, 0x0⟩, ⟨0, 0, .ro, .lv, 0x0⟩]⟩,
    ⟨0x44, 1, 0x4, [⟨3, 0, .ro, .lv, 0x0⟩]⟩,
    ⟨0x48, 1, 0x4, [⟨31, 0, .rw, .ci, 0x0⟩]⟩,
    ⟨0x4C, 1, 0x4, [⟨31, 16, .rw, .sw, 0x20⟩, ⟨15, 0, .rw, .sw, 0x100⟩]⟩,
    ⟨0x50, 1, 0x4, [⟨16, 16, .ro, .lv, 0x0⟩, ⟨15, 0, .ro, .lv, 0x38E0⟩]⟩,
    ⟨0x54, 1, 0x4, [⟨31, 16, .rw, .ci, 0x0⟩, ⟨15, 0, .rw, (.hu 0), 0xFFFF⟩]⟩,
    ⟨0x60, 1, 0x4, [⟨13, 8, .ro, .lv, 0x0⟩, ⟨7, 4, .ro, .lv, 0x0⟩, ⟨3, 0, .ro, .lv, 0x0⟩]⟩,
    ⟨0x64, 1, 0x4, [⟨31, 0, .ro, .lv, 0x0⟩]⟩,
    ⟨0x68, 1, 0x4, [⟨31, 0, .ro, .lv, 0x0⟩]⟩,
    ⟨0x1000, 1024, 0x4, [⟨31, 0, .ro, .lv, 0x0⟩]⟩ ]
/-- Block NVS: its rows, whether it is shadowed, whether it has the active-value view, its block-defined EVT bits. -/
def blockNVS : RegBlock := ⟨0x4150000, false, false, 0x1F, rowsNVS0⟩

/-- Register rows of TMR (03 R83). -/
def rowsTMR0 : List RegRow :=
  [ ⟨0x40, 1, 0x4, [⟨31, 0, .ro, .lv, 0x0⟩]⟩,
    ⟨0x44, 1, 0x4, [⟨15, 0, .ro, .lv, 0x0⟩]⟩,
    ⟨0x48, 1, 0x4, [⟨31, 0, .ro, .sw, 0xFFFFFFFF⟩]⟩,
    ⟨0x4C, 1, 0x4, [⟨15, 0, .ro, .sw, 0xFFFF⟩]⟩,
    ⟨0x50, 1, 0x4, [⟨31, 0, .rw, .sw, 0xFFFFFFFF⟩]⟩,
    ⟨0x54, 1, 0x4, [⟨15, 0, .rw, .sw, 0xFFFF⟩]⟩ ]
/-- Block TMR: its rows, whether it is shadowed, whether it has the active-value view, its block-defined EVT bits. -/
def blockTMR : RegBlock := ⟨0x4160000, false, false, 0x3, rowsTMR0⟩

/-- The 23 peripheral blocks in the order of their bases (05 R154). -/
def regBlocks : List RegBlock :=
  [blockSYS, blockMTX, blockLDG, blockTIM, blockPLN, blockOBJ, blockCMP, blockLNL, blockPEN, blockANO, blockVOC, blockMIX, blockVAR, blockBRG, blockGPI, blockCAN, blockXSP, blockCAM, blockAUS, blockEFT, blockMBX, blockNVS, blockTMR]

end Sys2Proof.Machine
end

