-- ==== Sys2Proof/Machine/Ops.lean ====
section
/-! DEFINITION. The named operations over stores, registers and memory: sparse stores in canonical form, register fields,
the collision classes (02 R40 to R50), events and their counter (02 R35 to R37), shadows (02 R51 to R57) and watermarks
(02 R59, R60). -/

namespace Sys2Proof.Machine

open Sys2Proof

/-! ## Sparse stores in canonical form: keys strictly rising, no entry equal to what an unlisted key reads as -/

/-- What the store holds at a key; an unlisted key holds `d k`. -/
def Store.get {α : Type} (d : Nat → α) : List (Nat × α) → Nat → α
  | [], k => d k
  | (j, v) :: l, k => if j = k then v else Store.get d l k

/-- The store with key `k` holding `v`. -/
def Store.put {α : Type} [DecidableEq α] (d : Nat → α) : List (Nat × α) → Nat → α → List (Nat × α)
  | [], k, v => if v = d k then [] else [(k, v)]
  | (j, w) :: l, k, v =>
    if k < j then (if v = d k then (j, w) :: l else (k, v) :: (j, w) :: l)
    else if k = j then (if v = d k then l else (k, v) :: l)
    else (j, w) :: Store.put d l k v

/-- Every key of the list is above `k`. -/
def Store.above {α : Type} (k : Nat) (l : List (Nat × α)) : Bool := l.all (fun p => decide (k < p.1))

/-- The canonical form: keys strictly rising and no entry equal to what an unlisted key reads as. -/
def Store.wf {α : Type} [DecidableEq α] (d : Nat → α) : List (Nat × α) → Bool
  | [] => true
  | (k, v) :: l => decide (v ≠ d k) && Store.above k l && Store.wf d l

/-- The store without the keys that `p` picks. -/
def Store.drop {α : Type} (p : Nat → Bool) (l : List (Nat × α)) : List (Nat × α) := l.filter (fun e => !p e.1)

/-! ## The register table -/

/-- The standard registers of a block (02 R32, R36, R53): EVT, EVTEN, EVTCNT, COLLIDE and, where shadowed, COMMIT. -/
def stdFields (b : RegBlock) (off : Nat) : List RegField :=
  if off = 0 then
    (if b.shadowed then [⟨31, 30, .w1c, .hs, 0⟩] else [⟨31, 31, .w1c, .hs, 0⟩])
      ++ (bitsOf 30 b.evtBits).map (fun i => ⟨i, i, .w1c, .hs, 0⟩)
  else if off = 4 then [⟨31, 0, .rw, .sw, 0⟩]
  else if off = 8 then [⟨31, 31, .w1c, .hs, 0⟩, ⟨21, 21, .rw, .sw, 0⟩, ⟨20, 16, .rw, .sw, 0⟩, ⟨15, 0, .rw, .ci, 0⟩]
  else if off = 12 then
    [⟨31, 16, .rw, .ci, 0⟩, ⟨13, 8, .ro, .lv, 0⟩, ⟨3, 3, .w1c, .hs, 0⟩, ⟨2, 2, .w1c, .hs, 0⟩, ⟨1, 1, .w1c, .hs, 0⟩,
      ⟨0, 0, .w1c, .hs, 0⟩]
  else if off = 16 && b.shadowed then [⟨31, 16, .rw, .ci, 0⟩, ⟨1, 1, .wo, .sw, 0⟩, ⟨0, 0, .w1s, .sh, 0⟩]
  else []

/-- Whether a row of the table holds the register at an offset. -/
def RegRow.holds (r : RegRow) (off : Nat) : Bool :=
  decide (r.off ≤ off) && decide ((off - r.off) % r.stride = 0) && decide ((off - r.off) / r.stride < r.count)

/-- The COLLIDE.FIELD index of a field in the register at an offset (02 R48): rows of several registers count on. -/
def RegField.atOff (f : RegField) (r : RegRow) (off : Nat) : RegField :=
  match f.cls with
  | .hu k => { f with cls := .hu (k + (off - r.off) / r.stride) }
  | _ => f

/-- The fields of the register at offset `off` of a block; none where no register is (00 R8). -/
def RegBlock.fieldsAt (b : RegBlock) (off : Nat) : List RegField :=
  if off < 0x40 then stdFields b off
  else match b.rows.find? (fun r => r.holds off) with
    | some r => r.fields.map (fun f => f.atOff r off)
    | none => []

/-- The block that an address of the peripheral bus lies in (05 R154). -/
def blockOf (a : Nat) : Option RegBlock :=
  if 0x04000000 ≤ a && a < 0x04170000 then regBlocks[(a - 0x04000000) / 0x10000]? else none

/-- The fields of the register at an address. -/
def fieldsOf (a : Nat) : List RegField :=
  match blockOf a with
  | some b => b.fieldsAt (a % 0x10000)
  | none => []

/-- The reset value that fields make up. -/
def fieldsReset (fs : List RegField) : Word := fs.foldl (fun w f => setBits w f.hi f.lo f.reset) 0#32

/-- What an unlisted register reads as: its reset value (02 R39). -/
def regReset (a : Nat) : Word := fieldsReset (fieldsOf a)

/-! ## Reading and setting fields -/

/-- The register at an address, as software reads it. -/
def Hw.reg (s : Hw) (a : Nat) : Word := Store.get regReset s.regs a

/-- The register at an address, set. -/
def Hw.setReg (s : Hw) (a : Nat) (v : Word) : Hw := { s with regs := Store.put regReset s.regs a v }

/-- The active value of a shadowed register (02 R51). -/
def Hw.actReg (s : Hw) (a : Nat) : Word := Store.get regReset s.act a

/-- The active value of a shadowed register, set (02 R58). -/
def Hw.setActReg (s : Hw) (a : Nat) (v : Word) : Hw := { s with act := Store.put regReset s.act a v }

/-- The address of register `i` of a field's row. -/
def FieldRef.addr (f : FieldRef) (i : Nat) : Nat := f.base + f.stride * i

/-- A field as software reads it. -/
def Hw.rd (s : Hw) (f : FieldRef) (i : Nat := 0) : Nat := getBits (s.reg (f.addr i)) f.hi f.lo

/-- A one-bit field as software reads it. -/
def Hw.rdB (s : Hw) (f : FieldRef) (i : Nat := 0) : Bool := s.rd f i == 1

/-- A field's active value (02 R51). -/
def Hw.rdA (s : Hw) (f : FieldRef) (i : Nat := 0) : Nat := getBits (s.actReg (f.addr i)) f.hi f.lo

/-- A one-bit field's active value. -/
def Hw.rdAB (s : Hw) (f : FieldRef) (i : Nat := 0) : Bool := s.rdA f i == 1

/-- A field set by hardware. -/
def Hw.wr (s : Hw) (f : FieldRef) (v : Nat) (i : Nat := 0) : Hw :=
  s.setReg (f.addr i) (setBits (s.reg (f.addr i)) f.hi f.lo v)

/-- A field's active value set (02 R58). -/
def Hw.wrA (s : Hw) (f : FieldRef) (v : Nat) (i : Nat := 0) : Hw :=
  s.setActReg (f.addr i) (setBits (s.actReg (f.addr i)) f.hi f.lo v)

/-- A CI counter incremented by `n`, saturating at its all-ones value (02 R42). -/
def Hw.inc (s : Hw) (f : FieldRef) (n : Nat := 1) (i : Nat := 0) : Hw :=
  s.wr f (satU (f.hi + 1 - f.lo) (s.rd f i + n)) i

/-! ## Blocks and their standard registers -/

/-- The bases of the blocks (05 R154). -/
abbrev bSYS : Nat := 0x04000000
abbrev bMTX : Nat := 0x04010000
abbrev bLDG : Nat := 0x04020000
abbrev bTIM : Nat := 0x04030000
abbrev bPLN : Nat := 0x04040000
abbrev bOBJ : Nat := 0x04050000
abbrev bCMP : Nat := 0x04060000
abbrev bLNL : Nat := 0x04070000
abbrev bPEN : Nat := 0x04080000
abbrev bANO : Nat := 0x04090000
abbrev bVOC : Nat := 0x040A0000
abbrev bMIX : Nat := 0x040B0000
abbrev bVAR : Nat := 0x040C0000
abbrev bBRG : Nat := 0x040D0000
abbrev bGPI : Nat := 0x040E0000
abbrev bCAN : Nat := 0x040F0000
abbrev bXSP : Nat := 0x04100000
abbrev bCAM : Nat := 0x04110000
abbrev bAUS : Nat := 0x04120000
abbrev bEFT : Nat := 0x04130000
abbrev bMBX : Nat := 0x04140000
abbrev bNVS : Nat := 0x04150000
abbrev bTMR : Nat := 0x04160000

/-- EVT of the block at `b`. -/
def evtF (b : Nat) : FieldRef := ⟨b, 0, 31, 0⟩
/-- EVTEN. -/
def evtenF (b : Nat) : FieldRef := ⟨b + 4, 0, 31, 0⟩
/-- EVTCNT.SAT, ANY, SEL, COUNT. -/
def evtcntSat (b : Nat) : FieldRef := ⟨b + 8, 0, 31, 31⟩
def evtcntAny (b : Nat) : FieldRef := ⟨b + 8, 0, 21, 21⟩
def evtcntSel (b : Nat) : FieldRef := ⟨b + 8, 0, 20, 16⟩
def evtcntCount (b : Nat) : FieldRef := ⟨b + 8, 0, 15, 0⟩
/-- COLLIDE.COUNT, FIELD, IGNORED, RESTART, LATE, HIT. -/
def collideCount (b : Nat) : FieldRef := ⟨b + 12, 0, 31, 16⟩
def collideField (b : Nat) : FieldRef := ⟨b + 12, 0, 13, 8⟩
def collideIgnored (b : Nat) : FieldRef := ⟨b + 12, 0, 3, 3⟩
def collideRestart (b : Nat) : FieldRef := ⟨b + 12, 0, 2, 2⟩
def collideLate (b : Nat) : FieldRef := ⟨b + 12, 0, 1, 1⟩
def collideHit (b : Nat) : FieldRef := ⟨b + 12, 0, 0, 0⟩
/-- COMMIT.XFERS, ARM. -/
def commitXfers (b : Nat) : FieldRef := ⟨b + 16, 0, 31, 16⟩
def commitArm (b : Nat) : FieldRef := ⟨b + 16, 0, 0, 0⟩

/-- EVTCNT counts the cycle in which hardware sets the bits of `mask` (02 R37); a count past 0xFFFF sets SAT. -/
def Hw.countEvt (s : Hw) (b mask : Nat) : Hw :=
  let hit := if s.rdB (evtcntAny b) then decide (mask ≠ 0) else bit mask (s.rd (evtcntSel b))
  if hit then
    if s.rd (evtcntCount b) = 0xFFFF then s.wr (evtcntSat b) 1 else s.inc (evtcntCount b)
  else s

/-- The EVENT condition units that are true in a cycle in which hardware sets the EVT bits of `mask` of the block at `b`
(16 R536): KIND 3, SEL the block's number and the bit. -/
def Hw.eventUnits (s : Hw) (b mask : Nat) : List Nat :=
  (List.range 4).filter (fun u =>
    s.rd F.VAR_CU_CFG_KIND u = 3 && s.rd F.VAR_CU_CFG_SEL u / 256 = (b - bSYS) / 0x10000
      && bit mask (s.rd F.VAR_CU_CFG_SEL u % 32))

/-- Hardware sets the EVT bits of `mask` in one cycle, whatever EVTEN is (02 R35, R37). -/
def Hw.raise (s : Hw) (b mask : Nat) : Hw :=
  if mask = 0 then s
  else
    let s := { s with varPulse := s.varPulse ++ s.eventUnits b mask }
    (s.wr (evtF b) (s.rd (evtF b) ||| mask)).countEvt b mask

/-- Hardware sets EVT bit `k`. -/
def Hw.raiseBit (s : Hw) (b k : Nat) : Hw := s.raise b (2 ^ k)

/-- Hardware sets EVT bit `k` if `c` holds. -/
def Hw.raiseIf (s : Hw) (c : Bool) (b k : Nat) : Hw := if c then s.raiseBit b k else s

/-- The block's interrupt request (02 R34). -/
def Hw.irq (s : Hw) (b : Nat) : Bool := s.rd (evtF b) &&& s.rd (evtenF b) != 0

/-- A collision of one cycle: the COLLIDE bits set, COUNT counts the cycle once, EVT.COLL sets (02 R36, the COLLIDE
table). -/
def Hw.collide (s : Hw) (b : Nat) (hit : Option Nat) (late restart : Bool) : Hw :=
  if hit.isNone && !late && !restart then s
  else
    let s := match hit with
      | some k => (s.wr (collideHit b) 1).wr (collideField b) k
      | none => s
    let s := if late then s.wr (collideLate b) 1 else s
    let s := if restart then s.wr (collideRestart b) 1 else s
    (s.inc (collideCount b)).raiseBit b 31

/-- A 1 written to a GO field while its operation runs (02 R45): COLLIDE.IGNORED, and nothing else. -/
def Hw.goIgnored (s : Hw) (b : Nat) : Hw := s.wr (collideIgnored b) 1

/-! ## A software write with the hardware side of the same cycle (02 R38 to R50) -/

/-- The write of one field: the value `w` of the whole word is written by software, `c` is what hardware does to the
same register in the same cycle. Answers the register word, the CI increments put off, the HU field hit, whether a GO
write was ignored and whether it restarted its operation. -/
structure FieldWrite where
  word : Word
  due : List CiDue
  hit : Option Nat
  ignored : Bool
  restart : Bool
  late : Bool
  deriving DecidableEq, Repr

/-- One field of a register under a software write, by its access code and class (00 R12, 02 R40). -/
def writeField (a : Nat) (v : Word) (c : Cyc) (r : FieldWrite) (f : RegField) : FieldWrite :=
  let old := getBits r.word f.hi f.lo
  let new := getBits v f.hi f.lo
  let set := getBits c.set f.hi f.lo
  let put := fun (x : Nat) => setBits r.word f.hi f.lo x
  let incd := satU (f.hi + 1 - f.lo) (old + 1)
  match f.acc, f.cls with
  | .rw, .ci =>
    { r with word := put new, due := if bit c.inc.toNat f.lo then r.due ++ [⟨a, f.hi, f.lo, 1, true⟩] else r.due }
  | .rw, .hu k => { r with word := put new, hit := if c.upd.isSome then some k else r.hit }
  | .rw, _ => { r with word := put new }
  | .w1c, _ =>
    let kept := (List.range (f.hi + 1 - f.lo)).foldl
      (fun n i => if bit set i || (bit old i && !bit new i) then n + 2 ^ i else n) 0
    { r with word := put kept }
  | .w1s, _ => { r with word := put (old ||| new) }
  | .sc, _ =>
    let wanted := (bitsOf (f.hi + 1 - f.lo) new)
    let fin := getBits c.done f.hi f.lo
    let next := (old &&& (old ^^^ fin)) ||| new
    { r with word := put next, ignored := r.ignored || wanted.any (fun i => bit old i && !bit fin i),
             restart := r.restart || wanted.any (fun i => bit old i && bit fin i) }
  | .sh, _ => { r with word := put new, late := r.late || c.xfer }
  | .ro, .lv => { r with word := match c.level with | some l => put (getBits l f.hi f.lo) | none => r.word }
  | .ro, .hs => { r with word := put (old ||| set) }
  | .ro, .ci => { r with word := if bit c.inc.toNat f.lo then put incd else r.word }
  | _, _ => r

/-- A software write to a register without behaviour of its own, in a cycle in which hardware does `c` to it. -/
def Hw.swWrite (s : Hw) (a : Nat) (v : Word) (c : Cyc) : Hw :=
  match blockOf a with
  | none => s
  | some b =>
    let fs := b.fieldsAt (a % 0x10000)
    let r := fs.foldl (writeField a v c) ⟨s.reg a, [], none, false, false, false⟩
    let late := s.ciDue.map (fun d => if d.addr = a then { d with fresh := true } else d)
    let s := { s.setReg a r.word with ciDue := late ++ r.due }
    let s := if r.ignored then s.goIgnored b.base else s
    s.collide b.base r.hit r.late r.restart

/-- A register cycle ends: every CI increment that was put off in an earlier cycle is applied, saturating (02 R43, R44);
those put off in this cycle wait for the end of the next one. -/
def Hw.settleCi (s : Hw) : Hw :=
  let now := s.ciDue.filter (fun d => !d.fresh)
  let s := { s with ciDue := (s.ciDue.filter (·.fresh)).map (fun d => { d with fresh := false }) }
  now.foldl (fun s d =>
    let f : FieldRef := ⟨d.addr, 0, d.hi, d.lo⟩
    let s' := s.inc f d.amount
    if d.addr % 0x10000 = 8 && d.lo = 0 && 0xFFFF < s.rd f + d.amount then s'.wr ⟨d.addr, 0, 31, 31⟩ 1 else s') s

/-! ## Shadows (02 R51 to R56) -/

/-- The addresses of a block's registers that have a shadowed field. -/
def RegBlock.shAddrs (b : RegBlock) : List Nat :=
  b.rows.flatMap (fun r =>
    if r.fields.any (fun f => decide (f.acc = Acc.sh)) then
      (List.range r.count).map (fun i => b.base + r.off + r.stride * i)
    else [])

/-- The shadow of one register copied to its active value: its SH fields only. -/
def Hw.copyShadow (s : Hw) (a : Nat) : Hw :=
  let w := s.reg a
  let n := (fieldsOf a).foldl
    (fun v f => if f.acc = Acc.sh then setBits v f.hi f.lo (getBits w f.hi f.lo) else v) (s.actReg a)
  s.setActReg a n

/-- Whether an address lies in a block. -/
def inBlock (base a : Nat) : Bool := decide (base ≤ a) && decide (a < base + 0x10000)

/-- A commit transfer (02 R52): every shadow of the block to its active value in one cycle. A register neither listed
in the shadows nor in the active values holds its reset value in both, so only the listed ones move. -/
def Hw.copyShadows (s : Hw) (base : Nat) : Hw :=
  ((s.regs.map (·.1) ++ s.act.map (·.1)).filter
    (fun a => inBlock base a && (fieldsOf a).any (fun f => decide (f.acc = Acc.sh)))).foldl Hw.copyShadow s

/-- The transfer cycle of a block (02 R53): if it is armed, every shadow is copied, ARM clears, EVT.XFER sets and
COMMIT.XFERS counts. -/
def Hw.transfer (s : Hw) (base : Nat) : Hw :=
  if s.rdB (commitArm base) then
    (((s.copyShadows base).wr (commitArm base) 0).inc (commitXfers base)).raiseBit base 30
  else s

/-- Every register of the block at its reset value, shadows and active values, ARM at 0 (02 R39, R56). -/
def Hw.resetBlock (s : Hw) (base : Nat) : Hw :=
  { s with regs := Store.drop (inBlock base) s.regs, act := Store.drop (inBlock base) s.act,
           ciDue := s.ciDue.filter (fun d => !inBlock base d.addr),
           wideRead := Store.drop (inBlock base) s.wideRead, wideWrite := Store.drop (inBlock base) s.wideWrite }

/-- Registers `lo ≤ address < hi` at their reset values. -/
def Hw.resetRange (s : Hw) (lo hi : Nat) : Hw :=
  let p := fun a => decide (lo ≤ a) && decide (a < hi)
  { s with regs := Store.drop p s.regs, act := Store.drop p s.act, ciDue := s.ciDue.filter (fun d => !p d.addr) }

/-! ## Watermarks (02 R59, R60) -/

/-- The level of a watermark in a cycle: LEVEL follows it, BELOW has hysteresis, an entry into the below state sets the
sticky event and counts a crossing, and EXTREME keeps the lowest level. `stat` and `rec` are the addresses of the two
registers, `cfg` that of THRESH and HYST. -/
def Hw.watermark (s : Hw) (blk stat rec cfg evt level : Nat) : Hw :=
  let thresh := s.rd ⟨cfg, 0, 15, 0⟩
  let hyst := s.rd ⟨cfg, 0, 31, 16⟩
  let was := s.rdB ⟨stat, 0, 16, 16⟩
  let below := if level < thresh then true else if thresh + hyst ≤ level then false else was
  let s := (s.wr ⟨stat, 0, 15, 0⟩ level).wr ⟨stat, 0, 16, 16⟩ (b2n below)
  let s := if level < s.rd ⟨rec, 0, 15, 0⟩ then s.wr ⟨rec, 0, 15, 0⟩ level else s
  if below && !was then (s.inc ⟨rec, 0, 31, 16⟩).raiseBit blk evt else s

/-! ## Free values -/

/-- The next free value, and the state with the counter moved on (log 1). -/
def Hw.free (s : Hw) : Nat × Hw := (Config.freeValue s.freeCount, { s with freeCount := s.freeCount + 1 })

/-! ## Memory: bytes by address (00 R4) -/

/-- What a byte of memory that nothing has written reads as: 0 (05 R68's zero fill of a bank, and the zero fills of the
T5 RAMs; for the pennant store and the local RAMs a chosen value, log 5), and the boot ROM's contents. -/
def memReset (a : Nat) : Byte := if 0xF0000000 ≤ a && a < 0xF0010000 then Config.bootRomByte (a - 0xF0000000) else 0#8

/-- One byte of memory. -/
def Hw.byte (s : Hw) (a : Nat) : Byte := Store.get memReset s.mem a

/-- One byte of memory, set. -/
def Hw.setByte (s : Hw) (a : Nat) (v : Byte) : Hw := { s with mem := Store.put memReset s.mem a v }

/-- `k` bytes from address `a`. -/
def Hw.bytes (s : Hw) (a : Nat) : Nat → List Byte
  | 0 => []
  | k + 1 => s.byte a :: s.bytes (a + 1) k

/-- Bytes stored from address `a` on. -/
def Hw.setBytes (s : Hw) (a : Nat) : List Byte → Hw
  | [] => s
  | b :: l => (s.setByte a b).setBytes (a + 1) l

/-- The number that `k` bytes from address `a` spell (00 R4). -/
def Hw.mem32 (s : Hw) (a : Nat) (k : Nat := 4) : Nat := leNat (s.bytes a k)

/-- The bytes `lo ≤ a < hi` of memory at 0. -/
def Hw.zeroMem (s : Hw) (lo hi : Nat) : Hw :=
  { s with mem := Store.drop (fun a => decide (lo ≤ a) && decide (a < hi)) s.mem }

/-! ## Power domains (03 R64) -/

/-- The state of a domain. -/
def Hw.domState (s : Hw) (d : Nat) : Dom := s.pwr.dom.getD d Dom.off

/-- A domain is on. -/
def Hw.on (s : Hw) (d : Nat) : Bool := s.domState d == Dom.on

end Sys2Proof.Machine
end

