-- ==== Sys2Proof/Machine/MemBus.lean ====
section
/-! DEFINITION. The address map, the path map and the decoder of the bus matrix (01 R19, R20; 05 R152 to R157, R182), the
error log (05 R161, R182), and single reads and writes of the memory targets T0..T5 and T9. -/

namespace Sys2Proof.Machine

open Sys2Proof

/-! ## Address map (05 R152) -/

/-- The target an address lies in: 0..3 memory ports, 4 pennant store, 5 the T5 RAMs, 6 peripheral bus, 7 remote windows,
8 xSPI window, 9 boot ROM; `none` where unmapped. -/
def targetOf (a : Nat) : Option Nat :=
  if a < 0x01000000 then some (a / 0x100000 % 4)
  else if a < 0x01080000 then some 4
  else if 0x02000000 ≤ a && a < 0x02018000 then some 5
  else if 0x02020000 ≤ a && a < 0x02080000 then some 5
  else if 0x04000000 ≤ a && a < 0x04170000 then some 6
  else if 0x08000000 ≤ a && a < 0x10000000 then some 7
  else if 0x10000000 ≤ a && a < 0x20000000 then some 8
  else if 0xF0000000 ≤ a && a < 0xF0010000 then some 9
  else none

/-- The bank an address of work memory lies in (05 R156). -/
def bankOf (a : Nat) : Nat := a / 0x100000

/-- The path map (01 R19): 0 no path, 1 read-only, 2 read and write, for master `m` and target `t` (0..3 alike). -/
def pathOf (m t : Nat) : Nat :=
  let row : List Nat := match m with
    | 0 => [1, 0, 0, 0, 0, 1, 0]
    | 1 => [2, 1, 2, 2, 2, 1, 0]
    | 2 => [2, 2, 2, 2, 2, 2, 1]
    | 3 => [1, 0, 0, 0, 0, 0, 0]
    | 4 => [1, 0, 1, 0, 0, 0, 0]
    | 5 => [2, 0, 0, 0, 0, 0, 0]
    | 6 => [2, 0, 2, 0, 0, 0, 0]
    | 7 => [1, 0, 2, 0, 0, 0, 0]
    | 8 => [2, 0, 2, 0, 0, 0, 0]
    | 9 => [2, 1, 2, 2, 0, 0, 0]
    | 10 => [2, 0, 0, 0, 0, 0, 0]
    | 11 => [2, 1, 2, 2, 2, 1, 0]
    | _ => []
  row.getD (if t < 4 then 0 else t - 3) 0

/-- The domain a register lies in (03 R713, 01 R18). -/
def regDomain (a : Nat) : Nat :=
  let off := a % 0x10000
  match (a - 0x04000000) / 0x10000 with
  | 0 => 0
  | 1 => 21
  | 2 => 21
  | 3 => 31
  | 4 => if 0x100 ≤ off && off < 0x280 then 23 + (off - 0x100) / 0x40 else 22
  | 5 => 29
  | 6 => 22
  | 7 => 31
  | 8 => 20
  | 9 => 33
  | 10 => if 0x2000 ≤ off && off < 0x2E00 then 35 else if 0x2E00 ≤ off && off < 0x3000 then 36 else 34
  | 11 => 34
  | 12 => 39
  | 13 => if 0x100 ≤ off && off < 0x140 then 41 else if 0x140 ≤ off && off < 0x180 then 42 else 21
  | 14 => if 0x1C0 ≤ off && off < 0x280 then 47 else 46
  | 15 => 43
  | 16 => 44
  | 17 => 30
  | 18 => 38
  | 19 => 2
  | 20 => 1
  | 21 => 48
  | _ => 0

/-- The domain that an address of a memory target or a register lies in. -/
def domainOf (a : Nat) : Nat :=
  match targetOf a with
  | some 4 => 20
  | some 5 =>
    if a < 0x02010000 then 22 else if a < 0x02018000 then 29
    else if a < 0x02030000 then 34 else if a < 0x02070000 then 40 else 34
  | some 6 => regDomain a
  | some 7 => 21
  | some 8 => 44
  | some 9 => 1
  | some _ => 4 + bankOf a
  | none => 0

/-! ## Decode errors (05 R182) -/

/-- The kinds of decode error, by code. -/
inductive DErr where
  | unmapped | nopath | size | domain | retired | burst | stallto | released | protect | lock | absent | self
  deriving DecidableEq, Repr

/-- The code of a kind. -/
def DErr.code : DErr → Nat
  | .unmapped => 0 | .nopath => 1 | .size => 2 | .domain => 3 | .retired => 4 | .burst => 5 | .stallto => 6
  | .released => 7 | .protect => 8 | .lock => 9 | .absent => 10 | .self => 11

/-- Whether node `n` is absent from the link (05 R182): its ID is not below the node count, or its path is lost. -/
def Hw.nodeAbsent (s : Hw) (n : Nat) : Bool :=
  decide (s.rd F.BRG_STAT_NODES ≤ n) || !bit (s.rd F.BRG_REACH_BITS (n / 32)) (n % 32)

/-- Whether a target takes bursts of a kind (05 R167), and a master issues them (05 R166). -/
def burstOk (m t : Nat) (write : Bool) : Bool :=
  let tOk := if t < 4 || t = 5 then true else if t = 4 || t = 8 || t = 9 then !write else false
  let mOk := match m with
    | 0 => !write | 1 => true | 2 => true | 3 => !write | 4 => !write | 5 => true | 6 => true | 7 => !write
    | 8 => write | 9 => true | 10 => write | _ => false
  tOk && mOk

/-- Whether a master and a target are marked for locks (05 R166, R167). -/
def lockOk (m t : Nat) : Bool :=
  (m = 1 || m = 2 || m = 9 || m = 11) && (t < 4 || t = 5 || t = 6 || t = 7) && pathOf m t = 2

/-- Whether an access fits its target's sizes (05 R157, R5): a power of two up to 16, aligned; whole words on the
peripheral bus. -/
def sizeOk (t a n : Nat) : Bool :=
  if t = 6 then n = 4 && a % 4 = 0
  else (n = 1 || n = 2 || n = 4 || n = 8 || n = 16) && a % n = 0

/-- Whether the locked-sequence rules refuse the request (05 R178, R180, R714). -/
def Hw.lockBreaks (s : Hw) (r : MReq) (t : Nat) : Bool :=
  let m : Nat := r.master
  let gran := if t < 4 || t = 5 then some (r.addr / 64) else none
  let inSeq := match s.mtx.lock with
    | some l => l.master = m && l.id = r.id
    | none => false
  (r.lock && (!lockOk m t || (match s.mtx.lock with | some l => l.master = m | none => false)))
    || (!r.lock && s.mtx.broken.contains (m, r.id, t))
    || (inSeq && !r.lock && (match s.mtx.lock with
        | some l => 8 ≤ l.count || l.target ≠ t || l.granule ≠ gran
        | none => false))

/-- The first decode error of a request, in the order of R182; `none` where it reaches its target. -/
def Hw.decode (s : Hw) (r : MReq) : Option DErr :=
  match targetOf r.addr with
  | none => some .unmapped
  | some t =>
    let p := pathOf r.master t
    if p = 0 || (r.write && p = 1) then some .nopath
    else if t = 7 && (r.addr - 0x08000000) / 0x100000 = s.rd F.BRG_STAT_ID then some .self
    else if r.write && 0x0207E000 ≤ r.addr && r.addr < 0x02080000 && r.master ≠ 2 && r.master ≠ 7 then some .protect
    else if r.beats ≤ 1 && !sizeOk t r.addr r.size then some .size
    else if 1 < r.beats && (!burstOk r.master t r.write || 16 < r.beats || r.addr % 16 ≠ 0
        || r.addr / 1024 ≠ (r.addr + 16 * r.beats - 1) / 1024) then some .burst
    else if s.lockBreaks r t then some .lock
    else if t < 4 && s.mtx.retired.contains (bankOf r.addr) then some .retired
    else if !s.on (domainOf r.addr) then some .domain
    else if t = 7 && s.nodeAbsent ((r.addr - 0x08000000) / 0x100000) then some .absent
    else none
/-- A decode error recorded (05 R182): the master's bit, the log while it is free, LOST otherwise, EVT.DECERR. -/
def Hw.logDecode (s : Hw) (r : MReq) (k : DErr) : Hw :=
  let s := s.wr F.MTX_DERRMST_MASTERS (s.rd F.MTX_DERRMST_MASTERS ||| 2 ^ (r.master : Nat))
  let s := if s.rdB F.MTX_DERRINFO_VALID then s.wr F.MTX_DERRINFO_LOST 1
    else (((((s.wr F.MTX_DERRINFO_VALID 1).wr F.MTX_DERRINFO_KIND k.code).wr F.MTX_DERRINFO_ID r.id).wr
      F.MTX_DERRINFO_WRITE (b2n r.write)).wr F.MTX_DERRINFO_MASTER r.master).wr F.MTX_DERRADDR_ADDR r.addr
  s.raiseBit bMTX 0

/-- Whether an open lock of master `m` with this ID covers an address (05 R178, 07 R270). -/
def Hw.lockCovers (s : Hw) (m id a : Nat) : Bool :=
  match s.mtx.lock with
  | some l => l.master = m && l.id = id && (match l.granule with | some g => g = a / 64 | none => false)
  | none => false

/-! ## Memory targets: an access decoded and performed -/

/-- A plain read request. -/
def readReq (m : Fin 12) (id a n : Nat) : MReq :=
  ⟨m, id, a, false, n, if n ≤ 16 then 1 else n / 16, [], false, false⟩

/-- A plain write request. -/
def writeReq (m : Fin 12) (id a : Nat) (bs : List Byte) : MReq :=
  ⟨m, id, a, true, bs.length, if bs.length ≤ 16 then 1 else bs.length / 16, bs, false, false⟩

/-- Any access to a bank makes it ACTIVE (05 R165). -/
def Hw.touchBank (s : Hw) (a : Nat) : Hw :=
  if a < 0x01000000 then
    let b := bankOf a
    { s with mtx := { s.mtx with sleep := s.mtx.sleep.set b 0, waking := s.mtx.waking.filter (· ≠ b) } }
  else s

/-- The part of the statistics RAM that ignores the writes of matrix masters (16 R554). -/
def readOnlyRam (a : Nat) : Bool := decide (0x02030000 ≤ a) && decide (a < 0x02054100)

/-- A read of a memory target: `n` bytes, or none for an error response, which is recorded. -/
def Hw.busLoad (s : Hw) (m : Fin 12) (id a n : Nat) : Hw × Option (List Byte) :=
  match s.decode (readReq m id a n) with
  | some k => (s.logDecode (readReq m id a n) k, none)
  | none => (s.touchBank a, some (s.bytes a n))

/-- A write of a memory target; false for an error response, which is recorded. -/
def Hw.busStore (s : Hw) (m : Fin 12) (id a : Nat) (bs : List Byte) : Hw × Bool :=
  match s.decode (writeReq m id a bs) with
  | some k => (s.logDecode (writeReq m id a bs) k, false)
  | none => (if readOnlyRam a then s else (s.touchBank a).setBytes a bs, true)

/-- A read by the command engine, or by a unit, of memory that is known to be there: the bytes, with no error log. -/
def Hw.memOn (s : Hw) (a : Nat) : Bool := s.on (domainOf a) && !(a < 0x01000000 && s.mtx.retired.contains (bankOf a))

end Sys2Proof.Machine
end

