-- ==== Sys2Proof/Machine/Gpio.lean ====
section
/-! DEFINITION. GPIO pins: functions, ownership, drive, inputs, edges and bank supplies (18 R607 to R619, R687). -/

namespace Sys2Proof.Machine

open Sys2Proof

/-! ## Owners and functions -/

/-- The bank domain of a pin (18 R607). -/
def pinDomain (n : Nat) : Nat := if n < 48 then 46 else 47

/-- The owner of a pin. -/
def Hw.owner (s : Hw) (n : Nat) : Nat := s.gpi.owner.getD n 0

/-- The owners that a pin's function may reach the pin under (18 R610, R615); empty where the pin has no function. -/
def fnOwners (n : Nat) : List Nat :=
  if n ≤ 1 then [1, 3]
  else if n ≤ 3 then [3]
  else if n ≤ 5 then [5, 4]
  else if n ≤ 7 then [1, 3]
  else if n ≤ 13 then [0, 3]
  else if n ≤ 23 then [3]
  else if n ≤ 28 then [1, 3]
  else if n ≤ 32 then [1]
  else if n ≤ 36 then [3]
  else if n ≤ 47 then []
  else if n ≤ 64 then [1, 3]
  else if n ≤ 67 then []
  else [1, 3]

/-- The function of pin `n` reaches the pin: FUNC is 1 and the owner is one that the function allows (18 R615). -/
def Hw.fnActive (s : Hw) (n : Nat) : Bool :=
  s.rdB F.GPI_PIN_FUNC n && (fnOwners n).contains (s.owner n) && s.on (pinDomain n)

/-- Master `m` controls the output bits of pin `n` (18 R612). -/
def Hw.ctlOut (s : Hw) (m n : Nat) : Bool :=
  match s.owner n with
  | 3 => m = 1 || m = 11
  | 4 => m = 9
  | 5 => false
  | _ => m = 2

/-- Master `m` controls the configuration of pin `n` (18 R612). -/
def Hw.ctlCfg (s : Hw) (m n : Nat) : Bool := if s.owner n = 3 then m = 1 || m = 11 else m = 2

/-! ## Drive and levels (18 R616, R617) -/

/-- OUT and OE of a pin. -/
def Hw.pinOut (s : Hw) (n : Nat) : Bool := bit (s.rd F.GPI_OUT_OUT (n / 32)) (n % 32)
def Hw.pinOe (s : Hw) (n : Nat) : Bool := bit (s.rd F.GPI_OE_OE (n / 32)) (n % 32)

/-- The balls of AS0 and AS1 that are outputs, and CHIME_PWM. -/
def audioBall (n : Nat) : Bool := (24 ≤ n && n ≤ 27) || (29 ≤ n && n ≤ 32)

/-- Function outputs that rest at 1 between commands: CAN_TX, XSPI_CS_N, UART0_TX, UART1_TX (PRESUMED, log 24). -/
def Hw.restsHigh (s : Hw) (n : Nat) : Bool :=
  (n = 1 && s.on 43 && s.rd F.CAN_CFG_MODE = 1) || (n = 8 && s.on 44) || n = 34 || n = 36

/-- FV and FOE of a pin: FOE is 0 while the function does not reach the pin; while PD38 is off, the audio balls drive FV = 0
(18 R638). -/
def Hw.pinFoe (s : Hw) (n : Nat) : Bool :=
  ((audioBall n && !s.on 38) || s.restsHigh n || s.gpi.foe.getD n false) && s.fnActive n
def Hw.pinFv (s : Hw) (n : Nat) : Bool := !(audioBall n && !s.on 38) && (s.restsHigh n || s.gpi.fv.getD n false)

/-- The pin is driven while OE or FOE is 1, its bank is on and its supply is good (18 R616, R608, R618). -/
def Hw.pinDriven (s : Hw) (n : Nat) : Bool :=
  (s.pinOe n || s.pinFoe n) && s.on (pinDomain n) && !s.gpi.bad.getD (n / 24) false

/-- The value a driven pin is driven to: (OUT AND OE) OR (FV AND FOE). -/
def Hw.pinValue (s : Hw) (n : Nat) : Bool := (s.pinOut n && s.pinOe n) || (s.pinFv n && s.pinFoe n)

/-- The level of the ball: what drives it. -/
def Hw.pinLevel (s : Hw) (n : Nat) : Bool := if s.pinDriven n then s.pinValue n else s.gpi.ext.getD n false

/-- What the input buffer of a pin shows: the level while the bank is on, 0 otherwise (18 R617, 03 R713). -/
def Hw.pinIn (s : Hw) (n : Nat) : Bool := s.on (pinDomain n) && s.pinLevel n

/-- A function input: the pin's level where the function reaches the pin, else its idle level: 1 for CAN_RX, UARTn_RX,
I2C lines and XSPI_IO1, 0 for every other (18 R617). -/
def Hw.fnIn (s : Hw) (n : Nat) : Bool :=
  if s.fnActive n then s.pinIn n else [0, 33, 35, 2, 3, 22, 23, 11].contains n

/-- GPI_INk. -/
def Hw.gpiIn (s : Hw) (k : Nat) : Word :=
  BitVec.ofNat 32 (ofBits ((List.range 32).filter (fun b => s.pinIn (32 * k + b))))

/-- A function output set: FV and FOE of a pin. -/
def Hw.setFn (s : Hw) (n : Nat) (v oe : Bool) : Hw :=
  { s with gpi := { s.gpi with fv := s.gpi.fv.set n v, foe := s.gpi.foe.set n oe } }

/-! ## Writes under ownership (18 R613) -/

/-- A word of output bits written by a master: the bits of pins it controls, and that lie in a domain that is on, take the
value; the others keep theirs, and WDENY sets if one of them would have changed. -/
def Hw.pinWordWrite (s : Hw) (f : FieldRef) (m k : Nat) (v : Word) : Hw :=
  let old := s.rd f k
  let on := (List.range 32).filter (fun b => s.on (pinDomain (32 * k + b)))
  let mine := on.filter (fun b => s.ctlOut m (32 * k + b))
  let new := (List.range 32).filter (fun b => if mine.contains b then bit v.toNat b else bit old b)
  let denied := on.any (fun b => !mine.contains b && bit v.toNat b != bit old b)
  (s.wr f (ofBits new) k).raiseIf denied bGPI 3

/-- The software-written bits of GPI_PINn: FUNC, EDGE, PULL, DRIVE and SLEW. -/
def pinMask : Nat := 0x01303310

/-- A configuration write (18 R612, R613, R615). -/
def Hw.pinCfgWrite (s : Hw) (m n : Nat) (v : Word) : Hw :=
  if !s.on (pinDomain n) then s
  else
    let a := F.GPI_PIN_FUNC.addr n
    let old := s.reg a
    let new := BitVec.ofNat 32 (v.toNat &&& pinMask)
    if s.ctlCfg m n then
      (s.setReg a new).raiseIf ((m = 1 || m = 11) && v.getLsbD 24 && !(fnOwners n).contains 3) bGPI 4
    else s.raiseIf (decide (new.toNat ≠ old.toNat &&& pinMask)) bGPI 3

/-- Owners set for a range of pins (18 R611). -/
def Hw.setOwners (s : Hw) (first count code : Nat) : Hw :=
  { s with gpi := { s.gpi with
      owner := (List.range 96).map (fun n => if first ≤ n && n < first + count then code else s.owner n) } }

/-- The pins' registers of a bank domain at switch-on (18 R618): each GPI_PINn from the pin table, or its reset value. -/
def Hw.restorePins (s : Hw) (d : Nat) : Hw :=
  match s.gpi.table with
  | none => s
  | some t => foldUp (fun s n =>
      if pinDomain n = d then s.setReg (F.GPI_PIN_FUNC.addr n) (BitVec.ofNat 32 ((t.getD n 0#32).toNat &&& pinMask))
      else s) 0 96 s

/-- The pin table of an image applied to all 96 pins (18 R614, R668). -/
def Hw.applyPinTable (s : Hw) (t : List Word) : Hw :=
  let s := { s with gpi := { s.gpi with table := some t } }
  foldUp (fun s n =>
    if s.on (pinDomain n) then
      s.setReg (F.GPI_PIN_FUNC.addr n) (BitVec.ofNat 32 ((t.getD n 0#32).toNat &&& pinMask))
    else s) 0 96 s

/-! ## Meanings -/

/-- GPIO_INPUT_EDGE (18 R619): the bit of GPI_EDGE sets if GPI_PINn.EDGE chooses the edge, and GPI_EVT.EDGEk with it. -/
def Hw.inputEdge (s : Hw) (n : Nat) (rising : Bool) : Hw :=
  let e := s.rd F.GPI_PIN_EDGE n
  if s.on (pinDomain n) && (if rising then bit e 0 else bit e 1) then
    (s.wr F.GPI_EDGE_EDGE (s.rd F.GPI_EDGE_EDGE (n / 32) ||| 2 ^ (n % 32)) (n / 32)).raiseBit bGPI (n / 32)
  else s

end Sys2Proof.Machine
end

