-- ==== Sys2Proof/Machine/Log.lean ====
section
/-! DEFINITION. The recovery log, the event log and the notices of the command engine (04 R147 to R149), and PENN_ALARM's
fault record (12 R432, R433). -/

namespace Sys2Proof.Machine

open Sys2Proof

/-- The low 32 bits of the TMR count, the stamp of every record. -/
def Hw.stamp (s : Hw) : Nat := s.rd F.TMR_CNTLO_COUNT

/-- A recovery record written (04 R148): 32 are kept, the newest in front. `port` is the port code of the command that
caused it, 0xFF for an action of the device's own. -/
def Hw.recover (s : Hw) (kind port unit sub a b : Nat) : Hw :=
  { s with recLog := (⟨kind, port, unit, sub, a, b, s.stamp⟩ :: s.recLog).take 32 }

/-- An event record written (04 R149): 256 are kept, the newest in front. -/
def Hw.event (s : Hw) (kind port d0 d1 aux : Nat) : Hw :=
  { s with evLog := (⟨kind, port, d0, d1, aux, s.rd F.PEN_FCOUNT_F, s.stamp⟩ :: s.evLog).take 256 }

/-- A notice raised (04 R147): its bit sets in every port's notice set; on MB it sets MBX_NOTICE and MBX_EVT.NOTICE; an
event record is written, once for each raise. -/
def Hw.notice (s : Hw) (k d0 d1 : Nat) : Hw :=
  let s := { s with eng := { s.eng with ports := s.eng.ports.map (fun (p : EPort) => { p with notices := p.notices ||| 2 ^ k }) } }
  let s := (s.wr F.MBX_NOTICE_NOTICES (s.rd F.MBX_NOTICE_NOTICES ||| 2 ^ k)).raiseBit bMBX 1
  s.event k 0xFF d0 d1 0

/-- The decode or ECC address for a recovery record: where a log holds an error of the unit, otherwise 0. -/
def Hw.errAddrOfMaster (s : Hw) (m : Nat) : Nat :=
  if s.rdB F.MTX_DERRINFO_VALID && s.rd F.MTX_DERRINFO_MASTER = m then s.rd F.MTX_DERRADDR_ADDR else 0
def Hw.errAddrOfBank (s : Hw) (b : Nat) : Nat :=
  if s.rdB F.MTX_ECCINFO_VALID && s.rd F.MTX_ECCINFO_BANK = b then s.rd F.MTX_ECCADDR_ADDR else 0

/-! ## Pennant faults (12 R430 to R433) -/

/-- PENN_ALARM as the ball is driven: high during a reset's start checks, low in DEEP, else high while a cause is latched
(12 R433). -/
def Hw.pennAlarm (s : Hw) : Bool :=
  if s.rd F.SYS_STATE_STATE = 0 then false
  else s.pwr.starting || s.pen.cause != 0

/-- A fault of a kind 1..7, or 8 for the AVAS path (CAUSE bit 7): its CAUSE bit, the first fault's record, the notices of
R432 and PEN_EVT.ALARM. -/
def Hw.penFault (s : Hw) (kind cell watch : Nat) : Hw :=
  if bit s.pen.cause (kind - 1) then s
  else
    let p := s.pen
    let first := if p.cause = 0 then (kind, cell, watch, s.rd F.PEN_FCOUNT_F)
      else (p.recKind, p.recCell, p.recWatch, p.recF)
    let s := { s with pen := { p with cause := p.cause ||| 2 ^ (kind - 1), recKind := first.1, recCell := first.2.1,
                                      recWatch := first.2.2.1, recF := first.2.2.2 } }
    let s := if kind ≤ 5 then s.notice 0 kind cell else if kind = 6 then s.notice 1 kind cell else s
    (s.notice 2 kind cell).raiseBit bPEN 6

end Sys2Proof.Machine
end

