-- ==== Sys2Proof/Machine/VaranCore.lean ====
section
/-! DEFINITION. Varan's condition units, sequencers and triggers (16 R536 to R540, R544, R560), bunting requests (17 R588),
TRIG balls, and the outcome of a command that changes only what the device holds: Varan sees what the command's cycle
raised. -/

namespace Sys2Proof.Machine

open Sys2Proof

/-! ## System time (16 R534, 17 R581) -/

/-- System time, in 10 ns ticks. -/
def Hw.sysTime (s : Hw) : Nat := s.rd F.BRG_STIMELO_COUNT + 2 ^ 32 * s.rd F.BRG_STIMEHI_COUNT

/-- System time set. -/
def Hw.setSysTime (s : Hw) (t : Nat) : Hw := (s.wr F.BRG_STIMELO_COUNT t).wr F.BRG_STIMEHI_COUNT (t / 2 ^ 32)

/-! ## Link policy and bunting requests (17 R588, R593) -/

/-- Byte `i` of the link policy record. -/
def Hw.policyByte (s : Hw) (i : Nat) : Nat :=
  if i < 4 then byteAt (leBytes 4 (s.rd F.BRG_POLICY_BYTES)) i else byteAt (leBytes 4 (s.rd F.BRG_POLICY1_BYTES)) (i - 4)

/-- A port is UP. -/
def Hw.portUp (s : Hw) (p : Nat) : Bool := s.rd F.BRG_P_STAT_STATE p = 3

/-- A bunting request on a line now (R588): admitted it waits for superframes of every UP port; refused only the local
event lands. Answers whether it was admitted. -/
def Hw.buntRequest (s : Hw) (line : Nat) : Hw × Bool :=
  let tick := s.sysTime + s.rd F.BRG_TIMING_BLAT
  let ok := bit (s.policyByte 1) line && s.rd F.BRG_STAT_ID ≠ 0xFF && s.brg.bq.length < 8
  let s := { s with brg := { s.brg with
    landing := if s.brg.landing.any (fun e => e.1 = line && e.2.1 = tick) then s.brg.landing
      else s.brg.landing ++ [(line, tick, false)]
    bq := if ok then s.brg.bq ++ [(line, tick, (List.range 2).filter s.portUp)] else s.brg.bq } }
  let s := s.wr F.BRG_BLAST_TICK tick
  (if ok then s else s.inc F.BRG_BCNT_DROP, ok)

/-! ## TRIG balls (16 R560, 17 R590): GPA4 and GPA5 -/

/-- TRIG ball `i` driven high by an owner (5 VARAN, 4 LINK), if that owner's function reaches its pin and it is not already
high. -/
def Hw.trigDrive (s : Hw) (i own : Nat) : Hw :=
  if s.owner (4 + i) = own && s.fnActive (4 + i) && !s.var.pulse.getD i false then
    { s.setFn (4 + i) true true with var := { s.var with pulse := s.var.pulse.set i true } }
  else s

/-! ## Streams: what the registers taken at START say (16 R541) -/

/-- Stream `k`. -/
def Hw.stream (s : Hw) (k : Nat) : VStream := s.var.streams.getD k VStream.reset

/-- Stream `k` changed. -/
def Hw.modStream (s : Hw) (k : Nat) (f : VStream → VStream) : Hw :=
  { s with var := { s.var with streams := modAt s.var.streams k f } }

/-- Bits of a register taken at START, by its offset from VAR_SCFGs. -/
def VStream.cfgBits (v : VStream) (off hi lo : Nat) : Nat := getBits (v.cfg.getD (off / 4) 0#32) hi lo

def VStream.src (v : VStream) : Nat := v.cfgBits 0 2 0
def VStream.streamMode (v : VStream) : Bool := v.cfgBits 0 3 3 = 1

/-- A stream runs: ARMED, POST or STREAM. -/
def Hw.streamRuns (s : Hw) (k : Nat) : Bool :=
  let p := s.rd F.VAR_SSTAT_PHASE k
  p = 1 || p = 2 || p = 4

/-- A record staged behind the stream's FIFO. -/
def Hw.stage (s : Hw) (k : Nat) (r : VRec) : Hw := s.modStream k (fun v => { v with staged := v.staged ++ [r] })

/-! ## Triggers (16 R540, R544, R545, R560) -/

/-- The state of a stream that takes a trigger at a time: ARMED goes to POST; the record that an event stream makes of it. -/
def Hw.trigTake (s : Hw) (k t : Nat) (own : Bool) : Hw :=
  let p := s.rd F.VAR_SSTAT_PHASE k
  let v := s.stream k
  let s := s.modStream k (fun v => { v with ttrig := v.ttrig ++ [t] })
  let s := if p = 1 then s.wr F.VAR_SSTAT_PHASE 2 k else s
  if v.src = 4 && !own then s.stage k ⟨4, [t], [], 0, 0, 0, true⟩ else s

/-- A stream's cross-device trigger: a bunting request, whose refusal sets EVT bit 16. -/
def Hw.trigLink (s : Hw) (k : Nat) : Hw :=
  if s.rdB F.VAR_SXTRIG_BEN k then
    let r := s.buntRequest (s.rd F.VAR_SXTRIG_BLINE k)
    if r.2 then r.1 else r.1.raiseBit bVAR 16
  else s

/-- A stream's trigger outputs on the TRIG balls. -/
def Hw.trigBalls (s : Hw) (k : Nat) : Hw :=
  let s := if s.rdB F.VAR_SXTRIG_T0EN k then s.trigDrive 0 5 else s
  if s.rdB F.VAR_SXTRIG_T1EN k then s.trigDrive 1 5 else s

/-- A stream takes a trigger at a time: ARMED goes to POST, STREAM stays, POST and DONE ignore it; TRIGs sets and the
stream's cross-device trigger is sent. `own` tells that an event record of the occurrence is staged. -/
def Hw.trigger (s : Hw) (k t : Nat) (own : Bool) : Hw :=
  let p := s.rd F.VAR_SSTAT_PHASE k
  if p = 1 || p = 4 then (((s.trigTake k t own).raiseBit bVAR (4 + k)).trigLink k).trigBalls k else s

/-! ## Sequencers (16 R538, R539) -/

/-- The combined condition of a sequencer state, with the units' truth. -/
def seqCond (w : Nat) (u : List Bool) : Bool :=
  let g := bitsOf 4 (bits w 3 0)
  if g.isEmpty then false
  else if bit w 4 then g.all (fun i => u.getD i false) else g.any (fun i => u.getD i false)

/-- A unit of a state's RMASK is true. -/
def seqReset (w : Nat) (u : List Bool) : Bool := (bitsOf 4 (bits w 15 12)).any (fun i => u.getD i false)

/-- A cycle of stream `k`'s sequencer: `was` and `now` the units' truth in the cycle before and in this one, `after` their
truth in the next. -/
def Hw.sequence (s : Hw) (k : Nat) (was now after : List Bool) (t : Nat) (own : Bool) : Hw :=
  if !s.streamRuns k then s
  else
    let st := s.rd F.VAR_SSTAT_SEQ k
    let w := ((s.stream k).cfg.getD (12 + st) 0#32).toNat
    let goto := fun (s : Hw) (n : Nat) => (s.wr F.VAR_SSTAT_SEQ n k).wr F.VAR_SSEQCNT_COUNT 0 k
    let settle := fun (s : Hw) =>
      let w := ((s.stream k).cfg.getD (12 + s.rd F.VAR_SSTAT_SEQ k) 0#32).toNat
      if seqReset w after then goto s 0 else s
    if seqReset w now then settle (goto s 0)
    else if seqCond w now && !seqCond w was then
      let n := s.rd F.VAR_SSEQCNT_COUNT k + 1
      if max 1 (bits w 31 16) ≤ n then
        if 4 ≤ bits w 10 8 then settle ((goto s 0).trigger k t own) else settle (goto s (bits w 10 8))
      else settle (s.wr F.VAR_SSEQCNT_COUNT n k)
    else s

/-! ## A cycle of the condition units (16 R536) -/

/-- One cycle: `lv` the levels of the units from this cycle on, `edge` the units true in this cycle alone, `lines` the
bunting lines with an event, `t` the time of the occurrence, `input` the inputs of the units. -/
def Hw.varCycle (s : Hw) (lv : List Bool) (edge : List Nat) (lines t : Nat) (input : List Nat) : Hw :=
  if !s.on 39 then s
  else
    let was := s.var.level
    let now := (List.range 4).map (fun u => lv.getD u false || edge.contains u)
    let s := { s with var := { s.var with level := lv } }
    let rose := (List.range 4).filter (fun u => now.getD u false && !was.getD u false)
    let s := s.raise bVAR (ofBits (rose.map (· + 8)))
    foldUp (fun s k =>
      let v := s.stream k
      let mask := v.cfgBits 4 15 0
      let hitU := rose.filter (fun u => bit mask u)
      let hitL := bits mask 15 8 &&& lines
      let own := s.streamRuns k && v.src = 4 && (!hitU.isEmpty || hitL ≠ 0)
      let s := if own then
          s.stage k ⟨4, [t], [], ofBits ((List.range 4).filter (fun u => now.getD u false)) + 256 * lines,
            (match hitU with | u :: _ => input.getD u 0 | [] => 0), 0, false⟩
        else s
      s.sequence k was now lv t own) 0 4 s

/-- The inputs of the units as AUX1 of an event record shows them: the word G of a GPIO unit, 0 where nothing else is
given by the event. -/
def noInput : List Nat := [0, 0, 0, 0]

/-- A unit's configuration. -/
def Hw.cuKind (s : Hw) (u : Nat) : Nat := s.rd F.VAR_CU_CFG_KIND u
def Hw.cuOp (s : Hw) (u : Nat) : Nat := s.rd F.VAR_CU_CFG_OP u
def Hw.cuSel (s : Hw) (u : Nat) : Nat := s.rd F.VAR_CU_CFG_SEL u

/-- Levels of units whose kind is not `kind` stay; a unit that is no longer of a level kind is not true. -/
def Hw.keepLevel (s : Hw) (u : Nat) : Bool :=
  s.var.level.getD u false && (s.cuKind u = 1 && s.cuOp u ≤ 1 || s.cuKind u = 2 && s.cuOp u ≤ 5)

/-- Scalars take new values in one cycle, each with its SEL code, its old and its new value: every VALUE unit on one of
them (16 R536, R537). -/
def Hw.varScalars (s : Hw) (l : List (Nat × Int × Int)) : Hw :=
  let upd := fun u => if s.cuKind u = 2 then l.find? (fun e => e.1 = s.cuSel u) else none
  if (List.range 4).all (fun u => (upd u).isNone) then s
  else
    let a := fun u => sx 32 (s.rd F.VAR_CU_A u)
    let b := fun u => sx 32 (s.rd F.VAR_CU_B u)
    let inside := fun u (x : Int) => decide (a u ≤ x) && decide (x ≤ b u)
    let lv := (List.range 4).map (fun u =>
      match upd u with
      | some (_, _, new) =>
        match s.cuOp u with
        | 0 => decide (new = a u)
        | 1 => decide (new ≠ a u)
        | 2 => decide (a u < new)
        | 3 => decide (new < a u)
        | 4 => inside u new
        | 5 => !inside u new
        | _ => false
      | none => s.keepLevel u)
    let edge := (List.range 4).filter (fun u =>
      match upd u with
      | some (_, old, new) =>
        (s.cuOp u = 6 && inside u new && !inside u old) || (s.cuOp u = 7 && !inside u new && inside u old)
      | none => false)
    s.varCycle lv edge 0 s.sysTime ((List.range 4).map (fun u => match upd u with | some e => ux 32 e.2.2 | none => 0))

/-- The word G of a GPIO unit over pin levels. -/
def gpioWord (pins : List Bool) (pbase : Nat) : Nat :=
  ofBits ((List.range 32).filter (fun b => pins.getD (8 * min pbase 11 + b) false))

/-- A tick of the GPIO sample clock: GPIO units see the pins' levels (16 R536, R533). -/
def Hw.varGpio (s : Hw) : Hw :=
  let pins := (List.range 96).map s.pinIn
  let was := s.var.pins
  let hit := (List.range 4).filter (fun u => s.cuKind u = 1)
  let g := fun u => gpioWord pins (s.rd F.VAR_CU_CFG_PBASE u)
  let g0 := fun u => gpioWord was (s.rd F.VAR_CU_CFG_PBASE u)
  let m := fun u => s.rd F.VAR_CU_MASK u
  let lv := (List.range 4).map (fun u =>
    if hit.contains u then
      match s.cuOp u with
      | 0 => decide (g u &&& m u = s.rd F.VAR_CU_A u)
      | 1 => decide (g u &&& m u ≠ s.rd F.VAR_CU_A u)
      | _ => false
    else s.keepLevel u)
  if pins = was && lv = s.var.level then s
  else
    let s := { s with var := { s.var with pins := pins } }
    if hit.isEmpty && lv = s.var.level then s
    else
      let rose := fun u => g u &&& m u &&& (g u ^^^ g0 u) != 0
      let fell := fun u => g0 u &&& m u &&& (g u ^^^ g0 u) != 0
      let edge := hit.filter (fun u =>
        (s.cuOp u = 2 && rose u) || (s.cuOp u = 3 && fell u) || (s.cuOp u = 4 && (rose u || fell u)))
      s.varCycle lv edge 0 s.sysTime ((List.range 4).map (fun u => if hit.contains u then g u else 0))

/-- Events land on bunting lines (16 R561). -/
def Hw.varBunting (s : Hw) (lines t : Nat) : Hw :=
  s.varCycle ((List.range 4).map s.keepLevel)
    ((List.range 4).filter (fun u => s.cuKind u = 4 && bit lines (s.cuSel u % 8))) lines t noInput

/-- An edge on TRIG0 or TRIG1 (16 R536). -/
def Hw.varTrigin (s : Hw) (i : Nat) (rising : Bool) : Hw :=
  s.varCycle ((List.range 4).map s.keepLevel)
    ((List.range 4).filter (fun u => s.cuKind u = 5 && s.cuSel u % 2 = i
      && (s.cuOp u = 4 || s.cuOp u = (if rising then 2 else 3)))) 0 s.sysTime noInput

/-! ## Outcomes -/

/-- EVENT units take the EVT bits that hardware set; what Varan itself raises there is taken in the cycles that follow. -/
def Hw.varSettle : Nat → Hw → Hw
  | 0, s => s
  | n + 1, s =>
    if s.varPulse = [] then s
    else
      let p := s.varPulse
      Hw.varSettle n (({ s with varPulse := [] } : Hw).varCycle ((List.range 4).map s.keepLevel) p 0 s.sysTime noInput)

/-- A meaning that changes only what the device holds, in a register cycle of its own: put-off increments are applied
at its end (02 R43), and EVENT units see what it raised. -/
def State.onHw (s : State) (f : Hw → Hw) : Host.Outcome State Fault Refusal :=
  .next { s with hw := (f s.hw).settleCi.varSettle 4 }

/-- The debugger issues no request: vendor debug access is closed (01 R21). -/
def Hw.silent (s : Hw) (m : Nat) : Bool := m = 11 && !s.rdB F.NVS_STAT_DEBUG

/-- A master's access can reach a register: a matrix path exists (03 R713), the map gives the master one to the peripheral
bus (01 R19), and it issues requests. -/
def Hw.reaches (s : Hw) (m : Nat) : Bool := s.on 21 && [1, 2, 9, 11].contains m && !s.silent m

/-- A master's register access: nothing where it reaches no register. -/
def State.byMaster (s : State) (m : Nat) (f : Hw → Hw) : Host.Outcome State Fault Refusal :=
  s.onHw fun h => if h.reaches m then f h else h

end Sys2Proof.Machine
end

