-- ==== Sys2Proof/Machine/Pennant.lean ====
section
/-! DEFINITION. The pennant plane: descriptors, shown images, references, the latch (12 R407 to R425), and the signal table
(12 R416 to R419). -/

namespace Sys2Proof.Machine

open Sys2Proof

/-! ## The descriptor (12 R413) -/

/-- Cell `k`. -/
def Hw.cell (s : Hw) (k : Nat) : PenCell := s.pen.cells.getD k PenCell.reset

/-- Cell `k` changed. -/
def Hw.modCell (s : Hw) (k : Nat) (f : PenCell → PenCell) : Hw :=
  { s with pen := { s.pen with cells := modAt s.pen.cells k f } }

/-- Fields of a descriptor of four words. -/
def dY (d : List Nat) : Nat := bits (d.getD 0 0) 27 16
def dX (d : List Nat) : Nat := bits (d.getD 0 0) 11 0
def dI4 (d : List Nat) : Bool := bit (d.getD 1 0) 31
def dPsub (d : List Nat) : Nat := bits (d.getD 1 0) 27 24
def dH (d : List Nat) : Nat := bits (d.getD 1 0) 23 16 + 1
def dW (d : List Nat) : Nat := bits (d.getD 1 0) 8 0 + 1
def dImgB (d : List Nat) : Nat := bits (d.getD 2 0) 30 16 * 16
def dImgA (d : List Nat) : Nat := bits (d.getD 2 0) 14 0 * 16
def dArg (d : List Nat) : Nat := bits (d.getD 3 0) 31 26
def dRule (d : List Nat) : Nat := bits (d.getD 3 0) 25 23
def dSig (d : List Nat) : Nat := bits (d.getD 3 0) 22 18
def dMode (d : List Nat) : Nat := bits (d.getD 3 0) 17 16
def dDuty (d : List Nat) : Nat := bits (d.getD 3 0) 15 8
def dPeriod (d : List Nat) : Nat := bits (d.getD 3 0) 7 0

/-- Bits per pixel, row pitch in bytes, and the image stride S (12 R407). -/
def dDepth (d : List Nat) : Nat := if dI4 d then 4 else 8
def dPitch (d : List Nat) : Nat := dW d * dDepth d / 8
def dStride (d : List Nat) : Nat := cdiv (dW d * dH d * dDepth d / 8) 16 * 16

/-- The store offsets of a cell's possible states, in order: images A and B; or the INDEX images; or the ten DIGIT images
and image B (12 R415). -/
def dStates (d : List Nat) : List Nat :=
  if dMode d = 3 && dRule d = 2 then (List.range (dArg d % 16 + 1)).map (fun n => dImgA d + n * dStride d)
  else if dMode d = 3 && dRule d = 3 then (List.range 10).map (fun n => dImgA d + n * dStride d) ++ [dImgB d]
  else [dImgA d, dImgB d]

/-- The states that a descriptor can show: STEADY cells show one image (12 R414, R415). -/
def dShowable (d : List Nat) : List Nat :=
  match dMode d with
  | 0 => [dImgA d]
  | 1 => [dImgB d]
  | 3 => if dRule d = 3 && !(bit (dArg d) 3 && dArg d % 8 ≠ 0) then (dStates d).take 10 else dStates d
  | _ => dStates d

/-- Blink-on: (F mod PERIOD) < DUTY. -/
def blinkOn (d : List Nat) (f : Nat) : Bool := decide (f % dPeriod d < dDuty d)

/-- The index, among the states, of the image that a descriptor shows for frame count `f` and signal value `v`
(12 R415). -/
def dShown (d : List Nat) (f : Nat) (v : Int) : Nat :=
  match dMode d with
  | 0 => 0
  | 1 => 1
  | 2 => if blinkOn d f then 0 else 1
  | _ =>
    match dRule d with
    | 0 => if v ≠ 0 then 0 else 1
    | 1 => if v ≠ 0 && blinkOn d f then 0 else 1
    | 2 => (clampI 0 (dArg d % 16 : Nat) v).toNat
    | _ =>
      let k := dArg d % 8
      if bit (dArg d) 3 && 0 < k && v.natAbs < 10 ^ k then 10 else v.natAbs / 10 ^ k % 10

/-! ## Palette, pixels and references (12 R408, R409, R424, R425) -/

/-- A palette entry: 24 bits red, green, blue. -/
def palEntry (p : List (Nat × Nat)) (i : Nat) : Nat := Store.get (fun _ => 0) p i

/-- The palette index of pixel (x, y) of an image at a store offset (12 R407, R408; packing of I4 as 10 R345: the left
pixel in the low bits). -/
def Hw.penIndex (s : Hw) (d : List Nat) (off x y : Nat) : Nat :=
  let b := s.byte (0x01000000 + off + y * dPitch d + x * dDepth d / 8)
  if dI4 d then dPsub d * 16 + (if x % 2 = 0 then b.toNat % 16 else b.toNat / 16) else b.toNat

/-- The CRC-32 over the pixels of an image through a palette, each pixel red, green, blue (12 R424, R425). -/
def Hw.penImageCrc (s : Hw) (d : List Nat) (off : Nat) (pal : List (Nat × Nat)) : Nat :=
  let crc := foldUp (fun c y => foldUp (fun c x =>
      let p := palEntry pal (s.penIndex d off x y)
      crcPixel c p) 0 (dW d) c) 0 (dH d) 0xFFFFFFFF
  crc ^^^ 0xFFFFFFFF
where
  /-- One pixel's three bytes. -/
  crcPixel (c p : Nat) : Nat :=
    [p / 65536, p / 256, p].foldl (fun c b => crcByteLsb 0xEDB88320 c (BitVec.ofNat 8 b)) c

/-- CRC-32 of bytes (12 R425). -/
def crc32 (bs : List Byte) : Nat := bs.foldl (crcByteLsb 0xEDB88320) 0xFFFFFFFF ^^^ 0xFFFFFFFF

/-- The references of a cell's states, through the pending and through the latched palette (12 R421, R425). -/
def Hw.penRefs (s : Hw) (d : List Nat) : List (Nat × Nat) :=
  (dStates d).map (fun off => (s.penImageCrc d off s.pen.palPend, s.penImageCrc d off s.pen.palLat))

/-- The references of a cell are being computed again (12 R421). -/
def Hw.startRefs (s : Hw) (k : Nat) : Hw := s.modCell k (fun c => { c with ready := false })

/-- The store bytes `lo ≤ o < hi` touch an image of one of a descriptor's states. -/
def dTouches (d : List Nat) (lo hi : Nat) : Bool :=
  (dStates d).any (fun off => decide (off < hi) && decide (lo < off + dW d * dH d * dDepth d / 8))

/-- PEN_REF_DONE (12 R421): the reference unit finishes a cell; REFDONE sets when none remains. -/
def Hw.refDone (s : Hw) (k : Nat) : Hw :=
  if s.on 20 && !(s.cell k).ready then
    let s := s.modCell k (fun c => { c with ready := true, refs := s.penRefs c.pend })
    s.raiseIf (s.pen.cells.all (·.ready)) bPEN 5
  else s

/-! ## Checks of the commands' parameters (12 R414, R416) -/

/-- The offset of the first offending byte of a descriptor given as 16 bytes (12 R414), counted from its first byte;
`none` where it is good. -/
def penCellBad (bs : List Byte) : Option Nat :=
  let d := (List.range 4).map (fun i => fieldAt bs (4 * i) 4)
  let zeroBad := (List.range 16).find? (fun i =>
    byteAt bs i &&& ([0x00, 0xF0, 0x00, 0xF0, 0x00, 0xFE, 0x00, 0x70, 0x00, 0x80, 0x00, 0x80, 0, 0, 0, 0].getD i 0) ≠ 0)
  let ruleBad := if 4 ≤ dRule d then some 15 else none
  let widthBad := if dI4 d && dW d % 2 = 1 then some 4 else none
  let blinks := dMode d = 2 || dRule d = 1
  let periodBad := if blinks && dPeriod d < 2 then some 12 else none
  let dutyBad := if blinks && (dDuty d = 0 || dPeriod d ≤ dDuty d) then some 13 else none
  let tooFar := fun off => decide (524288 < off + dW d * dH d * dDepth d / 8)
  let imgBad := if (dShowable d).any tooFar then
      (if tooFar (dImgB d) && (dShowable d).contains (dImgB d) && !((dShowable d).filter (· ≠ dImgB d)).any tooFar
        then some 10 else some 8)
    else none
  ([zeroBad, ruleBad, widthBad, periodBad, dutyBad, imgBad].filterMap id).min?

/-- The offset of the first offending byte of a signal-table record (12 R416). -/
def sigtabBad (bs : List Byte) : Option Nat :=
  let len := byteAt bs 6 % 64
  (List.range 16).find? (fun i =>
    match i with
    | 3 => byteAt bs 3 &&& 0x60 ≠ 0
    | 5 => byteAt bs 5 &&& 0x7E ≠ 0
    | 6 => byteAt bs 6 &&& 0x40 ≠ 0 || len = 0 || 32 < len
    | 7 => byteAt bs 7 &&& 0x80 ≠ 0 || 4 < byteAt bs 7 / 16 % 8 || 3 < byteAt bs 7 % 16
    | 10 => byteAt bs 10 &&& 0xE0 ≠ 0
    | _ => false)

/-! ## The signal table (12 R416 to R419) -/

/-- Record `k` of the signal table. -/
def Hw.sig (s : Hw) (k : Nat) : List Byte := s.pen.sigtab.getD k []

/-- Fields of a record. -/
def sgKind (r : List Byte) : Nat := byteAt r 7 % 16
def sgTimeout (r : List Byte) : Nat := byteAt r 11
def sgDefault (r : List Byte) : Int := sx 16 (fieldAt r 14 2)

/-- The value of entry `k`. -/
def Hw.sigVal (s : Hw) (k : Nat) : Int := sx 32 (s.rd F.PEN_SIGVAL k)

/-- Entry `k` is stale. -/
def Hw.sigStale (s : Hw) (k : Nat) : Bool := bit (s.rd F.PEN_STALE_STALE) k

/-- Entry `k` takes a value and a stale state. -/
def Hw.putSig (s : Hw) (k : Nat) (v : Int) (stale : Bool) : Hw :=
  let st := s.rd F.PEN_STALE_STALE
  (s.wr F.PEN_SIGVAL (ux 32 v) k).wr F.PEN_STALE_STALE
    (if stale then st ||| 2 ^ k else (if bit st k then st - 2 ^ k else st))

/-- Entry `k` takes a value and a stale state in a cycle; VALUE units on it see the update (16 R537). -/
def Hw.setSig (s : Hw) (k : Nat) (v : Int) (stale : Bool) : Hw := (s.putSig k v stale).varScalars [(k, s.sigVal k, v)]

/-- An entry written: it holds DEFAULT with STALE until its first matching frame (12 R418). -/
def Hw.writeSig (s : Hw) (k : Nat) (r : List Byte) : Hw :=
  let s := { s with pen := { s.pen with sigtab := s.pen.sigtab.set k r, sigCopy := s.pen.sigCopy.set k r } }
  s.setSig k (sgDefault r) true

/-- The positions of a signal's bits, least significant first (12 R416): upward from START, or with ORDER = 1 upward
through bit 7 of a byte and then from bit 0 of the byte before; `none` where they run off the front. -/
def sigPositions (order : Bool) : Nat → Nat → Option (List Nat)
  | 0, _ => some []
  | n + 1, p =>
    let next : Option Nat :=
      if !order || p % 8 ≠ 7 then some (p + 1) else if 15 ≤ p then some (p - 15) else none
    match n, next with
    | 0, _ => some [p]
    | _, none => none
    | _, some q => (sigPositions order n q).map (fun l => p :: l)

/-- The raw bits of a signal in a frame's data; `none` where the data is too short to hold the whole signal. -/
def sigRaw (r : List Byte) (data : List Byte) : Option Nat :=
  match sigPositions (bit (fieldAt r 4 2) 15) (byteAt r 6 % 64) (fieldAt r 4 2 % 512) with
  | none => none
  | some ps =>
    if ps.all (fun p => decide (p / 8 < data.length)) then
      some (ps.foldr (fun p n => b2n (bit (byteAt data (p / 8)) (p % 8)) + 2 * n) 0)
    else none

/-- The value an entry takes from a frame (12 R417): raw × MUL >> SHIFT, saturated to 32 bits, then its condition. -/
def sigCompute (r : List Byte) (raw : Nat) : Int :=
  let len := byteAt r 6 % 64
  let i : Int := if bit (byteAt r 6) 7 then sx len raw else (raw : Int)
  let v := satS 32 (sarI (i * sx 16 (fieldAt r 8 2)) (byteAt r 10 % 32))
  let ref := sx 16 (fieldAt r 12 2)
  match byteAt r 7 / 16 % 8 with
  | 1 => if v = ref then 1 else 0
  | 2 => if v ≠ ref then 1 else 0
  | 3 => if ref ≤ v then 1 else 0
  | 4 => if v < ref then 1 else 0
  | _ => v

/-- An entry matches a frame (12 R417): KIND not 0, IDE and ID equal. An 11-bit identifier stands in bits 10..0 of the
record's ID (log 12). -/
def sigMatches (r : List Byte) (f : CanFrame) : Bool :=
  sgKind r ≠ 0 && bit (fieldAt r 0 4) 31 == f.ide && fieldAt r 0 4 % 2 ^ 29 == f.id

/-- SIGNAL_TABLE_UPDATE (12 R417): every entry that matches a received frame, in one cycle. A remote frame holds no data. -/
def Hw.sigUpdate (s : Hw) (f : CanFrame) : Hw :=
  let taken := fun (k : Nat) =>
    if sigMatches (s.sig k) f then (sigRaw (s.sig k) (if f.rtr then [] else f.data)).map (sigCompute (s.sig k)) else none
  let t := foldUp (fun t k =>
    match taken k with
    | some v => t.putSig k v false
    | none => if sigMatches (s.sig k) f then t.wr F.PEN_SIGSTAT_SHORT (satU 32 (t.rd F.PEN_SIGSTAT_SHORT + 1)) else t) 0 32 s
  t.varScalars ((List.range 32).filterMap (fun k => (taken k).map (fun v => (k, s.sigVal k, v))))

/-- SIGNAL_TIMEOUT (12 R418): an entry with a TIMEOUT takes DEFAULT, STALE and PEN_EVT.SIGSTALE. -/
def Hw.sigTimeout (s : Hw) (k : Nat) : Hw :=
  let r := s.sig k
  if s.on 43 && sgKind r ≠ 0 && sgTimeout r ≠ 0 then (s.setSig k (sgDefault r) true).raiseBit bPEN 3 else s

/-- The lowest-numbered entry of a kind (12 R419). -/
def Hw.sigOfKind (s : Hw) (kind : Nat) : Option Nat := (List.range 32).find? (fun k => sgKind (s.sig k) = kind)

/-! ## The pennant latch (12 R422) -/

/-- PENNANT_LATCH: F increments; cells with ready references take their pending descriptor and enable, the others wait; the
palette is latched if every enabled cell's references are ready; the mode is latched; each enabled cell's shown image is
fixed. Signals and F are taken as they stood at the start of the cycle (log 11). -/
def Hw.pennantLatch (s : Hw) : Hw :=
  if !s.on 20 then s
  else
    let f := s.rd F.PEN_FCOUNT_F
    let cells := s.pen.cells.map (fun c =>
      if c.ready then { c with lat := c.pend, latEn := c.penEn, latRefs := c.refs, since := if c.latEn then c.since else s.cycle }
      else c)
    let wait := (List.range 64).filter (fun k => !(s.cell k).ready)
    let palOk := cells.all (fun c => !c.latEn || c.ready)
    let cells := if palOk then
        cells.map (fun c => { c with latRefs := c.latRefs.map (fun r => (r.1, r.1)), refs := c.refs.map (fun r => (r.1, r.1)) })
      else cells
    let cells := cells.map (fun c => if c.latEn then { c with shown := dShown c.lat f (s.sigVal (dSig c.lat)) } else c)
    let sigs := (List.range 32).map (fun k => s.rd F.PEN_SIGVAL k)
    let ages := (List.range 32).map (fun k =>
      if sigs.getD k 0 ≠ s.pen.sigPrev.getD k 0 then 0 else min 65535 (s.pen.sigAge.getD k 0 + 1))
    let was := s.pen.modeLat
    let hold := if was && !s.pen.modePend then
        (List.range 4).map (fun w => max (s.pen.frzHold.getD w 0) (byteAt (leBytes 4 (s.rd F.PEN_FRZCFG_1 w)) 0))
      else s.pen.frzHold
    let s := { s with pen := { s.pen with
      cells := cells
      palLat := if palOk then s.pen.palPend else s.pen.palLat
      modeLat := s.pen.modePend
      sigAge := ages
      sigPrev := sigs
      frzHold := hold } }
    let s := s.wr F.PEN_FCOUNT_F (f + 1)
    let s := (s.wr F.PEN_WAIT (ofBits (wait.filter (· < 32))) 0).wr F.PEN_WAIT
      (ofBits ((wait.filter (fun k => 32 ≤ k)).map (· - 32))) 1
    s.raiseBit bPEN 4

/-- The pennant pixel at (x, y) of the active area: the lowest-numbered enabled latched cell that covers it and lies wholly
in the active area (12 R411, R412); `none` where no cell covers it. -/
def Hw.pennantPixel (s : Hw) (hact vact x y : Nat) : Option Nat :=
  (s.pen.cells.find? (fun c => c.latEn && dX c.lat ≤ x && x < dX c.lat + dW c.lat && dY c.lat ≤ y
      && y < dY c.lat + dH c.lat && dX c.lat + dW c.lat ≤ hact && dY c.lat + dH c.lat ≤ vact)).map (fun c =>
    palEntry s.pen.palLat (s.penIndex c.lat ((dStates c.lat).getD c.shown 0) (x - dX c.lat) (y - dY c.lat)))

/-- The picture after the pennant merge (12 R411, R435): a cell's pixel; else palette entry 0 in pennant-only mode, else
what the output line buffer holds. -/
def Hw.mergePixel (s : Hw) (hact vact x y under : Nat) : Nat :=
  match s.pennantPixel hact vact x y with
  | some p => p
  | none => if s.pen.modeLat then palEntry s.pen.palLat 0 else under

/-! ## Meanings -/

/-- PEN_REF_DONE. -/
def execPenRefDone (cell : Fin 64) (s : State) : Host.Outcome State Fault Refusal :=
  s.onHw fun h => h.refDone cell

/-- SIGNAL_TIMEOUT. -/
def execSignalTimeout (entry : Fin 32) (s : State) : Host.Outcome State Fault Refusal :=
  s.onHw fun h => h.sigTimeout entry

/-- PENNANT_GAP_TIMEOUT (12 R431): a cell enabled at the latch whose check is overdue raises GAP, while PD20 is on. -/
def execPennantGapTimeout (cell : Fin 64) (s : State) : Host.Outcome State Fault Refusal :=
  s.onHw fun h => if h.on 20 && (h.cell cell).latEn then (h.penFault 5 cell 0xFF).raiseBit bPEN 2 else h

end Sys2Proof.Machine
end

