-- ==== Sys2Proof/Machine/Tables.lean ====
section
/-! DEFINITION. Tables that the spec gives by a formula or by name: the pan gains (14 R485), the IMA ADPCM step and index
tables (14 R480), sine and arctangent constants (08 R296). -/

namespace Sys2Proof.Machine

/-- The left gain of pan 0..256: round(32,767 × cos(π × PAN / 512)): part 1. -/
def panTableA : List Nat :=
  [32767, 32766, 32765, 32761, 32757, 32752, 32745, 32737, 32728, 32717, 32705, 32692,
    32678, 32663, 32646, 32628, 32609, 32589, 32567, 32545, 32521, 32495, 32469, 32441,
    32412, 32382, 32351, 32318, 32285, 32250, 32213, 32176, 32137, 32098, 32057, 32014,
    31971, 31926, 31880, 31833, 31785, 31736, 31685, 31633, 31580, 31526, 31470, 31414,
    31356, 31297, 31237, 31176, 31113, 31050, 30985, 30919, 30852, 30783, 30714, 30643,
    30571, 30498, 30424, 30349]
/-- The left gain of pan 0..256: round(32,767 × cos(π × PAN / 512)): part 2. -/
def panTableB : List Nat :=
  [30273, 30195, 30117, 30037, 29956, 29874, 29791, 29706, 29621, 29534, 29447, 29358,
    29268, 29177, 29085, 28992, 28898, 28803, 28706, 28609, 28510, 28411, 28310, 28208,
    28105, 28001, 27896, 27790, 27683, 27575, 27466, 27356, 27245, 27133, 27019, 26905,
    26790, 26674, 26556, 26438, 26319, 26198, 26077, 25955, 25832, 25708, 25582, 25456,
    25329, 25201, 25072, 24942, 24811, 24680, 24547, 24413, 24279, 24143, 24007, 23870,
    23731, 23592, 23452, 23311]
/-- The left gain of pan 0..256: round(32,767 × cos(π × PAN / 512)): part 3. -/
def panTableC : List Nat :=
  [23170, 23027, 22884, 22739, 22594, 22448, 22301, 22154, 22005, 21856, 21705, 21554,
    21403, 21250, 21096, 20942, 20787, 20631, 20475, 20317, 20159, 20000, 19841, 19680,
    19519, 19357, 19195, 19032, 18868, 18703, 18537, 18371, 18204, 18037, 17869, 17700,
    17530, 17360, 17189, 17018, 16846, 16673, 16499, 16325, 16151, 15976, 15800, 15623,
    15446, 15269, 15090, 14912, 14732, 14553, 14372, 14191, 14010, 13828, 13645, 13462,
    13279, 13094, 12910, 12725]
/-- The left gain of pan 0..256: round(32,767 × cos(π × PAN / 512)): part 4. -/
def panTableD : List Nat :=
  [12539, 12353, 12167, 11980, 11793, 11605, 11417, 11228, 11039, 10849, 10659, 10469,
    10278, 10087, 9896, 9704, 9512, 9319, 9126, 8933, 8739, 8545, 8351, 8157,
    7962, 7767, 7571, 7375, 7179, 6983, 6786, 6590, 6393, 6195, 5998, 5800,
    5602, 5404, 5205, 5007, 4808, 4609, 4410, 4210, 4011, 3811, 3612, 3412,
    3212, 3012, 2811, 2611, 2410, 2210, 2009, 1809, 1608, 1407, 1206, 1005,
    804, 603, 402, 201]
/-- The left gain of pan 0..256: round(32,767 × cos(π × PAN / 512)): part 5. -/
def panTableE : List Nat :=
  [0]
/-- The left gain of pan 0..256: round(32,767 × cos(π × PAN / 512)). -/
def panTable : List Nat := panTableA ++ panTableB ++ panTableC ++ panTableD ++ panTableE

/-- The step sizes of IMA ADPCM: part 1. -/
def imaStepsA : List Nat :=
  [7, 8, 9, 10, 11, 12, 13, 14, 16, 17, 19, 21,
    23, 25, 28, 31, 34, 37, 41, 45, 50, 55, 60, 66,
    73, 80, 88, 97, 107, 118, 130, 143, 157, 173, 190, 209,
    230, 253, 279, 307, 337, 371, 408, 449, 494, 544, 598, 658,
    724, 796, 876, 963, 1060, 1166, 1282, 1411, 1552, 1707, 1878, 2066,
    2272, 2499, 2749, 3024]
/-- The step sizes of IMA ADPCM: part 2. -/
def imaStepsB : List Nat :=
  [3327, 3660, 4026, 4428, 4871, 5358, 5894, 6484, 7132, 7845, 8630, 9493,
    10442, 11487, 12635, 13899, 15289, 16818, 18500, 20350, 22385, 24623, 27086, 29794,
    32767]
/-- The step sizes of IMA ADPCM. -/
def imaSteps : List Nat := imaStepsA ++ imaStepsB

/-- The step index changes of IMA ADPCM, by the low three bits of a code. -/
def imaIndex : List Int := [-1, -1, -1, -1, 2, 4, 6, 8]

end Sys2Proof.Machine
end

