-- ==== Sys2Proof/Machine/Voices.lean ====
section
/-! DEFINITION. The voice engine, the stream-buffer pool and the pennant voices (14 R472 to R504). -/

namespace Sys2Proof.Machine

open Sys2Proof

/-! ## Credits of the ledger's consumers (06 R204, R206) -/

/-- The active reservation of consumer `k`. -/
def Hw.actLu (s : Hw) (k : Nat) : Nat :=
  if k = 14 then s.rd F.LDG_ACT_PEN_LU else if k = 15 then s.rd F.LDG_ACT_PVOC_LU else s.rd F.LDG_ACT_LU (k - 1)

/-- Consumer `k` spends `n` credits on a request; without them the request is issued at NORMAL class and counted. A consumer
without a reservation has no credits to spend. -/
def Hw.useCredit (s : Hw) (k n : Nat) : Hw :=
  if s.actLu k = 0 then s
  else
    let c := s.rd F.LDG_CRED_CREDIT (k - 1)
    if n ≤ c then s.wr F.LDG_CRED_CREDIT (c - n) (k - 1) else (s.inc F.LDG_CRED_DEMOTE 1 (k - 1)).raiseBit bLDG 6

/-! ## Integer forms -/

/-- `a` divided by `b`, truncating toward zero. -/
def tdivI (a : Int) (b : Nat) : Int := if a < 0 then -((-a) / (b : Int)) else a / (b : Int)

/-- Saturation of a sample to 24 bits. -/
def sat24 (i : Int) : Int := clampI (-8388608) 8388607 i

/-- The value of a ramp. -/
def Ramp.val (r : Ramp) : Int := r.old + tdivI ((r.new - r.old) * (r.k : Int)) 32

/-- A ramp at the next boundary, with the value it is to have from there on (14 R486). -/
def Ramp.step (r : Ramp) (target : Int) : Ramp :=
  if target ≠ r.new then ⟨r.val, target, 1⟩ else { r with k := min 32 (r.k + 1) }

/-- The pan gains of R485. -/
def panL (p : Nat) : Int := (panTable.getD (min p 256) 0 : Nat)
def panR (p : Nat) : Int := (panTable.getD (256 - min p 256) 0 : Nat)

/-! ## Descriptors (14 R475, R481) -/

def vdAddr (d : List Nat) : Nat := bits (d.getD 0 0) 23 6 * 64
def vdLoop (d : List Nat) : Nat := bits (d.getD 0 0) 3 2
def vdFmt (d : List Nat) : Nat := bits (d.getD 0 0) 1 0
def vdLength (d : List Nat) : Nat := bits (d.getD 1 0) 23 0
def vdLstart (d : List Nat) : Nat := bits (d.getD 2 0) 23 0
def vdLend (d : List Nat) : Nat := bits (d.getD 3 0) 23 0
def vdAtt (d : List Nat) : Nat := bits (d.getD 4 0) 31 16
def vdSus (d : List Nat) : Nat := bits (d.getD 4 0) 15 0
def vdDec (d : List Nat) : Nat := bits (d.getD 5 0) 31 16
def vdRel (d : List Nat) : Nat := bits (d.getD 5 0) 15 0

/-- Samples in a 64-byte chunk, and twice the bytes of a sample (06 R196). -/
def vdPerChunk (d : List Nat) : Nat := match vdFmt d with | 0 => 64 | 1 => 32 | _ => 120
def vdTwoS (d : List Nat) : Nat := match vdFmt d with | 0 => 2 | 1 => 4 | _ => 1

/-- The six words of a descriptor's bytes. -/
def vdWords (bs : List Byte) : List Nat := (List.range 6).map (fun i => fieldAt bs (4 * i) 4)

/-- The offset of the first byte of a descriptor that breaks R475 or R481. -/
def vdBad (d : List Nat) : Option Nat :=
  let w := fun i => d.getD i 0
  let lp := vdLoop d ≠ 0
  ([if bits (w 0) 5 4 ≠ 0 || vdLoop d = 3 || vdFmt d = 3 then some 0 else none,
    if bits (w 0) 31 24 ≠ 0 then some 3 else none,
    if vdLength d = 0 then some 4 else none,
    if bits (w 1) 31 24 ≠ 0 then some 7 else none,
    if lp && (vdLend d ≤ vdLstart d || (vdFmt d = 2 && vdLstart d % 120 ≠ 0)) then some 8 else none,
    if bits (w 2) 31 24 ≠ 0 then some 11 else none,
    if lp && vdLength d < vdLend d then some 12 else none,
    if bits (w 3) 31 24 ≠ 0 then some 15 else none].filterMap id).min?

/-! ## Voices and buffers -/

/-- Voice `n`. -/
def Hw.voice (s : Hw) (n : Nat) : Voice := Store.get (fun _ => Voice.reset) s.voc.voices n

/-- Voice `n` set. -/
def Hw.setVoice (s : Hw) (n : Nat) (v : Voice) : Hw :=
  { s with voc := { s.voc with voices := Store.put (fun _ => Voice.reset) s.voc.voices n v } }

/-- The domain of a voice (14 R473). -/
def voiceDomain (n : Nat) : Nat := if n < 128 then 34 else if n < 240 then 35 else 36

/-- The address of a stream buffer (05 R152). -/
def bufAddr (n : Nat) : Nat := if n < 1024 then 0x02020000 + 64 * n else 0x02070000 + 64 * (n - 1024)

/-- Stream buffers that voices hold. -/
def Hw.heldBufs (s : Hw) : List Nat := s.voc.voices.flatMap (fun p => p.2.bufs.map (·.num))

/-- The lowest-numbered free shared buffer (14 R488, R490); for a pennant voice, of its eight (14 R497). Which buffer of
the pool is taken, the spec leaves open (log 13). -/
def Hw.freeBuf (s : Hw) (n : Nat) : Option Nat :=
  let held := s.heldBufs
  if n < 240 then (List.range 1920).find? (fun b => !held.contains b)
  else ((List.range 8).map (fun j => 1920 + 8 * (n - 240) + j)).find? (fun b => !held.contains b)

/-- The number of free shared buffers (14 R491), and of reserved buffers that hold no data. -/
def Hw.poolFree (s : Hw) : Nat := 1920 - (s.heldBufs.filter (· < 1920)).length
def Hw.poolPFree (s : Hw) : Nat := 128 - (s.heldBufs.filter (1920 ≤ ·)).length

/-- The loop applies (14 R482). -/
def Voice.loops (v : Voice) (d : List Nat) : Bool := vdLoop d = 1 || (vdLoop d = 2 && v.state ≠ 4)

/-- The next chunk that a voice will play, after sample `i` where its fetched data ends: the chunk's first sample to play,
the end of what it gives, and where the data goes on (14 R488). -/
def vdSegment (d : List Nat) (loops : Bool) (i : Nat) : Nat × Option Nat :=
  let stop := if loops && i < vdLend d then vdLend d else vdLength d
  let hi := min ((i / vdPerChunk d + 1) * vdPerChunk d) stop
  (hi, if loops && hi = vdLend d then some (vdLstart d) else if vdLength d ≤ hi then none else some hi)

/-- Where the sample data of a voice lies: a pennant voice's ADDR is an offset from the pennant sound area (14 R495). -/
def Hw.voiceData (s : Hw) (n : Nat) (d : List Nat) : Nat := if n < 240 then vdAddr d else s.voc.base + vdAddr d

/-- A voice takes a buffer and issues a fetch of the next chunk it will play, if a buffer is free (14 R487, R488, R490). -/
def Hw.voiceFetch (s : Hw) (n : Nat) : Hw :=
  let v := s.voice n
  match v.desc, v.next, s.freeBuf n with
  | some d, some i, some b =>
    let seg := vdSegment d (v.loops d) i
    let chunk := s.voiceData n d + 64 * (i / vdPerChunk d)
    (s.setVoice n { v with bufs := v.bufs ++ [⟨b, chunk, i, seg.1, false, false⟩], next := seg.2 }).useCredit
      (if n < 240 then 10 else 15) 4
  | _, _, _ => s

/-- The bytes fetched and not yet played ahead of the position (14 R488), times 240 to stay whole: an ADPCM chunk's 64
bytes are spread over its 120 samples. -/
def Voice.lead240 (v : Voice) (d : List Nat) : Nat :=
  let per := if vdFmt d = 2 then 128 else 120 * vdTwoS d
  v.bufs.foldl (fun a b => a + (b.hi - (if b.lo ≤ v.pos / 65536 && v.pos / 65536 < b.hi then v.pos / 65536 else b.lo)) * per) 0

/-- The voice's RATIO, clamped (14 R482). -/
def Hw.voiceRatio (s : Hw) (n : Nat) : Nat :=
  let r := if n < 240 || !bit s.voc.map.vmask (n - 240) then s.rdA F.VOC_V_PITCH_RATIO n else s.rd F.VOC_AVASPITCH_RATIO
  min r (if n < 240 then 0x80000 else 0x40000)

/-- The fetch visit of a period (14 R488, R497): a sounding or priming voice below its lead fetches one chunk; a pennant
voice that is IDLE keeps the chunk of its first samples. -/
def Hw.voiceVisit (s : Hw) (n : Nat) : Hw :=
  let v := s.voice n
  match v.desc with
  | none => s
  | some d =>
    let lead := max 8 (s.rd F.VOC_POOLCFG_LEAD)
    if !s.on (voiceDomain n) then s
    else if n < 240 then
      if 1 ≤ v.state && v.state ≤ 4 && v.lead240 d * 65536 < lead * 120 * vdTwoS d * s.voiceRatio n then s.voiceFetch n
      else s
    else if v.state = 0 then (if v.bufs.isEmpty then s.voiceFetch n else s)
    else if v.state ≤ 4 && v.bufs.length < 8 && v.lead240 d * 65536 < lead * 120 * vdTwoS d * s.voiceRatio n then
      s.voiceFetch n
    else s

/-! ## Ends (14 R492 to R494) -/

/-- A voice ends: its buffers return. A pennant voice goes back to its first samples (14 R497). -/
def Hw.voiceEnd (s : Hw) (n why : Nat) : Hw :=
  let v := s.voice n
  let v' : Voice := { v with state := 0, ended := why, bufs := [], pos := 0, age := 0, last := 0,
                             next := if v.desc.isSome then some 0 else none }
  let s := s.setVoice n (if n < 240 then { v' with desc := none, next := none } else v')
  if why = 2 then
    ((s.wr F.VOC_STARVE_BITS (s.rd F.VOC_STARVE_BITS (n / 32) ||| 2 ^ (n % 32)) (n / 32)).inc F.VOC_CNT_STARVES).raiseBit bVOC 0
  else s

/-- A voice enters FADE (14 R492, R494); one that fades already goes on with its own reason. -/
def Hw.voiceFade (s : Hw) (n why : Nat) : Hw :=
  let v := s.voice n
  if v.state = 0 || v.state = 5 then s else s.setVoice n { v with state := 5, why := why, age := 0 }

/-- The forced ends of voices `lo ≤ n < hi` (14 R494). -/
def Hw.fadeVoices (s : Hw) (lo hi why : Nat) : Hw :=
  (s.voc.voices.map (·.1)).foldl (fun s n => if lo ≤ n && n < hi then s.voiceFade n why else s) s

/-- An AVAS-path fault (14 R504), with the pennant voice it names or 0xFF. -/
def Hw.avasFault (s : Hw) (voice : Nat) : Hw := (s.penFault 8 voice 0xFF).raiseBit bVOC 4

/-! ## Samples (14 R480 to R482) -/

/-- One step of the IMA ADPCM decoder: predictor and step index. -/
def imaStep (st : Int × Int) (code : Nat) : Int × Int :=
  let step : Int := (imaSteps.getD st.2.toNat 7 : Nat)
  let diff := step / 8 + (if bit code 2 then step else 0) + (if bit code 1 then step / 2 else 0)
    + (if bit code 0 then step / 4 else 0)
  (satS 16 (if bit code 3 then st.1 - diff else st.1 + diff), clampI 0 88 (st.2 + imaIndex.getD (code % 8) 0))

/-- Sample `i` (0..119) of an ADPCM block of 64 bytes. -/
def imaSample (blk : List Byte) (i : Nat) : Int :=
  let code := fun j => let b := byteAt blk (4 + j / 2); if j % 2 = 0 then b % 16 else b / 16
  ((List.range (i + 1)).foldl (fun st j => imaStep st (code j))
    (sx 16 (fieldAt blk 0 2), (min (byteAt blk 2) 88 : Nat))).1

/-- Sample `i` of a voice from its buffers, `rest` skipping the one in play; none where its chunk has not arrived, 0 at or
past LENGTH. -/
def Hw.voiceSample (s : Hw) (v : Voice) (d : List Nat) (rest : Bool) (i : Nat) : Option Int :=
  if vdLength d ≤ i then some 0
  else
    match (if rest then v.bufs.drop 1 else v.bufs).find? (fun b => b.lo ≤ i && i < b.hi) with
    | none => none
    | some b =>
      if !b.here then none
      else if b.mute then some 0
      else
        let a := bufAddr b.num
        match vdFmt d with
        | 0 => some (sx 8 (s.byte (a + i % 64)).toNat * 256)
        | 1 => some (sx 16 (s.mem32 (a + 2 * (i % 32)) 2))
        | _ => some (imaSample (s.bytes a 64) (i % 120))

/-- The loop wraps of a position, at most `n` of them. -/
def wrapPos (lstart lend : Nat) : Nat → Nat → Nat × Nat
  | 0, p => (p, 0)
  | n + 1, p =>
    if lend ≤ p / 65536 then
      let r := wrapPos lstart lend n (p - (lend - lstart) * 65536)
      (r.1, r.2 + 1)
    else (p, 0)

/-- Buffers that the position has passed, dropped: with `w` wraps since, then up to the buffer that holds sample `i`. -/
def dropPassed (lend i : Nat) : Nat → List VBuf → List VBuf
  | _, [] => []
  | 0, b :: l => if b.lo ≤ i && i < b.hi then b :: l else dropPassed lend i 0 l
  | w + 1, b :: l => if b.hi = lend then dropPassed lend i w l else dropPassed lend i (w + 1) l

/-! ## Filter and outputs (14 R484 to R486) -/

/-- The filter of R484: the output, the new states, and whether a saturation clamped. -/
def svf (fmode f qd : Nat) (u low band : Int) : Int × Int × Int × Bool :=
  let f : Int := (min f 32768 : Nat)
  let q : Int := (if qd = 0 then 1 else qd : Nat)
  let l := low + sarI (f * band) 15
  let h := u - sat24 l - sarI (q * band) 15
  let b := band + sarI (f * sat24 h) 15
  let n := sat24 l + sat24 h
  let clip := sat24 l ≠ l || sat24 h ≠ h || sat24 b ≠ b || (fmode = 4 && sat24 n ≠ n)
  (match fmode with | 1 => sat24 l | 2 => sat24 b | 3 => sat24 h | 4 => sat24 n | _ => u, sat24 l, sat24 b, clip)

/-- A number added to element `i` of a list of 38 sums. -/
def addAt (l : List Int) (i : Nat) (v : Int) : List Int := l.set i (l.getD i 0 + v)

/-- A voice's mono output routed (14 R485): left and right into its group bus, its sends into the send buses; a pennant
voice into the pennant bus alone. -/
def Hw.routeVoice (s : Hw) (n : Nat) (m : Int) (sums : List Int) : List Int :=
  let p := s.rdA F.VOC_V_MIX_PAN n
  let l := sat24 (sarI (m * panL p) 15)
  let r := sat24 (sarI (m * panR p) 15)
  if n < 240 then
    let g := s.rdA F.VOC_V_MIX_GROUP n
    let send := fun (f : FieldRef) => sat24 (sarI (m * (s.rdA f n : Nat)) 8)
    let sums := addAt (addAt sums (2 * g) l) (2 * g + 1) r
    addAt (addAt (addAt (addAt sums 32 (send F.VOC_V_SEND_SEND0)) 33 (send F.VOC_V_SEND_SEND1)) 34
      (send F.VOC_V_SEND_SEND2)) 35 (send F.VOC_V_SEND_SEND3)
  else addAt (addAt sums 36 l) 37 r

/-- The envelope's update (14 R483): the new value and the state that follows; none where the voice ends. -/
def envStep (state e : Nat) (d : List Nat) : Nat × Option Nat :=
  match state with
  | 2 =>
    let e := if vdAtt d = 0 then 0xFFFF else min (e + vdAtt d) 0xFFFF
    (e, some (if e = 0xFFFF then 3 else 2))
  | 3 => (if vdSus d < e then e - (e - vdSus d) * vdDec d / 65536 else e, some 3)
  | _ =>
    let e := if vdRel d = 0 then 0 else e - max 1 (e * vdRel d / 65536)
    (e, if e = 0 then none else some 4)

/-- A value of the mapping between its breakpoints (14 R500, R502). -/
def avasInterp (pts : List (Nat × Nat × Nat)) (f : Nat × Nat × Nat → Nat) (speed : Int) : Int :=
  let p := fun j => pts.getD j (0, 0, 0)
  let sp := fun j => ((p j).1 : Int)
  let v := fun j => (f (p j) : Int)
  if speed ≤ sp 0 then v 0
  else match (List.range 3).find? (fun j => speed ≤ sp (j + 1)) with
    | none => v 3
    | some j =>
      if sp (j + 1) = sp j then v j
      else if speed = sp (j + 1) then v (((List.range 4).find? (fun i => sp i = speed)).getD 3)
      else v j + tdivI ((v (j + 1) - v j) * (speed - sp j)) (sp (j + 1) - sp j).toNat

/-- The speed of the AVAS mapping (14 R500), and the mapped level. -/
def Hw.avasSpeed (s : Hw) : Int := match s.sigOfKind 2 with | some k => s.sigVal k | none => 0
def Hw.avasLevel (s : Hw) : Int := avasInterp s.voc.map.points (·.2.2) s.avasSpeed

/-- The level a voice tends to: VOL, or the mapped level of a mapped pennant voice (14 R498). -/
def Hw.voiceTarget (s : Hw) (n : Nat) : Int :=
  if 240 ≤ n && bit s.voc.map.vmask (n - 240) then s.avasLevel else (s.rdA F.VOC_V_MIX_VOL n : Nat)

/-- A faded sample (14 R492). -/
def Hw.voiceFaded (s : Hw) (n : Nat) (sums : List Int) : Hw × List Int :=
  let v := s.voice n
  let k := min 32 (v.age + 1)
  (s.setVoice n { v with age := k }, s.routeVoice n (tdivI (v.last * (32 - k : Nat)) 32) sums)

/-- The computation of one voice in a period (14 R472, R482 to R486, R492). -/
def Hw.voiceCompute (s : Hw) (n : Nat) (sums : List Int) : Hw × List Int :=
  let v := s.voice n
  if !s.on (voiceDomain n) then (s, sums)
  else if v.state = 5 then s.voiceFaded n sums
  else if v.state < 2 then (s, sums)
  else
    match v.desc with
    | none => (s, sums)
    | some d =>
      let i := v.pos / 65536
      let lp := v.loops d
      let wrapNext := lp && i + 1 = vdLend d
      match s.voiceSample v d false i, s.voiceSample v d wrapNext (if wrapNext then vdLstart d else i + 1) with
      | some x0, some x1 =>
        let x := x0 + sarI ((x1 - x0) * (v.pos % 65536 : Nat)) 16
        let moved := v.pos + s.voiceRatio n
        let w := if lp then wrapPos (vdLstart d) (vdLend d) (moved / 65536 + 1) moved else (moved, 0)
        let u := x * 256
        let flt := svf (if n < 240 then s.rdA F.VOC_V_MIX_FMODE n else 0) (s.rdA F.VOC_V_FILT_F n)
          (s.rdA F.VOC_V_FILT_QD n) u v.low v.band
        let env := envStep v.state v.env d
        let lvl := v.level.step (s.voiceTarget n)
        let vol : Int := if n < 240 then lvl.val else max lvl.val (s.rd F.VOC_PBUS_FLOOR : Nat)
        let m := sat24 (sarI (sat24 (sarI (flt.1 * (env.1 : Nat)) 16) * vol) 16)
        let ended := decide (vdLength d ≤ w.1 / 65536) || env.2.isNone
        let v' : Voice := { v with
          pos := w.1, env := env.1, low := if n < 240 then flt.2.1 else v.low,
          band := if n < 240 then flt.2.2.1 else v.band, level := lvl, last := m,
          state := env.2.getD v.state, bufs := dropPassed (vdLend d) (w.1 / 65536) w.2 v.bufs }
        let s := s.setVoice n v'
        let s := if n < 240 && flt.2.2.2 then s.raiseBit bVOC 3 else s
        let sums := s.routeVoice n m sums
        (if ended then s.voiceEnd n 1 else s, sums)
      | _, _ =>
        let s := s.setVoice n { v with state := 5, why := 2, age := 0 }
        let s := if n < 240 then s else s.avasFault (n - 240)
        s.voiceFaded n sums

/-! ## Key-on and key-off (14 R477 to R479) -/

/-- A voice 0..239 keyed on at its boundary. -/
def Hw.keyOn (s : Hw) (n addr : Nat) : Hw :=
  let v := s.voice n
  s.setVoice n { Voice.reset with state := 1, ended := v.ended, descAt := addr }

/-- A pennant voice keyed on (14 R497): it skips PRIME and takes its level without a ramp. -/
def Hw.pennantKeyOn (s : Hw) (n : Nat) : Hw :=
  match Store.get (fun _ => []) s.voc.pdesc (n - 240) with
  | [] => s
  | d =>
    if s.voc.silenced || !s.on 36 then s
    else
      let v := s.voice n
      let held := if v.state = 0 && v.desc = some d then v.bufs else []
      let seg := vdSegment d (vdLoop d = 1 || vdLoop d = 2) 0
      let next := if held.isEmpty then some 0 else seg.2
      let s := s.setVoice n { Voice.reset with
        state := 2, ended := v.ended, desc := some d, bufs := held, next := next, level := Ramp.at (s.voiceTarget n) }
      if held.isEmpty then s.voiceFetch n else s

/-- A voice keyed off: ATTACK or DECAY to RELEASE, PRIME to its end. A sustain loop that no longer applies lets the data
run on from LEND, so what was fetched beyond it is dropped. -/
def Hw.keyOff (s : Hw) (n : Nat) : Hw :=
  let v := s.voice n
  if v.state = 1 then s.voiceEnd n 1
  else if v.state = 2 || v.state = 3 then
    match v.desc with
    | some d =>
      if vdLoop d = 2 then
        let keep := v.bufs.takeWhile (fun b => b.hi ≠ vdLend d)
        let last := (v.bufs.drop keep.length).take 1
        let cut := !last.isEmpty
        let full := last.map (fun b => { b with hi := min ((b.lo / vdPerChunk d + 1) * vdPerChunk d) (vdLength d) })
        let hi := (full.map (·.hi)).getD 0 (vdLend d)
        s.setVoice n { v with state := 4, bufs := keep ++ full,
                              next := if cut then (if vdLength d ≤ hi then none else some hi) else v.next }
      else s.setVoice n { v with state := 4 }
    | none => s.setVoice n { v with state := 4 }
  else s

/-- PITCH at its boundary: shadow and active value of RATIO. -/
def Hw.setPitch (s : Hw) (n ratio : Nat) : Hw := (s.wr F.VOC_V_PITCH_RATIO ratio n).wrA F.VOC_V_PITCH_RATIO ratio n

/-- A slot 1 command at its boundary: a voice whose domain is off stays IDLE; a voice in FADE ignores all but KEY_ON. -/
def Hw.voiceCmd (s : Hw) (c : VCmd) : Hw :=
  match c with
  | .keyOn v a => if s.on (voiceDomain v) then s.keyOn v a else s
  | .keyOff v => s.keyOff v
  | .pitch v r => if (s.voice v).state = 5 then s else s.setPitch v r

/-! ## Pennant voices (14 R498 to R502) -/

/-- An AVAS_CONFIG record's effect at its boundary (14 R501). -/
def Hw.avasApply (s : Hw) (r : List Byte) : Hw :=
  let h := fun i => fieldAt r i 2
  match byteAt r 0 with
  | 0 =>
    let n := byteAt r 1 % 16
    let d := vdWords (r.drop 8)
    let s := { s with voc := { s.voc with pdesc := Store.put (fun _ => []) s.voc.pdesc n d } }
    let put := fun (s : Hw) (f : FieldRef) (v : Nat) => (s.wr f v (240 + n)).wrA f v (240 + n)
    let s := put (put (put s F.VOC_V_MIX_VOL (h 2)) F.VOC_V_PITCH_RATIO (h 4 * 16)) F.VOC_V_MIX_PAN (h 6)
    let v := s.voice (240 + n)
    if v.state = 0 then s.setVoice (240 + n) { v with desc := some d, bufs := [], next := some 0 } else s
  | 1 =>
    let points := (List.range 4).map (fun j => (h (8 + 6 * j), h (10 + 6 * j), h (12 + 6 * j)))
    { s with voc := { s.voc with map := ⟨byteAt r 1, h 2, h 4, h 6, points⟩ } }
  | 2 =>
    let rule := if byteAt r 2 = 0xFF then none else some ⟨byteAt r 2 % 32, byteAt r 3 % 16, byteAt r 4 = 1, false⟩
    { s with voc := { s.voc with rules := s.voc.rules.set (byteAt r 1 % 16) rule } }
  | _ => ((s.wr F.VOC_PAUDIT_AVEN (byteAt r 1 % 2)).wr F.VOC_PBUS_FLOOR (h 2)).wr F.VOC_PBUS_PGAIN (h 4)

/-- The trigger rules (14 R499). -/
def Hw.avasTriggers (s : Hw) : Hw :=
  foldUp (fun s i =>
    match s.voc.rules.getD i none with
    | none => s
    | some r =>
      let v := s.sigVal r.sig
      let n := 240 + r.voice
      let st := (s.voice n).state
      let s := { s with voc := { s.voc with rules := s.voc.rules.set i (some { r with was := v ≠ 0 }) } }
      if r.edge then (if v ≠ 0 && !r.was then s.pennantKeyOn n else s)
      else if v ≠ 0 && (st = 0 || st = 4) then s.pennantKeyOn n
      else if v = 0 && (st = 2 || st = 3) then s.keyOff n
      else s) 0 16 s

/-- The AVAS mapping of a boundary (14 R500). -/
def Hw.avasMapping (s : Hw) : Hw :=
  let m := s.voc.map
  let speed := s.avasSpeed
  let gear : Nat := match s.sigOfKind 3 with
    | some k => if 0 ≤ s.sigVal k && s.sigVal k ≤ 3 then (s.sigVal k).toNat else 4
    | none => 4
  let want := bit m.gears gear
  let s := (((s.wr F.VOC_AVAS_GEAR gear).wr F.VOC_AVAS_WANT (b2n want)).wr F.VOC_AVAS_SPEED
    (min 255 (if speed < 0 then 0 else speed.toNat / 100)))
  let s := s.wr F.VOC_AVAS_LEVEL (max s.avasLevel.toNat (s.rd F.VOC_PBUS_FLOOR))
  let s := s.wr F.VOC_AVASPITCH_RATIO ((avasInterp m.points (·.2.1) speed).toNat * 16)
  foldUp (fun s i =>
    if bit m.vmask i then
      let n := 240 + i
      let st := (s.voice n).state
      if (st = 2 || st = 3) && (!want || (m.stop : Int) ≤ speed) then s.keyOff n
      else if (st = 0 || st = 4) && want && speed < (m.stop : Int) - m.hyst then s.pennantKeyOn n
      else s
    else s) 0 16 s

/-! ## The period (14 R472) -/

/-- A voice in PRIME at a boundary (14 R478): ATTACK once its descriptor and the buffer with its first two samples are there;
its level without a ramp. -/
def Hw.voicePrime (s : Hw) (n : Nat) : Hw :=
  let v := s.voice n
  if v.state = 1 then
    if v.desc.isSome && (match v.bufs with | b :: _ => b.here | [] => false) then
      s.setVoice n { v with state := 2, age := 0, level := Ramp.at (s.voiceTarget n) }
    else s.setVoice n { v with age := v.age + 1 }
  else s

/-- The AVAS records take effect at a boundary, before anything it computes (14 R501). -/
def Hw.avasRecords (s : Hw) : Hw :=
  if s.on 34 then s.voc.recs.foldl Hw.avasApply ({ s with voc := { s.voc with recs := [] } } : Hw) else s

/-- The boundary's work on the voices: the transfer, the slot 1 commands, the triggers and the mapping, then each voice in ascending number, then the fetches. -/
def Hw.voiceBoundary (s : Hw) : Hw :=
  if !s.on 34 then s
  else
    let s := s.transfer bVOC
    let cmds := s.voc.cmds
    let s := cmds.foldl Hw.voiceCmd ({ s with voc := { s.voc with cmds := [] } } : Hw)
    let s := if s.on 36 then s.avasTriggers.avasMapping else s
    let s := (s.voc.voices.map (·.1)).foldl Hw.voicePrime s
    let r := (s.voc.voices.map (·.1)).foldl (fun p n => p.1.voiceCompute n p.2) (s, List.replicate 38 (0 : Int))
    let s := { r.1 with mix := { r.1.mix with sums := r.2 } }
    let s := (s.voc.voices.map (·.1)).foldl Hw.voiceVisit s
    s.watermark bVOC 0x040A004C 0x040A0050 0x040A0048 2 s.poolFree

/-! ## Arrivals (14 R487, R493, R477) -/

/-- A fetch's data, or its error, arrives: the descriptor of a voice in PRIME, else its oldest chunk on the way. -/
def Hw.voiceArrival (s : Hw) (n : Nat) : Hw :=
  let v := s.voice n
  let failed := fun (s : Hw) => ((s.voiceFade n 3).inc F.VOC_CNT_FERRS).raiseBit bVOC 1
  if !s.on (voiceDomain n) then s
  else if v.state = 1 && v.desc.isNone then
    let r := s.busLoad 7 0 v.descAt 32
    match r.2 with
    | none => failed r.1
    | some bs =>
      let d := vdWords bs
      if (vdBad d).isSome then ((r.1.voiceEnd n 6).inc F.VOC_CNT_FERRS).raiseBit bVOC 1
      else (r.1.setVoice n { v with desc := some d, next := some 0 }).voiceFetch n
  else
    match v.bufs.find? (fun b => !b.here) with
    | none => s
    | some b =>
      let mark := fun (s : Hw) (mute : Bool) =>
        s.setVoice n { v with bufs := v.bufs.map (fun c => if c.num = b.num then { c with here := true, mute := mute } else c) }
      let r := s.busLoad 7 0 b.chunk 64
      match r.2 with
      | none => if n < 240 then failed r.1 else (mark r.1 true).avasFault (n - 240)
      | some bs => (mark r.1 false).setBytes (bufAddr b.num) bs

/-! ## The pennant sound area (14 R495, R496) -/

/-- The pennant sound copied from the store to an area through M2. -/
def Hw.copyPennantSound (s : Hw) (to_ : Nat) : Hw :=
  if s.memOn to_ then s.setBytes to_ (s.bytes (0x01000000 + s.voc.psrc) s.voc.plen) else s

/-- The audit: the area is compared with the store and rewritten where it differs. -/
def Hw.soundAudit (s : Hw) : Hw :=
  if s.voc.plen = 0 || !s.on 20 then s
  else
    let s := s.wr F.VOC_PAUDIT_CHECKS (s.rd F.VOC_PAUDIT_CHECKS + 1)
    let src := 0x01000000 + s.voc.psrc
    if s.voc.silenced then s.avasFault 0xFF
    else if s.bytes s.voc.base s.voc.plen = s.bytes src s.voc.plen && s.memOn s.voc.base then s
    else
      let s := s.wr F.VOC_PAUDIT_FAILS (satU 8 (s.rd F.VOC_PAUDIT_FAILS + 1))
      (s.copyPennantSound s.voc.base).avasFault 0xFF

/-- The bank holding any of the area retires: the sound moves to PSA2, or with PSA2 = 0 the pennant voices are silenced. -/
def Hw.soundRetired (s : Hw) (bank : Nat) : Hw :=
  let lo := s.voc.base / 0x100000
  let hi := (s.voc.base + s.voc.plen - 1) / 0x100000
  if s.voc.plen = 0 || bank < lo || hi < bank || s.voc.silenced then s
  else if s.voc.psa2 ≠ 0 && s.voc.base ≠ s.voc.psa2 then
    let s := s.copyPennantSound s.voc.psa2
    ({ s with voc := { s.voc with base := s.voc.psa2 } } : Hw).avasFault 0xFF
  else
    let s := foldUp (fun s n => if (s.voice n).state ≠ 0 then s.voiceEnd n 5 else s) 240 16 s
    ({ s with voc := { s.voc with silenced := true } } : Hw).avasFault 0xFF

/-! ## Meanings -/

/-- VOICE_CHUNK_ARRIVAL. -/
def execVoiceChunkArrival (voice : Fin 256) (s : State) : Host.Outcome State Fault Refusal :=
  s.onHw fun h => h.voiceArrival voice

/-- VOICE_PRIME_TIMEOUT (14 R478): a voice still in PRIME four boundaries after its key-on starves. -/
def execVoicePrimeTimeout (voice : Fin 256) (s : State) : Host.Outcome State Fault Refusal :=
  s.onHw fun h => if (h.voice voice).state = 1 && 4 ≤ (h.voice voice).age then h.voiceFade voice 2 else h

/-- VOICE_FADE_END (14 R492): after the 32nd faded sample the voice ends with the reason of its fade. -/
def execVoiceFadeEnd (voice : Fin 256) (s : State) : Host.Outcome State Fault Refusal :=
  s.onHw fun h =>
    if (h.voice voice).state = 5 && 32 ≤ (h.voice voice).age then h.voiceEnd voice (h.voice voice).why else h

/-- PENNANT_SOUND_AUDIT. -/
def execPennantSoundAudit (s : State) : Host.Outcome State Fault Refusal := s.onHw fun h => h.soundAudit

/-- AS1_SILENCE_TIMEOUT (14 R503): AS1 sent no frame for 1 ms with AVEN = 1. -/
def execAs1SilenceTimeout (s : State) : Host.Outcome State Fault Refusal :=
  s.onHw fun h => if h.rdB F.VOC_PAUDIT_AVEN then h.avasFault 0xFF else h

end Sys2Proof.Machine
end

