-- ==== Sys2Proof/Machine/Mix.lean ====
section
/-! DEFINITION. The mix graph and the meters (15 R505 to R531), and the audio serial ports (18 R635 to R638). -/

namespace Sys2Proof.Machine

open Sys2Proof

/-! ## Gains, sums and selections (15 R507, R508) -/

/-- A Q2.14 gain applied. -/
def gainOf (g x : Int) : Int := sat24 (sarI (x * g) 14)

/-- The gains' targets, in the order of the ramps; a MUTE of 1 is a gain of 0. -/
def Hw.mixTargets (s : Hw) : List Int :=
  let r := List.range
  (r 2).map (fun k => ((s.rdA F.MIX_SEND01_GAIN k : Nat) : Int)) ++ (r 2).map (fun k => ((s.rdA F.MIX_SEND23_GAIN k : Nat) : Int))
    ++ (r 2).map (fun k => ((s.rdA F.MIX_RET_GAIN k : Nat) : Int))
    ++ (r 16).map (fun g => if s.rdAB F.MIX_GRP_MUTE g then 0 else ((s.rdA F.MIX_GRP_GAIN g : Nat) : Int))
    ++ (r 12).map (fun i => ((s.rdA F.MIX_IN_GAIN i : Nat) : Int))
    ++ [((s.rdA F.MIX_MAIN_GAINA : Nat) : Int), ((s.rdA F.MIX_MAIN_GAINB : Nat) : Int)]
    ++ (r 4).map (fun z => if s.rdAB F.MIX_ZONE_MUTE z then 0 else ((s.rdA F.MIX_ZONE_GAIN z : Nat) : Int))

/-- Every ramp at the next boundary. -/
def stepRamps : List Ramp → List Int → List Ramp
  | r :: rs, t :: ts => r.step t :: stepRamps rs ts
  | rs, _ => rs

/-- A selection at the next boundary: the chosen source ramps to unity and the others to 0; a source that has come to 0 is
dropped. -/
def stepSel (l : List (Nat × Ramp)) (code : Nat) : List (Nat × Ramp) :=
  let l := if l.any (fun p => p.1 = code) then l else l ++ [(code, Ramp.at 0)]
  (l.map (fun p => (p.1, p.2.step (if p.1 = code then 0x4000 else 0)))).filter (fun p => p.1 = code || p.2.val ≠ 0)

/-- A selection's signal: each source at its gain. -/
def selSum (l : List (Nat × Ramp)) (src : Nat → Int × Int) : Int × Int :=
  let p := l.foldl (fun a p => (a.1 + gainOf p.2.val (src p.1).1, a.2 + gainOf p.2.val (src p.1).2)) ((0 : Int), (0 : Int))
  (sat24 p.1, sat24 p.2)

/-- Saturated sums of a list of stereo signals. -/
def sumPairs (l : List (Int × Int)) : Int × Int := l.foldl (fun a p => (a.1 + p.1, a.2 + p.2)) (0, 0)
def satPair (p : Int × Int) : Int × Int := (sat24 p.1, sat24 p.2)

/-! ## Reverb and delay (15 R512, R513) -/

/-- One period of the reverb on its delayed input `u`, over the samples `o` that leave the lines: the line inputs and the
low-passes. -/
def reverbStep (decay damp : Nat) (o lp : List Int) (u : Int) : List Int × List Int :=
  let q := fun i => o.getD i 0
  let f := [sat24 (sarI (q 0 + q 1 + q 2 + q 3) 1), sat24 (sarI (q 0 - q 1 + q 2 - q 3) 1),
    sat24 (sarI (q 0 + q 1 - q 2 - q 3) 1), sat24 (sarI (q 0 - q 1 - q 2 + q 3) 1)]
  let lp' := (List.range 4).map (fun i => sat24 (lp.getD i 0 + sarI ((f.getD i 0 - lp.getD i 0) * (damp : Int)) 16))
  ((List.range 4).map (fun i => sat24 (u + sarI (lp'.getD i 0 * (decay : Int)) 16)), lp')

/-- The lengths of the reverb's lines. -/
def reverbLen : List Nat := [1427, 1753, 2111, 2539]

/-- A line of `n` samples, newest first: the sample that leaves it. -/
def leaves (l : List Int) (n : Nat) : Int := l.getD (n - 1) 0

/-! ## Equaliser and limiter (15 R518, R519) -/

/-- The coefficient words of zone `z`, band `b`: B0, B1, B2, A1, A2. -/
def Hw.eqCoef (s : Hw) (z b i : Nat) : Int := sx 32 (s.actReg (0x040B1000 + 0x100 * z + 0x18 * b + 4 * i)).toNat

/-- Bands `b, b+1, …` of a zone's equaliser on one channel; a disabled band passes its input and holds its state at 0. -/
def Hw.eqBands (s : Hw) (z c : Nat) : Nat → Nat → Int → Hw × Int
  | _, 0, x => (s, x)
  | b, n + 1, x =>
    let k := 20 * z + 10 * c + b
    let st := Store.get (fun _ => [0, 0, 0, 0]) s.mix.eq k
    let on := getBits (s.actReg (0x040B1000 + 0x100 * z + 0x18 * b + 0x14)) 0 0 = 1
    let g := fun i => st.getD i 0
    let y := sat24 (sarI (s.eqCoef z b 0 * x + s.eqCoef z b 1 * g 0 + s.eqCoef z b 2 * g 1 - s.eqCoef z b 3 * g 2
      - s.eqCoef z b 4 * g 3) 28)
    let st' := if on then [x, g 0, y, g 2] else [0, 0, 0, 0]
    let s := { s with mix := { s.mix with eq := Store.put (fun _ => [0, 0, 0, 0]) s.mix.eq k st' } }
    s.eqBands z c (b + 1) n (if on then y else x)

/-- A limiter's period: its state and its output. With `unity` it is a plain delay of 8 samples. -/
def limitStep (l : Limiter) (thr rel : Nat) (unity : Bool) (x : Int × Int) : Limiter × (Int × Int) :=
  let d := ((x :: l.hist.take 8).map (fun p => max p.1.natAbs p.2.natAbs)).foldl max 0
  let t := if d = 0 then 32768 else min 32768 (max 1 thr * 32768 / d)
  let g := if unity then 32768 else if t < l.gain then t else l.gain + (t - l.gain) * rel / 65536
  let o := l.hist.getD 7 (0, 0)
  (⟨(x :: l.hist).take 8, g⟩, (sarI (o.1 * (g : Int)) 15, sarI (o.2 * (g : Int)) 15))

/-! ## Link receive and transmit channels (15 R523, 17 R585) -/

/-- Byte `k` of a pair of channel map registers: enabled, system channel. -/
def Hw.chanMap (s : Hw) (base k : Nat) : Bool × Nat :=
  let b := (s.reg (base + 4 * (k / 4))).toNat / 256 ^ (k % 4) % 256
  (bit b 7, b % 32)

/-- The word of link receive channel `k` in this period: the word of its system channel from the superframe LRXD periods
ago, the timing port's where both ports carried it, 0 where neither did. -/
def Hw.linkRx (s : Hw) (k : Nat) : Int :=
  let m := s.chanMap 0x040D0078 k
  let n := (s.brg.sfn + 65536 - s.rd F.BRG_TIMING_LRXD % 65536) % 65536
  let of := fun (p : Nat) =>
    (s.brg.rx.find? (fun e => e.1 = n && e.2.1 = p)).bind (fun e => e.2.2.getD m.2 none)
  let tp := s.rd F.BRG_STAT_TPORT
  if !m.1 then 0 else ((of tp).or (of (1 - tp))).getD 0

/-! ## The graph of a period (15 R506 to R523) -/

/-- The graph is computed from the sums of the voices of the last period; every word it computes leaves in the next. -/
def Hw.mixCompute (s : Hw) : Hw :=
  let mx := s.mix
  let gains := stepRamps mx.gains s.mixTargets
  let gn := fun i => (gains.getD i (Ramp.at 0)).val
  let fx := s.on 37
  let raw := fun i => mx.sums.getD i 0
  -- group and send buses (R510, R511)
  let grp := fun g => (gainOf (gn (6 + g)) (sat24 (raw (2 * g))), gainOf (gn (6 + g)) (sat24 (raw (2 * g + 1))))
  let send := fun k => gainOf (gn k) (sat24 (raw (32 + k)))
  let dest := fun k => if k < 2 then s.rdA F.MIX_SEND01_DEST k else s.rdA F.MIX_SEND23_DEST (k - 2)
  let revRaw := ((List.range 4).filter (fun k => bit (dest k) 0)).foldl (fun a k => a + send k) 0
  let dlyRaw := ((List.range 4).filter (fun k => bit (dest k) 1)).foldl (fun a k => a + send k) 0
  -- reverb (R512)
  let pre := if fx then (mx.fx.getD 0 0 :: mx.pre).take 2049 else []
  let u := pre.getD (min (s.rdA F.MIX_REV0_PREDLY) 2048) 0
  let o := (List.range 4).map (fun i => leaves (mx.lines.getD i []) (reverbLen.getD i 1))
  let rv := reverbStep (s.rdA F.MIX_REV1_DECAY) (s.rdA F.MIX_REV1_DAMP) o mx.lp u
  let lines := if fx then (List.range 4).map (fun i => (rv.1.getD i 0 :: mx.lines.getD i []).take (reverbLen.getD i 1))
    else [[], [], [], []]
  let revOut := (sarI (o.getD 0 0 + o.getD 2 0) 1, sarI (o.getD 1 0 + o.getD 3 0) 1)
  -- delay (R513)
  let len := fun n => if n = 0 then 1 else min n 16384
  let lL := leaves mx.dl (len (s.rdA F.MIX_DLY0_DL))
  let lR := leaves mx.dr (len (s.rdA F.MIX_DLY0_DR))
  let fb : Int := (s.rdA F.MIX_DLY1_FB : Nat)
  let x := mx.fx.getD 1 0
  let dIn := if s.rdAB F.MIX_DLY1_CROSS then (sat24 (x + sarI (lR * fb) 16), sat24 (sarI (lL * fb) 16))
    else (sat24 (x + sarI (lL * fb) 16), sat24 (x + sarI (lR * fb) 16))
  let ret := fun r =>
    let p := if r = 0 then revOut else (lL, lR)
    if fx then (gainOf (gn (4 + r)) p.1, gainOf (gn (4 + r)) p.2) else ((0 : Int), (0 : Int))
  -- input strips (R515)
  let fall := s.rdB F.MIX_STAT_FALLBACK
  let strip := fun i =>
    gainOf (gn (22 + i)) (if i < 4 then (if fall || !s.on 38 then 0 else mx.as0.getD i 0) else s.linkRx (i - 4))
  let panned := fun i =>
    let p := s.rdA F.MIX_IN_PAN i
    (sat24 (sarI (strip i * panL p) 15), sat24 (sarI (strip i * panR p) 15))
  -- main buses (R516)
  let mainRaw := fun b =>
    sumPairs (((List.range 16).filter (fun g => bit (s.rdA F.MIX_GRP_DEST g) b)).map grp
      ++ ((List.range 2).filter (fun r => bit (s.rdA F.MIX_RET_DEST r) b)).map ret
      ++ ((List.range 12).filter (fun i => bit (s.rdA F.MIX_IN_DEST i) b)).map panned)
  let main := fun b => let p := satPair (mainRaw b); (gainOf (gn (34 + b)) p.1, gainOf (gn (34 + b)) p.2)
  let both := sumPairs [main 0, main 1]
  -- zones (R517 to R520)
  let src := fun c =>
    if c = 1 then main 0 else if c = 2 then main 1 else if c = 3 then satPair both
    else if 0x10 ≤ c && c < 0x20 then grp (c - 0x10)
    else if 0x20 ≤ c && c < 0x2C then panned (c - 0x20)
    else if c = 0x2C then ret 0 else if c = 0x2D then ret 1 else (0, 0)
  let sels := (List.range 13).map (fun i =>
    stepSel (mx.sels.getD i []) (if i < 4 then s.rdA F.MIX_ZONE_SRC i
      else if i = 4 then s.rdA F.MIX_CHIME_SRC else s.rdA F.MIX_LT_SRC (i - 5)))
  let sel := fun i => sels.getD i []
  let s := { s with mix := { mx with eq := if fx then mx.eq else [] } }
  let zin := fun z => let p := selSum (sel z) src; (gainOf (gn (36 + z)) p.1, gainOf (gn (36 + z)) p.2)
  let zq := (List.range 4).foldl (fun (a : Hw × List (Int × Int)) z =>
      if fx then
        let l := a.1.eqBands z 0 0 10 (zin z).1
        let r := l.1.eqBands z 1 0 10 (zin z).2
        (r.1, a.2 ++ [(l.2, r.2)])
      else (a.1, a.2 ++ [zin z])) (s, [])
  let s := zq.1
  let eqOut := fun z => zq.2.getD z (0, 0)
  let lim := fun i => if fx then mx.lims.getD i ⟨[], 32768⟩ else { mx.lims.getD i ⟨[], 32768⟩ with gain := 32768 }
  let zl := (List.range 4).map (fun z =>
    limitStep (lim z) (s.rdA F.MIX_LIMTHR_THR z) (s.rdA F.MIX_LIMREL_REL z) (!fx) (eqOut z))
  -- the pennant bus and AS1 (R521)
  let penRaw := if s.on 36 then (raw 36, raw 37) else (0, 0)
  let pen := satPair penRaw
  let g : Int := (max (s.rd F.VOC_PBUS_PGAIN) (s.rd F.VOC_PBUS_FLOOR) : Nat)
  let as1Raw := (sarI (pen.1 * g) 16, sarI (pen.2 * g) 16)
  let as1 := if s.rdB F.VOC_PAUDIT_AVEN then satPair as1Raw else (0, 0)
  let zoneRaw := fun z => sumPairs [(zl.getD z (⟨[], 32768⟩, (0, 0))).2, pen]
  let zone := fun z => satPair (zoneRaw z)
  -- the chime stage (R522)
  let mono := fun (p : Int × Int) => sarI (p.1 + p.2) 1
  let chSrc := fun c =>
    let m := if c = 1 then mono pen else if 2 ≤ c && c ≤ 5 then mono (zone (c - 2))
      else if c = 6 then mono (main 0) else if c = 7 then mono (main 1) else 0
    (m, m)
  let chIn := selSum (sel 4) chSrc
  let ch := limitStep (lim 4) (s.rdA F.MIX_CHTHR_THR) (s.rdA F.MIX_CHREL_REL) (!fx || s.rdA F.MIX_CHIME_SRC = 1) chIn
  -- link transmit channels (R523)
  let ltSrc := fun c =>
    let side := fun (p : Int × Int) (r : Bool) => if r then p.2 else p.1
    let w := if 1 ≤ c && c ≤ 8 then side (zone ((c - 1) / 2)) ((c - 1) % 2 = 1)
      else if c = 9 then (main 0).1 else if c = 10 then (main 0).2 else if c = 11 then (main 1).1
      else if c = 12 then (main 1).2 else if c = 13 then pen.1 else if c = 14 then pen.2
      else if 0x10 ≤ c && c < 0x20 then mono (grp (c - 0x10))
      else if 0x20 ≤ c && c < 0x24 then (if fall || !s.on 38 then 0 else mx.as0.getD (c - 0x20) 0) else 0
    (w, w)
  let lt := (List.range 8).map (fun k => (selSum (sel (5 + k)) ltSrc).1)
  -- clips (R507), by tap code
  let both2 := fun (c : Nat) (p : Int × Int) => [(c, p.1), (c, p.2)]
  let sums := (List.range 32).map (fun i => (i / 2, raw i)) ++ (List.range 4).map (fun k => (0x10 + k, raw (32 + k)))
    ++ [(0x14, revRaw), (0x15, dlyRaw)] ++ both2 0x16 (mainRaw 0) ++ both2 0x17 (mainRaw 1)
    ++ (List.range 4).flatMap (fun z => (if s.rdA F.MIX_ZONE_SRC z = 3 then both2 (0x18 + z) both else [])
      ++ both2 (0x1C + z) (zoneRaw z))
    ++ both2 0x20 penRaw ++ (if s.rdB F.VOC_PAUDIT_AVEN then both2 0x21 as1Raw else [])
  let clips := (sums.filter (fun p => sat24 p.2 ≠ p.2)).map (·.1)
  let s := clips.foldl (fun s c => ((s.inc F.MIX_CLIPCNT_COUNT).wr F.MIX_CLIPCNT_POINT c)) s
  let limited := zl.any (fun p => p.1.gain < 32768) || ch.1.gain < 32768
  let s := s.raise bMIX (b2n (!clips.isEmpty) * 2 ^ 24 + b2n limited * 2 ^ 25)
  let s := foldUp (fun s z => s.wr F.MIX_LIMGAIN_GAIN (zl.getD z (⟨[], 32768⟩, (0, 0))).1.gain z) 0 4 s
  let s := s.wr F.MIX_CHGAIN_GAIN ch.1.gain
  -- the points of R527
  let taps : List (Nat × Int × Int) := (List.range 16).map (fun i => (i, grp i)) ++ (List.range 4).map (fun k => (0x10 + k, send k, send k))
    ++ [(0x14, ret 0), (0x15, ret 1), (0x16, main 0), (0x17, main 1)]
    ++ (List.range 4).map (fun z => (0x18 + z, eqOut z)) ++ (List.range 4).map (fun z => (0x1C + z, zone z))
    ++ [(0x20, pen), (0x21, as1), (0x22, ch.2.1, ch.2.1)] ++ (List.range 12).map (fun i => (0x23 + i, strip i, strip i))
  { s with mix := { s.mix with
    gains := gains, sels := sels
    fx := if fx then [sat24 revRaw, sat24 dlyRaw] else [0, 0]
    pre := pre, lines := lines, lp := if fx then rv.2 else [0, 0, 0, 0]
    dl := if fx then (dIn.1 :: mx.dl).take 16384 else []
    dr := if fx then (dIn.2 :: mx.dr).take 16384 else []
    lims := zl.map (·.1) ++ [ch.1]
    word := (List.range 4).flatMap (fun z => [(zone z).1, (zone z).2]) ++ [as1.1, as1.2, ch.2.1] ++ lt
    taps := taps } }

/-- The chime PWM of an interval: four duty counts of the word `c` (15 R522), with the error carried. -/
def chimeDuty (c : Int) : Nat → Int → List Nat × Int
  | 0, e => ([], e)
  | n + 1, e =>
    let q := clampI 0 255 (128 + sarI (c + e) 16)
    let r := chimeDuty c n (c + e - (q - 128) * 65536)
    (q.toNat :: r.1, r.2)

/-! ## Meters (15 R527 to R530) -/

/-- The CFG register of meter `k`: bits `hi..lo`. -/
def Hw.meterCfg (s : Hw) (k hi lo : Nat) : Nat := getBits (s.reg (0x040B0400 + 16 * k)) hi lo

/-- A meter's tap, meters 22 and 23 fixed; and its window of 2^WIN samples. -/
def Hw.meterTap (s : Hw) (k : Nat) : Nat := if k = 22 then 0x21 else if k = 23 then 0x20 else s.meterCfg k 5 0
def Hw.meterWin (s : Hw) (k : Nat) : Nat := min 14 (max 6 (s.meterCfg k 11 8))

/-- The sample of a tap code; codes not listed measure 0. -/
def Hw.tapValue (s : Hw) (code : Nat) : Int × Int :=
  match s.mix.taps.find? (fun p => p.1 = code) with | some p => p.2 | none => (0, 0)

/-- A period's sample enters a meter; a meter told to starts a new window. -/
def Hw.meterSample (s : Hw) (k : Nat) : Hw :=
  let m := s.mix.meters.getD k Meter.reset
  let m : Meter := if m.restart then
      { m with tap := s.meterTap k, win := s.meterWin k, n := 0, peak := 0, sum := 0, restart := false } else m
  let v := s.tapValue m.tap
  let m := { m with n := m.n + 1, peak := max m.peak (max v.1.natAbs v.2.natAbs),
                    sum := m.sum + v.1.natAbs * v.1.natAbs + v.2.natAbs * v.2.natAbs }
  { s with mix := { s.mix with meters := s.mix.meters.set k m } }

/-- METER_WINDOW_END (15 R528 to R530), once the window's samples are there: PEAK, RMS, HOLD and the overload. `cyc` tells
of a software write to MIX_MTRk_HOLD in the same cycle, which stands (02 R48). -/
def Hw.meterEnd (s : Hw) (k : Nat) (written : Bool) : Hw :=
  let m := s.mix.meters.getD k Meter.reset
  if m.n < 2 ^ m.win || m.restart then s
  else
    let peak := min 0xFFFF (m.peak / 128)
    let rms := min 0xFFFF (isqrt (m.sum / (2 * m.n)) / 128)
    let oldP := s.rd F.MIX_MTR_LVL_PEAK k
    let oldR := s.rd F.MIX_MTR_LVL_RMS k
    let s := (s.wr F.MIX_MTR_LVL_PEAK peak k).wr F.MIX_MTR_LVL_RMS rms k
    let raised := decide (s.rd F.MIX_MTR_HOLD_HOLD k < peak)
    let s := if raised then (if written then s.collide bMIX (some k) false false else s.wr F.MIX_MTR_HOLD_HOLD peak k) else s
    let m' : Meter := { m with n := 0, peak := 0, sum := 0, quiet := if raised then 0 else m.quiet + 1 }
    let s := { s with mix := { s.mix with meters := s.mix.meters.set k m' } }
    let thr := s.rd F.MIX_MTR_HOLD_OTHR k
    let s := if thr ≠ 0 && thr ≤ peak then (s.inc F.MIX_MTR_OVER_COUNT 1 k).raiseBit bMIX k else s
    s.varScalars [(0x20 + k, oldP, peak), (0x40 + k, oldR, rms)]

/-- METER_HOLD_FALLBACK (15 R529): HOLDN windows have ended without raising HOLD, and it takes PEAK. -/
def Hw.meterFallback (s : Hw) (k : Nat) : Hw :=
  let m := s.mix.meters.getD k Meter.reset
  let n := s.meterCfg k 23 16
  if n ≠ 0 && n ≤ m.quiet then
    let s := s.wr F.MIX_MTR_HOLD_HOLD (s.rd F.MIX_MTR_LVL_PEAK k) k
    { s with mix := { s.mix with meters := s.mix.meters.set k { m with quiet := 0 } } }
  else s

/-! ## The boundary (15 R505, R506, R526) -/

/-- The period boundary of MIX: its transfer, the words of the last period leave in this period's frames and PWM interval,
the graph of this period, and a sample for every meter. -/
def Hw.mixBoundary (s : Hw) : Hw :=
  if !s.on 34 then s
  else
    let s := s.transfer bMIX
    let c := s.mix.word.getD 10 0
    let duty := if s.rdB F.MIX_STAT_FALLBACK then ([128, 128, 128, 128], s.mix.chErr) else chimeDuty c 4 s.mix.chErr
    let s := { s with mix := { s.mix with duty := duty.1, chErr := duty.2 } }
    let s := s.mixCompute
    foldUp Hw.meterSample 0 24 s

/-! ## Meanings -/

/-- METER_WINDOW_END. `holdWritten`: software writes MIX_MTRk_HOLD in the same cycle. -/
def execMeterWindowEnd (meter : Fin 24) (holdWritten : Bool) (s : State) : Host.Outcome State Fault Refusal :=
  s.onHw fun h => if h.on 34 then h.meterEnd meter holdWritten else h

/-- METER_HOLD_FALLBACK. -/
def execMeterHoldFallback (meter : Fin 24) (s : State) : Host.Outcome State Fault Refusal :=
  s.onHw fun h => if h.on 34 then h.meterFallback meter else h

/-- A write of MIX_MTRk_CFG; a change of TAP or WIN discards the partial window, and a new one starts at the next
boundary. The TAP fields of meters 22 and 23 ignore it. -/
def Hw.meterWrite (h : Hw) (k : Nat) (value : Word) : Hw :=
  if !h.on 34 then h
  else
    let a := 0x040B0400 + 16 * k
    let tap := h.meterTap k
    let win := h.meterCfg k 11 8
    let h := h.setReg a (setBits (setBits (setBits (h.reg a) 23 16 (getBits value 23 16)) 11 8 (getBits value 11 8)) 5 0
      (if k < 22 then getBits value 5 0 else tap))
    if h.meterTap k = tap && h.meterCfg k 11 8 = win then h
    else { h with mix := { h.mix with meters := modAt h.mix.meters k (fun m => { m with restart := true }) } }

/-- METER_CFG_WRITE. -/
def execMeterCfgWrite (meter : Fin 24) (value : Word) (s : State) : Host.Outcome State Fault Refusal :=
  s.onHw fun h => h.meterWrite meter value

/-- AS0_INPUT_FRAME (15 R515; 18 R635, R636): the words of input slots 0..3 as the slot width delivers them; a 16-bit slot
gives word bits 23..8. -/
def execAs0InputFrame (words : List Int) (s : State) : Host.Outcome State Fault Refusal :=
  s.onHw fun h =>
    if h.on 38 && h.rdB F.AUS_AS0CFG_EN && !h.rdB F.MIX_STAT_FALLBACK then
      let cut := fun (w : Int) => if h.rd F.AUS_AS0CFG_SW = 0 then sarI (sx 24 (ux 24 w)) 8 * 256 else sx 24 (ux 24 w)
      { h with mix := { h.mix with as0 := (List.range 4).map (fun i => if h.fnActive 28 then cut (words.getD i 0) else 0) } }
    else h

/-- AS1_READBACK_MISMATCH (14 R503; 18 R637): the words read back from the AS1 data pin in one frame. A frame that differs
from the words sent is counted; the fourth in a row is an AVAS-path fault while AVEN is 1. -/
def execAs1ReadbackMismatch (left right : Int) (s : State) : Host.Outcome State Fault Refusal :=
  s.onHw fun h =>
    let cut := fun (w : Int) => if h.rd F.AUS_AS1CFG_SW = 0 then sarI w 8 else w
    if !h.on 38 || !h.rdB F.VOC_PAUDIT_AVEN then h
    else if cut left = cut (h.mix.word.getD 8 0) && cut right = cut (h.mix.word.getD 9 0) then
      { h with mix := { h.mix with bad := 0 } }
    else
      let n := h.mix.bad + 1
      let h := ((h.inc F.AUS_STAT_RBMIS).raiseBit bAUS 0)
      let h := { h with mix := { h.mix with bad := n } }
      if n % 4 = 0 then h.avasFault 0xFF else h

/-- PLL_AUD_UNLOCK (15 R526; 03 R81): the audio tick is taken from PLL_SYS. -/
def execPllAudUnlock (s : State) : Host.Outcome State Fault Refusal :=
  s.onHw fun h =>
    let h := (h.wr F.SYS_CLKSTAT_AUD_LOCK 0).raiseBit bSYS 5
    if h.on 34 then (h.wr F.MIX_STAT_FALLBACK 1).raiseBit bMIX 26 else h

/-- PLL_AUD_LOCK (15 R526; 03 R77): the tick returns to PLL_AUD. -/
def execPllAudLock (s : State) : Host.Outcome State Fault Refusal :=
  s.onHw fun h =>
    let h := if h.pwr.audWanted then h.wr F.SYS_CLKSTAT_AUD_LOCK 1 else h
    if h.pwr.audWanted && h.on 34 && h.rdB F.MIX_STAT_FALLBACK then (h.wr F.MIX_STAT_FALLBACK 0).raiseBit bMIX 27 else h

end Sys2Proof.Machine
end

