-- ==== Sys2Proof/Machine/Varan.lean ====
section
/-! DEFINITION. Varan's streams, records and rate reduction (16 R541 to R552), histograms and persistence maps (16 R554 to
R559), and the TRIG balls (16 R560; 17 R588). -/

namespace Sys2Proof.Machine

open Sys2Proof

/-! ## What a stream's configuration says (16 R542, R543, R547) -/

def VStream.tap (v : VStream) : Nat := v.cfgBits 0 29 24
def VStream.psz (v : VStream) : Nat := let p := v.cfgBits 0 21 16; if p = 0 then 64 else p
def VStream.marks (v : VStream) : Bool := v.cfgBits 0 10 10 = 1
def VStream.relax (v : VStream) : Bool := v.cfgBits 0 9 9 = 1
def VStream.rmode (v : VStream) : Bool := v.cfgBits 0 8 8 = 1
def VStream.fmt (v : VStream) : Nat := v.cfgBits 0 7 6
def VStream.vtap (v : VStream) : Nat := v.cfgBits 0 5 4
def VStream.x0 (v : VStream) : Nat := v.cfgBits 4 11 0
def VStream.x1 (v : VStream) : Nat := v.cfgBits 4 27 16
def VStream.y0 (v : VStream) : Nat := v.cfgBits 8 11 0
def VStream.y1 (v : VStream) : Nat := v.cfgBits 8 27 16
def VStream.pbase (v : VStream) : Nat := v.cfgBits 4 6 0
def VStream.width (v : VStream) : Nat := 8 * 2 ^ v.cfgBits 4 9 8
def VStream.div (v : VStream) : Nat := v.cfgBits 4 19 16
def VStream.base (v : VStream) : Nat := v.cfgBits 12 23 12 * 4096
def VStream.size (v : VStream) : Nat := v.cfgBits 16 24 12 * 4096
def VStream.pre (v : VStream) : Nat := v.cfgBits 20 31 16
def VStream.post (v : VStream) : Nat := v.cfgBits 20 15 0

/-- Payload size of a stream (16 R543). -/
def VStream.payload (v : VStream) : Nat :=
  match v.src with
  | 1 => (v.x1 + 1 - v.x0) * (match v.fmt with | 0 => if v.vtap = 2 then 2 else 3 | 1 => 2 | _ => 1)
  | 2 => 64 * v.psz
  | 3 => 64 * v.psz
  | _ => 0

/-- SLOT, and the number of slots of the ring. -/
def VStream.slotSize (v : VStream) : Nat := (32 + v.payload + 15) / 16 * 16
def VStream.slots (v : VStream) : Nat := v.size / v.slotSize

/-- The address of a slot. -/
def VStream.slotAddr (v : VStream) (i : Nat) : Nat := v.base + v.slotSize * i

/-- A tap code of R527. -/
def tapListed (c : Nat) : Bool := c ≤ 0x2E || c = 0x3F

/-- A configuration that START refuses as BADCFG (16 R542). -/
def VStream.bad (v : VStream) : Bool :=
  let srcBad := match v.src with
    | 1 => v.fmt = 3 || v.vtap = 3 || v.x1 < v.x0 || v.y1 < v.y0 || 2048 < v.x1 + 1 - v.x0
    | 2 => !tapListed v.tap
    | 3 => v.cfgBits 4 9 8 = 3 || v.pbase % 8 ≠ 0 || 96 < v.pbase + v.width
    | 4 => false
    | _ => true
  srcBad || v.size = 0 || 0x1000000 < v.base + v.size
    || (if v.streamMode then v.slots < 2 else v.slots < v.pre + v.post + 1)

/-! ## Reduction (16 R550, R551) -/

/-- The reduction step in effect: min(8, AUTO + DECIM). -/
def Hw.varRed (s : Hw) (k : Nat) : Nat := min 8 (s.rd F.VAR_SSTAT_AUTO k + s.rd F.LDG_CRED_DECIM 10)

/-- SSTAT.RED follows the step in effect. -/
def Hw.showRed (s : Hw) (k : Nat) : Hw := s.wr F.VAR_SSTAT_RED (s.varRed k) k

/-! ## Start, stop and triggers by software (16 R540 to R542, R546) -/

/-- A stream begins (16 R541, R542). -/
def Hw.streamBegin (s : Hw) (k : Nat) : Hw :=
  let cfg := (List.range 16).map (fun i => s.reg (0x040C0200 + 0x80 * k + 4 * i))
  let v : VStream := { VStream.reset with cfg := cfg, red := s.varRed k }
  let refuse := fun (s : Hw) (e : Nat) =>
    (((s.wr F.VAR_SSTAT_PHASE 0 k).wr F.VAR_SSTAT_ERR e k).wr F.VAR_SCTRL_START 0 k).raiseBit bVAR 15
  let s := s.modStream k (fun _ => v)
  if v.bad then refuse s 1
  else if s.actLu 11 = 0 then refuse s 2
  else
    let s := (s.wr F.VAR_SSTAT_PHASE (if v.streamMode then 4 else 1) k).wr F.VAR_SSTAT_ERR 0 k
    let s := (s.wr F.VAR_SSTAT_SEQ 0 k).wr F.VAR_SSEQCNT_COUNT 0 k
    let s := (s.wr F.VAR_SSTAT_AUTO 0 k).showRed k
    (s.wr F.VAR_SCTRL_START 1 k).wr F.VAR_SWRPTR_ADDR (v.base / 16) k

/-- A stream ends in a phase: what it was accumulating is discarded. -/
def Hw.streamEnd (s : Hw) (k phase : Nat) : Hw :=
  let s := s.modStream k (fun v => { v with acc := none, staged := [], ttrig := [], postLeft := none })
  (s.wr F.VAR_SSTAT_PHASE phase k).wr F.VAR_SCTRL_START 0 k

/-- A write of 1 to START (02 R45, R46). `done`: the stream reaches DONE in the same cycle. -/
def Hw.streamStart (s : Hw) (k : Nat) (done : Bool) : Hw :=
  if !s.on 39 then s
  else if s.streamRuns k then
    if done then (((s.streamEnd k 3).raiseBit bVAR k).streamBegin k).collide bVAR none false true else s.goIgnored bVAR
  else s.streamBegin k

/-- A software trigger. -/
def Hw.swTrigger (s : Hw) (k : Nat) : Hw := if s.on 39 then s.trigger k s.sysTime false else s

/-! ## Records (16 R549, R552) -/

/-- A record's 32-byte header. -/
def recHeader (k : Nat) (v : VStream) (r : VRec) (trig short : Bool) (idx : Nat) : List Byte :=
  leBytes 1 0xA7 ++ leBytes 1 (r.kind + 16 * k + b2n trig * 64 + b2n short * 128)
    ++ leBytes 1 (r.red + b2n v.rmode * 16 + b2n (0 < v.drops) * 128) ++ leBytes 1 0
    ++ leBytes 2 r.payload.length ++ leBytes 2 (if trig then idx else 0xFFFF)
    ++ leBytes 4 (v.seq + 1) ++ leBytes 4 (min v.drops 0xFFFFFFFF) ++ leBytes 8 (r.times.headD 0)
    ++ leBytes 4 r.aux0 ++ leBytes 4 r.aux1

/-- A write of M8, 16 bytes at a time, each spending a credit of consumer 0x0B; false at an error response. -/
def Hw.varStore (s : Hw) (a : Nat) (bs : List Byte) : Hw × Bool :=
  foldUp (fun (p : Hw × Bool) i =>
    if p.2 then (p.1.useCredit 11 1).busStore 8 0 (a + 16 * i) (fitBytes 16 ((bs.drop (16 * i)).take 16)) else p)
    0 (cdiv bs.length 16) (s, true)

/-- A record holds a sample at or after the time of a trigger (16 R544, R545). -/
def VRec.takes (r : VRec) (t : Nat) : Bool := r.kind ≠ 5 && r.times.any (fun x => t ≤ x)

/-- The index of the first sample at or after TTRIG, where the record holds a trigger; of the first of several. -/
def recTrig (r : VRec) (l : List Nat) : Option Nat :=
  match l.filter r.takes with
  | [] => none
  | t :: _ => if r.forTrig then some 0 else r.times.findIdx? (fun x => t ≤ x)

/-- R550 at a completion of an AUDIO, GPIO or VIDEO record, with the FIFO's level. -/
def Hw.varReduce (s : Hw) (k level : Nat) : Hw :=
  let s := s.wr F.VAR_SRED_FIFO level k
  if 3072 < level then
    let s := s.modStream k (fun v => { v with low := 0 })
    let a := s.rd F.VAR_SSTAT_AUTO k
    if a < 8 then (((s.wr F.VAR_SSTAT_AUTO (a + 1) k).inc F.VAR_SRED_RAISES 1 k).showRed k).raiseBit bVAR 12 else s
  else s.modStream k (fun v => { v with low := if level ≤ 1024 then v.low + 1 else 0 })

/-- VAR_RECORD_COMPLETE: the oldest complete record of a stream is written, or dropped where the FIFO has no room for it
or, in stream mode, its slot is the one at VAR_SRDPTRs. -/
def Hw.recordComplete (s : Hw) (k level : Nat) (room : Bool) : Hw :=
  let v := s.stream k
  match v.staged with
  | [] => s
  | r :: rest =>
    if !s.on 39 || !s.streamRuns k then s
    else
      let s := s.modStream k (fun v => { v with staged := rest })
      let addr := v.slotAddr v.slot
      let sampled := 1 ≤ r.kind && r.kind ≤ 3
      let reduce := fun (s : Hw) => if sampled && s.streamRuns k then s.varReduce k level else s
      if !room || (v.streamMode && s.rd F.VAR_SRDPTR_ADDR k * 16 = addr) then
        let s := s.modStream k (fun v => { v with seq := v.seq + 1, drops := v.drops + 1 })
        reduce ((s.inc F.VAR_SCNT_DROPPED 1 k).raiseBit bVAR 13)
      else
        let idx := recTrig r v.ttrig
        let trig := idx.isSome
        let short := trig && !v.streamMode && v.made < v.pre
        let w := s.varStore (addr + 32) r.payload
        let w := if w.2 then w.1.varStore addr (recHeader k v r trig short (idx.getD 0)) else w
        if !w.2 then ((w.1.streamEnd k 0).wr F.VAR_SSTAT_ERR 3 k).raiseBit bVAR 14
        else
          let s := w.1.inc F.VAR_SCNT_WRITTEN 1 k
          let next := if v.slots ≤ v.slot + 1 then 0 else v.slot + 1
          let left := if v.streamMode then none
            else if trig then some v.post else v.postLeft.map (fun n => n - 1)
          let s := s.modStream k (fun v => { v with
            seq := v.seq + 1, drops := 0, made := v.made + 1, slot := next, postLeft := left
            ttrig := v.ttrig.filter (fun t => !r.takes t) })
          let s := s.wr F.VAR_SWRPTR_ADDR (v.slotAddr next / 16) k
          let s := if trig then s.wr F.VAR_STRIGPTR_ADDR (addr / 16) k else s
          let s := if left = some 0 then (s.streamEnd k 3).raiseBit bVAR k else s
          reduce s

/-- VAR_AUTO_RELAX (16 R550). -/
def Hw.autoRelax (s : Hw) (k : Nat) : Hw :=
  let v := s.stream k
  let a := s.rd F.VAR_SSTAT_AUTO k
  if s.on 39 && s.streamRuns k && 64 ≤ v.low && v.relax && 0 < a then
    ((s.wr F.VAR_SSTAT_AUTO (a - 1) k).showRed k).modStream k (fun v => { v with low := 0 })
  else s

/-! ## Samples (16 R547, R551) -/

/-- A kept sample enters the record being accumulated; the record is complete when it holds as many whole samples as its
payload takes, and the next begins at the step then in effect. -/
def Hw.sampleIn (s : Hw) (k : Nat) (bs : List Byte) (t aux1 : Nat) : Hw :=
  let v := s.stream k
  if v.skip ≠ 0 then s.modStream k (fun v => { v with skip := v.skip - 1 })
  else
    let red := if v.acc.isNone then s.varRed k else v.red
    let r : VRec := v.acc.getD ⟨v.src, [], [], 0, aux1, red, false⟩
    let r := { r with times := r.times ++ [t], payload := r.payload ++ bs, aux0 := r.times.length + 1 }
    let full := v.payload / bs.length ≤ r.times.length
    s.modStream k (fun v => { v with
      red := red, skip := 2 ^ red - 1
      acc := if full then none else some r
      staged := if full then v.staged ++ [r] else v.staged })

/-- A sample period's sample for the AUDIO streams. -/
def Hw.varAudio (s : Hw) : Hw :=
  if !s.on 39 then s
  else
    foldUp (fun s k =>
      let v := s.stream k
      if s.streamRuns k && v.src = 2 then
        let p := s.tapValue v.tap
        let w := fun (x : Int) => leBytes 4 (ux 32 x)
        let mono := (0x10 ≤ v.tap && v.tap ≤ 0x13) || 0x22 ≤ v.tap
        s.sampleIn k (if mono then w p.1 else w p.1 ++ w p.2) s.sysTime v.tap
      else s) 0 4 s

/-- A tick of the GPIO sample clock for the GPIO streams: a sample every 2^DIV ticks. -/
def Hw.varGpioSample (s : Hw) : Hw :=
  if !s.on 39 then s
  else
    foldUp (fun s k =>
      let v := s.stream k
      if s.streamRuns k && v.src = 3 && s.sysTime % 2 ^ v.div = 0 then
        let g := ofBits ((List.range v.width).filter (fun b => s.pinIn (v.pbase + b)))
        s.sampleIn k (leBytes (v.width / 8) g) s.sysTime (v.pbase + v.cfgBits 4 9 8 * 256 + v.div * 65536)
      else s) 0 4 s

/-- A pixel of 24 bits, and its Y (16 R547). -/
def pxR (p : Nat) : Nat := p / 65536 % 256
def pxG (p : Nat) : Nat := p / 256 % 256
def pxB (p : Nat) : Nat := p % 256
def pxY (p : Nat) : Nat := (77 * pxR p + 150 * pxG p + 29 * pxB p + 128) / 256

/-- Elements `i, i + d, i + 2d, …` of a list, `n` of them. -/
def every {α : Type} (d : α) (l : List α) (i step n : Nat) : List α :=
  (List.range n).map (fun j => l.getD (i + step * j) d)

/-- The payload of captured pixels. Camera pixels are Y, Cb, Cr in bits 23..16, 15..8, 7..0. -/
def videoBytes (vtap fmt : Nat) (px : List Nat) : List Byte :=
  let n := fun (x : Nat) => BitVec.ofNat 8 x
  if vtap = 2 then
    if fmt = 2 then px.map (fun p => n (pxR p))
    else (List.range (px.length / 2)).flatMap (fun i =>
      let a := px.getD (2 * i) 0
      let b := px.getD (2 * i + 1) 0
      [n (pxR a), n (pxG a), n (pxR b), n (pxB a)])
  else match fmt with
    | 0 => px.flatMap (fun p => [n (pxR p), n (pxG p), n (pxB p)])
    | 1 => px.flatMap (fun p => leBytes 2 (pxR p / 8 * 2048 + pxG p / 4 * 32 + pxB p / 8))
    | _ => px.map (fun p => n (pxY p))

/-- A frame starts at a video tap: streams on it take the step in effect (16 R551). -/
def Hw.varFrameStart (s : Hw) (tap : Nat) : Hw :=
  if !s.on 39 then s
  else
    foldUp (fun s k =>
      let v := s.stream k
      if s.streamRuns k && v.src = 1 && v.vtap = tap then
        let red := s.varRed k
        s.modStream k (fun v => { v with frame := v.frame + 1, red := red })
      else s) 0 4 s

/-- A line of a video tap: its pixels, the time of its first pixel, and pixel time as a fraction of ticks. -/
def Hw.varLine (s : Hw) (tap line : Nat) (px : List Nat) (t num den : Nat) : Hw :=
  if !s.on 39 then s
  else
    foldUp (fun s k =>
      let v := s.stream k
      let f := v.frame - 1
      let step := 2 ^ v.red
      let take := s.streamRuns k && v.src = 1 && v.vtap = tap && 0 < v.frame && v.y0 ≤ line && line ≤ v.y1
        && (if v.rmode then f % step = 0 else (line - v.y0) % step = 0)
      if take then
        let st := if v.rmode then 1 else step
        let n := cdiv (v.x1 + 1 - v.x0) st
        let kept := every 0 px v.x0 st n
        let times := (List.range n).map (fun i => t + (v.x0 + st * i) * num / (if den = 0 then 1 else den))
        s.stage k ⟨1, times, videoBytes tap v.fmt kept, f % 65536 * 65536 + line, n, v.red, false⟩
      else s) 0 4 s

/-- A MARK record on every running stream with MARKS set (16 R548). -/
def Hw.varMark (s : Hw) (a b : Nat) : Hw :=
  if !s.on 39 then s
  else
    foldUp (fun s k =>
      if s.streamRuns k && (s.stream k).marks then s.stage k ⟨5, [s.sysTime], [], a, b, 0, false⟩ else s) 0 4 s

/-! ## Histograms (16 R555, R556) -/

/-- The tap of the histograms; code 3 acts as 0. -/
def Hw.histTap (s : Hw) : Nat := s.rd F.VAR_CTRL_HTAP % 3

/-- Addresses of bin `v` of region `r` and of the summary of a region in a bank. -/
def histBin (bank r v : Nat) : Nat := 0x02050000 + 0x2000 * bank + 1024 * r + 4 * v
def histSum (bank r : Nat) : Nat := 0x02054000 + 0x80 * bank + 16 * r

/-- A pixel's value in the channel that is counted. -/
def histValue (tap ch p : Nat) : Nat :=
  if tap = 2 then (match ch with | 1 => pxG p | 2 => pxB p | _ => pxR p)
  else match ch with
    | 1 => pxR p | 2 => pxG p | 3 => pxB p | 4 => max (pxR p) (max (pxG p) (pxB p)) | _ => pxY p

/-- The histograms run. -/
def Hw.histOn (s : Hw) (tap : Nat) : Bool := s.on 39 && s.on 40 && s.rdB F.VAR_CTRL_HEN && s.histTap = tap

/-- One pixel counted in region `r` of the accumulating bank. -/
def Hw.histCount (s : Hw) (r v : Nat) : Hw :=
  let bank := 1 - s.rd F.VAR_STAT_HBANK
  let put := fun (s : Hw) (a n : Nat) => s.setBytes a (leBytes 4 n)
  let b := histBin bank r v
  let m := histSum bank r
  let s := put s b (s.mem32 b + 1)
  let s := put (put s m (s.mem32 m + 1)) (m + 4) (s.mem32 (m + 4) + v)
  put (put s (m + 8) (min (s.mem32 (m + 8)) v)) (m + 12) (max (s.mem32 (m + 12)) v)

/-- A line of the histograms' tap. -/
def Hw.histLine (s : Hw) (tap line : Nat) (px : List Nat) : Hw :=
  if !s.histOn tap then s
  else
    let ch := s.rd F.VAR_CTRL_HCH
    foldUp (fun s r =>
      let x0 := s.rd F.VAR_HRGN_X_X0 r
      let x1 := s.rd F.VAR_HRGN_X_X1 r
      if x0 ≤ x1 && s.rd F.VAR_HRGN_Y_Y0 r ≤ line && line ≤ s.rd F.VAR_HRGN_Y_Y1 r then
        ((px.drop x0).take (x1 + 1 - x0)).foldl (fun s p => s.histCount r (histValue tap ch p)) s
      else s) 0 8 s

/-- The tap's frame start clears the accumulating bank: COUNT and SUM 0, MIN 255, MAX 0. -/
def Hw.histFrameStart (s : Hw) (tap : Nat) : Hw :=
  if !s.histOn tap then s
  else
    let bank := 1 - s.rd F.VAR_STAT_HBANK
    let s := s.zeroMem (0x02050000 + 0x2000 * bank) (0x02052000 + 0x2000 * bank)
    let s := s.zeroMem (0x02054000 + 0x80 * bank) (0x02054080 + 0x80 * bank)
    foldUp (fun s r => s.setBytes (histSum bank r + 8) (leBytes 4 255)) 0 8 s

/-- A region's mean in a bank. -/
def Hw.histMean (s : Hw) (bank r : Nat) : Nat :=
  divOr0 (s.mem32 (histSum bank r + 4)) (s.mem32 (histSum bank r))

/-- HISTOGRAM_SWAP. -/
def Hw.histSwap (s : Hw) : Hw :=
  if s.on 39 && s.on 40 && s.rdB F.VAR_CTRL_HEN then
    let b := s.rd F.VAR_STAT_HBANK
    let old := (List.range 8).map (s.histMean b)
    let new := (List.range 8).map (s.histMean (1 - b))
    let s := ((s.wr F.VAR_STAT_HBANK (1 - b)).wr F.VAR_HCNT_FRAMES (s.rd F.VAR_HCNT_FRAMES + 1)).raiseBit bVAR 17
    s.varScalars ((List.range 8).map (fun r => (0x60 + r, (old.getD r 0 : Int), (new.getD r 0 : Int))))
  else s

/-! ## Persistence maps (16 R557 to R559) -/

/-- The signature of block (bx, by) of a frame of `w` pixels a line: the CRC-32 over its pixels, line by line, each red,
green, blue. -/
def blockSig (frame : List (List Nat)) (w bx b_y : Nat) : Nat :=
  let px := ((frame.drop (8 * b_y)).take 8).flatMap (fun l => ((l.take w).drop (8 * bx)).take 8)
  crc32 (px.flatMap (fun p => [BitVec.ofNat 8 (pxR p), BitVec.ofNat 8 (pxG p), BitVec.ofNat 8 (pxB p)]))

/-- A map's update at a frame's end: base address, the frame, its size, and the signatures of the last frame. -/
def Hw.mapUpdate (s : Hw) (base : Nat) (frame : List (List Nat)) (w h : Nat) (old : List (Nat × Nat)) :
    Hw × List (Nat × Nat) :=
  foldUp (fun p b_y => foldUp (fun (p : Hw × List (Nat × Nat)) bx =>
      let i := 256 * b_y + bx
      let sig := blockSig frame w bx b_y
      let same := old.contains (i, sig)
      let c := (p.1.byte (base + i)).toNat
      (p.1.setByte (base + i) (BitVec.ofNat 8 (if same then min 255 (c + 1) else 0)), (i, sig) :: p.2))
    0 (cdiv w 8) p) 0 (cdiv h 8) (s, [])

/-- Map A at a frame's end (16 R558, R559). -/
def Hw.mapA (s : Hw) (frame : List (List Nat)) (w h : Nat) : Hw :=
  if s.on 39 && s.on 40 then
    let r := s.mapUpdate 0x02030000 frame w h s.var.sigA
    { r.1 with var := { r.1.var with sigA := r.2 } }
  else s

/-- Map B at the end of a frame of its tap: 0, or 2 with PBTAP = 2. -/
def Hw.mapB (s : Hw) (tap : Nat) (frame : List (List Nat)) (w h : Nat) : Hw :=
  if s.on 39 && s.on 40 && s.rdB F.VAR_CTRL_PBEN && (if s.rd F.VAR_CTRL_PBTAP = 2 then 2 else 0) = tap then
    let r := s.mapUpdate 0x02040000 frame w h s.var.sigB
    { r.1 with var := { r.1.var with sigB := r.2 } }
  else s

/-- The maps of the output taps at a raster start and at the end of a seam: counts 0, signatures discarded. -/
def Hw.mapsReset (s : Hw) : Hw :=
  let s := ({ s with var := { s.var with sigA := [] } } : Hw).zeroMem 0x02030000 0x02040000
  if s.rd F.VAR_CTRL_PBTAP = 2 then s
  else ({ s with var := { s.var with sigB := [] } } : Hw).zeroMem 0x02040000 0x02050000

/-- Map B on the camera when the camera's frame size changes. -/
def Hw.mapsCamera (s : Hw) : Hw :=
  if s.rd F.VAR_CTRL_PBTAP = 2 then
    ({ s with var := { s.var with sigB := [] } } : Hw).zeroMem 0x02040000 0x02050000
  else s

/-! ## TRIG balls (16 R536, R560; 17 R588) -/

/-- An edge on TRIG0 or TRIG1: TRIGIN units, and with IENi a rising edge requests an event on the input's line. -/
def Hw.trigEdge (s : Hw) (i : Nat) (rising : Bool) : Hw :=
  let s := s.varTrigin i rising
  let en := if i = 0 then s.rdB F.BRG_BIO_IEN0 else s.rdB F.BRG_BIO_IEN1
  let line := if i = 0 then s.rd F.BRG_BIO_ILINE0 else s.rd F.BRG_BIO_ILINE1
  if rising && en && s.on 21 then (s.buntRequest line).1 else s

/-! ## Meanings -/

/-- VAR_STREAM_START. `reachesDone`: the stream reaches DONE in the cycle of the write. -/
def execVarStreamStart (stream : Fin 4) (reachesDone : Bool) (s : State) : Host.Outcome State Fault Refusal :=
  s.onHw fun h => h.streamStart stream reachesDone

/-- VAR_STREAM_STOP (16 R546). -/
def execVarStreamStop (stream : Fin 4) (s : State) : Host.Outcome State Fault Refusal :=
  s.onHw fun h => if h.on 39 && h.streamRuns stream then h.streamEnd stream 0 else h

/-- VAR_SWTRIG. -/
def execVarSwtrig (stream : Fin 4) (s : State) : Host.Outcome State Fault Refusal :=
  s.onHw fun h => h.swTrigger stream

/-- VAR_RECORD_COMPLETE: `level` the FIFO's level and `room` whether the FIFO had room for the record, which depend on how
fast M8 was served. -/
def execVarRecordComplete (stream : Fin 4) (level : Nat) (room : Bool) (s : State) : Host.Outcome State Fault Refusal :=
  s.onHw fun h => h.recordComplete stream (min level 4096) room

/-- VAR_AUTO_RELAX. -/
def execVarAutoRelax (stream : Fin 4) (s : State) : Host.Outcome State Fault Refusal :=
  s.onHw fun h => h.autoRelax stream

/-- TRIG_INPUT_EDGE: an edge on a TRIG ball whose function reaches its pin (18 R617). -/
def execTrigInputEdge (ball : Fin 2) (rising : Bool) (s : State) : Host.Outcome State Fault Refusal :=
  s.onHw fun h => if h.fnActive (4 + ball) then h.trigEdge ball rising else h

/-- TRIG_PULSE_END (16 R560). -/
def execTrigPulseEnd (ball : Fin 2) (s : State) : Host.Outcome State Fault Refusal :=
  s.onHw fun h =>
    if h.var.pulse.getD ball false then
      { h.setFn (4 + ball) false false with var := { h.var with pulse := h.var.pulse.set ball false } }
    else h

end Sys2Proof.Machine
end

