-- ==== Sys2Proof/Machine/Cop.lean ====
section
/-! DEFINITION. The coprocessor slots (08 R291 to R303): issue, queues, results, remote slots and their packets, and the
commands of slots 1, 2 and 3. The row of an on-chip command is the cycle in which its slot takes it (log 18). -/

namespace Sys2Proof.Machine

open Sys2Proof

/-! ## Packets to other nodes (17 R591, R595) -/

/-- This node's ID; 0xFF before an enumeration. -/
def Hw.nodeId (s : Hw) : Nat := s.rd F.BRG_STAT_ID

/-- A packet waits to be inserted into a superframe; a node with ID 0xFF inserts none (17 R579). -/
def Hw.linkSend (s : Hw) (p : LPkt) : Hw :=
  if s.nodeId = 0xFF then s else { s with brg := { s.brg with out := s.brg.out ++ [p] } }

/-- A request packet: it waits for its response and may be sent again (17 R595). -/
def Hw.linkRequest (s : Hw) (p : LPkt) : Hw :=
  let s := s.linkSend p
  { s with brg := { s.brg with waiting := s.brg.waiting ++ [(p, 0)] } }

/-- A request's response has come, or the request has ended: it is sent no more. -/
def Hw.linkDone (s : Hw) (kinds : List Nat) (node tag : Nat) : Hw :=
  { s with brg := { s.brg with
    waiting := s.brg.waiting.filter (fun e => !(kinds.contains e.1.kind && e.1.dst = node && e.1.tag = tag)) } }

/-- A response packet, kept for 2 ms for a repeated request (17 R595). -/
def Hw.linkAnswer (s : Hw) (src tag kind : Nat) (p : LPkt) : Hw :=
  let s := s.linkSend p
  { s with brg := { s.brg with answered := ⟨src, tag, kind, p, s.sysTime⟩ :: s.brg.answered } }

/-- The response stored for a request that was answered within the last 2 ms. -/
def Hw.linkAnswered (s : Hw) (src tag kind : Nat) : Option LPkt :=
  (s.brg.answered.find? (fun a => a.src = src && a.tag = tag && a.kind = kind && s.sysTime ≤ a.time + 200000)).map (·.resp)

/-! ## Queues (08 R291, R292) -/

/-- The number of result words of an on-chip op; none where the op is undefined (08 R295). -/
def copWords (slot op : Nat) : Option Nat :=
  match slot, op with
  | 0, 1 => some 0 | 0, 2 => some 1 | 0, 3 => some 1
  | 1, 1 => some 0 | 1, 2 => some 0 | 1, 3 => some 0 | 1, 4 => some 1
  | 2, 1 => some 2 | 2, 2 => some 2 | 2, 3 => some 1 | 2, 4 => some 2 | 2, 5 => some 1 | 2, 6 => some 1
  | 2, 7 => some 1 | 2, 8 => some 1 | 2, 9 => some 1
  | 3, 1 => some 0 | 3, 2 => some 0 | 3, 3 => some 1 | 3, 4 => some 2
  | _, _ => none

/-- The queue of eft `e` for a slot. -/
def Hw.copQueue (s : Hw) (e slot : Nat) : List CopEntry := s.cop.queues.getD (8 * e + slot) []

/-- The queue of eft `e` for a slot, changed. -/
def Hw.modQueue (s : Hw) (e slot : Nat) (f : List CopEntry → List CopEntry) : Hw :=
  { s with cop := { s.cop with queues := modAt s.cop.queues (8 * e + slot) f } }

/-- EFT_COPCFGs and EFT_COPSTATs (08 Registers). -/
def copCfg (slot hi lo : Nat) : FieldRef := ⟨0x04130180 + 4 * slot, 0, hi, lo⟩
def copStat (slot hi lo : Nat) : FieldRef := ⟨0x041301A0 + 4 * slot, 0, hi, lo⟩

/-- What slot 0 refuses a LIST_RUN for (13 R465). -/
def Hw.listRunRefused (s : Hw) (a : Nat) : Bool :=
  !(a < 0x01000000 && a % 16 = 0) || s.rdB F.ANO_STAT_LIST || s.rdB F.ANO_STAT_REG || s.actLu 0x0D = 0

/-- The check of an on-chip command at issue: the cause it is refused with, 1 BADOP or 2 NOTPERM (08 R295, R302). -/
def Hw.copRefusal (s : Hw) (slot op : Nat) (a b : Word) : Option Nat :=
  let n := a.toNat
  match copWords slot op with
  | none => some 1
  | some _ =>
    let bad := match slot, op with
      | 0, 1 => s.listRunRefused n
      | 0, 3 => 31 < n
      | 1, 1 => 240 ≤ n || !s.on (voiceDomain n) || !(b.toNat < 0x01000000 && b.toNat % 32 = 0)
      | 1, _ => 240 ≤ n
      | 3, 3 => 3 < n
      | _, _ => false
    if bad then some 2 else none

/-- EFA of a COP exception (08 R302). -/
def copEfa (status op slot cause : Nat) : Word :=
  BitVec.ofNat 32 (status % 16 * 2 ^ 24 + op % 256 * 2 ^ 16 + slot % 8 * 256 + cause)

/-- The first failed entry of an eft's queue for a slot raises COP at the next instruction that names the slot: EFA, with
the entry freed (08 R299). -/
def Hw.copFailure (s : Hw) (e slot : Nat) : Option (Hw × Word) :=
  match (s.copQueue e slot).find? (fun t => t.fail.isSome) with
  | some t =>
    let f := t.fail.getD (0, 0)
    some (s.modQueue e slot (fun q => q.filter (fun u => u.entry ≠ t.entry)), copEfa f.2 t.op slot f.1)
  | none => none

/-- How an issue ends. -/
inductive CopIssue where
  | taken | stall | raise (efa : Word)
  deriving DecidableEq, Repr

/-- A command issued by eft `e` (08 R291, R295, R297). -/
def Hw.copIssue (s : Hw) (e : Fin 4) (slot op : Nat) (a b : Word) : Hw × CopIssue :=
  match s.copFailure e slot with
  | some f => (f.1, .raise f.2)
  | none =>
    let q := s.copQueue e slot
    let refusal := if slot < 4 then s.copRefusal slot op a b
      else if !s.rdB (copCfg slot 15 15) || s.nodeAbsent (s.rd (copCfg slot 6 0)) then some 7 else none
    match refusal with
    | some c => (s, .raise (copEfa 0 op slot c))
    | none =>
      if 4 ≤ q.length then
        if q.all (fun t => t.done && !t.words.isEmpty) then (s, .raise (copEfa 0 op slot 4)) else (s, .stall)
      else
        let n := s.cop.next
        let tag := if slot < 4 then 0 else s.cop.tags.getD (slot - 4) 0
        let s := s.modQueue e slot (fun q => q ++ [⟨n, op, tag, false, [], none⟩])
        let s := { s with cop := { s.cop with next := n + 1 } }
        if slot < 4 then
          ({ s with cop := { s.cop with slots := modAt s.cop.slots slot (fun l => l ++ [⟨.eft e n, op, a, b⟩]) } }, .taken)
        else
          let node := s.rd (copCfg slot 6 0)
          let hd := leBytes 4 (op % 256 + (s.rd (copCfg slot 10 8) + 16 * e) * 256 + tag * 65536)
          let s := { s with cop := { s.cop with tags := s.cop.tags.set (slot - 4) ((tag + 1) % 256) } }
          (s.linkRequest ⟨6, node, s.nodeId, tag, 0, true, hd ++ leBytes 4 a.toNat ++ leBytes 4 b.toNat, true⟩, .taken)

/-- How a read of a result word ends. -/
inductive CopRead where
  | word (w : Word) | wait | raise (efa : Word)
  deriving DecidableEq, Repr

/-- Whether an entry will or may yield a further word. -/
def CopEntry.yields (t : CopEntry) (slot : Nat) : Bool :=
  !t.words.isEmpty || (!t.done && (4 ≤ slot || copWords slot t.op ≠ some 0))

/-- A read of the next result word of a slot by eft `e` (08 R292). -/
def Hw.copRead (s : Hw) (e : Fin 4) (slot : Nat) : Hw × CopRead :=
  match s.copFailure e slot with
  | some f => (f.1, .raise f.2)
  | none =>
    match (s.copQueue e slot).find? (fun t => t.yields slot) with
    | none => (s, .raise (copEfa 0 0 slot 3))
    | some t =>
      match t.words with
      | [] => (s, .wait)
      | [w] => (s.modQueue e slot (fun q => q.filter (fun u => u.entry ≠ t.entry)), .word w)
      | w :: ws =>
        (s.modQueue e slot (fun q => q.map (fun u => if u.entry = t.entry then { u with words := ws } else u)), .word w)

/-- The queues of an eft that is stopped or restarted are emptied (08 R303). -/
def Hw.copClear (s : Hw) (e : Nat) : Hw := foldUp (fun s slot => s.modQueue e slot (fun _ => [])) 0 8 s

/-! ## Completion (08 R291, R295, R298) -/

/-- The 12 bytes of a response. -/
def copResponseBytes (op slot eft tag status : Nat) (ws : List Word) : List Byte :=
  leBytes 4 (op % 256 + (slot % 8 + 16 * (eft % 4)) * 256 + tag % 256 * 65536 + (status + 16 * ws.length) * 2 ^ 24)
    ++ leBytes 4 (ws.getD 0 0#32).toNat ++ leBytes 4 (ws.getD 1 0#32).toNat

/-- A response to a remote requester. -/
def Hw.copAnswer (s : Hw) (node op slot eft tag status : Nat) (ws : List Word) : Hw :=
  s.linkAnswer node tag 6 ⟨7, node, s.nodeId, tag, 0, true, copResponseBytes op slot eft tag status ws, true⟩

/-- A slot completes a command: its entry gets its words, or is freed where there are none; words without an entry are
discarded; a remote requester gets its response. -/
def Hw.copComplete (s : Hw) (slot : Nat) (c : CopCmd) (ws : List Word) : Hw :=
  match c.src with
  | .eft e n =>
    s.modQueue e slot (fun q =>
      if ws.isEmpty then q.filter (fun t => t.entry ≠ n)
      else q.map (fun t => if t.entry = n then { t with done := true, words := ws } else t))
  | .remote node eft tag => s.copAnswer node c.op slot eft tag 0 ws

/-- An on-chip slot takes its front command, if it is idle and the command has this op. -/
def Hw.slotTake (s : Hw) (slot op : Nat) (f : Hw → CopCmd → Hw × List Word) : Hw :=
  if !(s.cop.results.getD slot []).isEmpty || (slot = 0 && !s.cop.fenceWaits.isEmpty) then s
  else
    match s.cop.slots.getD slot [] with
    | [] => s
    | c :: rest =>
      if c.op = op then
        let r := f { s with cop := { s.cop with slots := s.cop.slots.set slot rest } } c
        { r.1 with cop := { r.1.cop with results := r.1.cop.results.set slot [(c, r.2)] } }
      else s

/-- A result of slot 2 that was saturated, or came from a division by zero or an overflow (08 R296). -/
def Hw.arith (s : Hw) (c : Bool) : Hw := if c then s.wr F.EFT_COPSTAT2_ARITH 1 else s

/-- A fence signalled `n` times in one cycle (11 R400): its count wraps; a FENCE_WAIT on it completes with the count after
the signal (13 R465). -/
def Hw.signalFence (s : Hw) (f n : Nat) : Hw :=
  if !s.on 22 || n = 0 then s
  else
    let s := s.wr F.CMP_FENCE_COUNT ((s.rd F.CMP_FENCE_COUNT f + n) % 65536) f
    let w := BitVec.ofNat 32 (s.rd F.CMP_FENCE_COUNT f)
    match s.cop.fenceWaits.find? (fun c => c.a.toNat % 32 = f) with
    | some c =>
      { s with cop := { s.cop with fenceWaits := [], results := s.cop.results.set 0 [(c, [w])] } }
    | none => s

/-! ## Remote slots (08 R298 to R301) -/

/-- The waiting entries of a remote slot of an eft that `p` picks fail with a cause. -/
def Hw.copFail (s : Hw) (e slot cause status : Nat) (p : CopEntry → Bool) : Hw :=
  s.modQueue e slot (fun q => q.map (fun t =>
    if !t.done && t.fail.isNone && p t then { t with fail := some (cause, status) } else t))

/-- The link path to a node is lost: every outstanding entry of the slots bound to it fails with LINK (08 R299). -/
def Hw.copLinkLost (s : Hw) (node : Nat) : Hw :=
  foldUp (fun s slot =>
    if s.rdB (copCfg slot 15 15) && s.rd (copCfg slot 6 0) = node then
      foldUp (fun s e => s.copFail e slot 6 0 (fun _ => true)) 0 4 s
    else s) 4 4 s

/-- A response of node `src` arrives (08 R299): its entry completes or fails; without one it is discarded and counted in
LATE of the slot bound to the node. -/
def Hw.copResponse (s : Hw) (src : Nat) (bs : List Byte) : Hw :=
  let sslot := byteAt bs 1 % 8
  let e := byteAt bs 1 / 16 % 4
  let tag := byteAt bs 2
  let status := byteAt bs 3 % 16
  let nres := min 2 (byteAt bs 3 / 16 % 4)
  let bound := (List.range 4).filter (fun i =>
    s.rdB (copCfg (4 + i) 15 15) && s.rd (copCfg (4 + i) 6 0) = src && s.rd (copCfg (4 + i) 10 8) = sslot)
  let open_ := fun (t : CopEntry) => !t.done && t.fail.isNone && t.tag = tag
  match bound.find? (fun i => (s.copQueue e (4 + i)).any open_) with
  | some i =>
    let s := s.linkDone [6] src tag
    if status ≠ 0 then s.copFail e (4 + i) 8 status open_
    else
      let ws := ((List.range 2).map (fun j => BitVec.ofNat 32 (fieldAt bs (4 + 4 * j) 4))).take nres
      s.modQueue e (4 + i) (fun q =>
        if ws.isEmpty then q.filter (fun t => !open_ t)
        else q.map (fun t => if open_ t then { t with done := true, words := ws } else t))
  | none =>
    match bound with
    | i :: _ => s.inc (copStat (4 + i) 23 16)
    | [] => s

/-- A remote request for one of this device's slots (08 R300). -/
def Hw.copServe (s : Hw) (src tag : Nat) (bs : List Byte) : Hw :=
  match s.linkAnswered src tag 6 with
  | some p => s.linkSend p
  | none =>
    let op := byteAt bs 0
    let slot := byteAt bs 1 % 8
    let eft := byteAt bs 1 / 16 % 4
    let a := BitVec.ofNat 32 (fieldAt bs 4 4)
    let b := BitVec.ofNat 32 (fieldAt bs 8 4)
    let refuse := fun (st : Nat) => s.copAnswer src op slot eft tag st []
    let remote := fun (c : CopCmd) => match c.src with | .remote _ _ _ => true | .eft _ _ => false
    let here := (s.cop.slots.getD slot []).filter remote ++ ((s.cop.results.getD slot []).map (·.1)).filter remote
      ++ (if slot = 0 then s.cop.fenceWaits.filter remote else [])
    if 4 ≤ slot then refuse 4
    else if here.any (fun c => c.src = .remote src eft tag) then s
    else if !bit (s.policyByte 0) slot then refuse 2
    else match s.copRefusal slot op a b with
      | some c => refuse c
      | none =>
        if 8 ≤ here.length then refuse 3
        else { s with cop := { s.cop with
          slots := modAt s.cop.slots slot (fun l => l ++ [⟨.remote src eft tag, op, a, b⟩]) } }

/-! ## Slot 1: the voice engine -/

/-- KEY_ON: it acts at the next boundary. -/
def execKeyOn (s : State) : Host.Outcome State Fault Refusal :=
  s.onHw fun h => h.slotTake 1 1 fun h c =>
    ({ h with voc := { h.voc with cmds := h.voc.cmds ++ [.keyOn c.a.toNat c.b.toNat] } }, [])

/-- KEY_OFF. -/
def execKeyOff (s : State) : Host.Outcome State Fault Refusal :=
  s.onHw fun h => h.slotTake 1 2 fun h c => ({ h with voc := { h.voc with cmds := h.voc.cmds ++ [.keyOff c.a.toNat] } }, [])

/-- PITCH. -/
def execPitch (s : State) : Host.Outcome State Fault Refusal :=
  s.onHw fun h => h.slotTake 1 3 fun h c =>
    ({ h with voc := { h.voc with cmds := h.voc.cmds ++ [.pitch c.a.toNat c.b.toNat] } }, [])

/-- POS: position in bits 23..0, state in bits 30..28, as they stand (14 R479). -/
def execPos (s : State) : Host.Outcome State Fault Refusal :=
  s.onHw fun h => h.slotTake 1 4 fun h c =>
    let v := h.voice c.a.toNat
    (h, [BitVec.ofNat 32 (v.pos / 65536 % 2 ^ 24 + v.state * 2 ^ 28)])

/-! ## Slot 2: the math unit (08 R296) -/

/-- DIV. -/
def execDiv (s : State) : Host.Outcome State Fault Refusal :=
  s.onHw fun h => h.slotTake 2 1 fun h c => let r := mathDiv c.a c.b; (h.arith r.2.2, [r.1, r.2.1])

/-- DIVU. -/
def execDivu (s : State) : Host.Outcome State Fault Refusal :=
  s.onHw fun h => h.slotTake 2 2 fun h c => let r := mathDivu c.a c.b; (h.arith r.2.2, [r.1, r.2.1])

/-- SQRT. -/
def execSqrt (s : State) : Host.Outcome State Fault Refusal :=
  s.onHw fun h => h.slotTake 2 3 fun h c => (h, [mathSqrt c.a])

/-- SINCOS: which value within the bound is free. -/
def execSincos (s : State) : Host.Outcome State Fault Refusal :=
  s.onHw fun h => h.slotTake 2 4 fun h c =>
    let f := h.free
    let g := f.2.free
    let r := mathSincos f.1 g.1 c.a
    (g.2, [r.1, r.2])

/-- ATAN2: which value within the bound is free. -/
def execAtan2 (s : State) : Host.Outcome State Fault Refusal :=
  s.onHw fun h => h.slotTake 2 5 fun h c => let f := h.free; (f.2, [mathAtan2 f.1 c.a c.b])

/-- RECIP. -/
def execRecip (s : State) : Host.Outcome State Fault Refusal :=
  s.onHw fun h => h.slotTake 2 6 fun h c => let r := mathRecip c.a; (h.arith r.2, [r.1])

/-- SADD. -/
def execSadd (s : State) : Host.Outcome State Fault Refusal :=
  s.onHw fun h => h.slotTake 2 7 fun h c => let r := mathSat (c.a.toInt + c.b.toInt); (h.arith r.2, [r.1])

/-- SSUB. -/
def execSsub (s : State) : Host.Outcome State Fault Refusal :=
  s.onHw fun h => h.slotTake 2 8 fun h c => let r := mathSat (c.a.toInt - c.b.toInt); (h.arith r.2, [r.1])

/-- SMUL. -/
def execSmul (s : State) : Host.Outcome State Fault Refusal :=
  s.onHw fun h => h.slotTake 2 9 fun h c => let r := mathSat (sarI (c.a.toInt * c.b.toInt) 16); (h.arith r.2, [r.1])

/-! ## Slot 3: Varan -/

/-- SWTRIG: a trigger for each named stream (16 R540). -/
def execSwtrig (s : State) : Host.Outcome State Fault Refusal :=
  s.onHw fun h => h.slotTake 3 1 fun h c =>
    (foldUp (fun h k => if bit c.a.toNat k then h.swTrigger k else h) 0 4 h, [])

/-- MARK (16 R548). -/
def execVarMarkCmd (s : State) : Host.Outcome State Fault Refusal :=
  s.onHw fun h => h.slotTake 3 2 fun h c => (h.varMark c.a.toNat c.b.toNat, [])

/-- STATE: VAR_SSTATs of the stream in A. -/
def execVarStateCmd (s : State) : Host.Outcome State Fault Refusal :=
  s.onHw fun h => h.slotTake 3 3 fun h c => (h, [h.reg (F.VAR_SSTAT_PHASE.addr (c.a.toNat % 4))])

/-- STIME: both words of system time, latched together. -/
def execStime (s : State) : Host.Outcome State Fault Refusal :=
  s.onHw fun h => h.slotTake 3 4 fun h _ =>
    (h, [BitVec.ofNat 32 h.sysTime, BitVec.ofNat 32 (h.sysTime / 2 ^ 32)])

/-! ## Completion rows -/

/-- COP_RESULT_READY: the command that an on-chip slot took completes. -/
def execCopResultReady (slot : Fin 4) (s : State) : Host.Outcome State Fault Refusal :=
  s.onHw fun h =>
    match h.cop.results.getD slot [] with
    | [] => h
    | (c, ws) :: rest =>
      ({ h with cop := { h.cop with results := h.cop.results.set slot rest } } : Hw).copComplete slot c ws

/-- COP_REMOTE_TIMEOUT: the entry at a place of an eft's queue for slot 4 + `slot` has had no response within
EFT_COPCFGs.TIMEOUT; a TIMEOUT of 0 is no limit. -/
def execCopRemoteTimeout (slot e place : Fin 4) (s : State) : Host.Outcome State Fault Refusal :=
  s.onHw fun h =>
    match (h.copQueue e (4 + slot))[(place : Nat)]? with
    | some t =>
      if h.rd (copCfg (4 + slot) 31 16) = 0 || t.done || t.fail.isSome then h
      else (h.copFail e (4 + slot) 5 0 (fun u => u.entry = t.entry)).linkDone [6] (h.rd (copCfg (4 + slot) 6 0)) t.tag
    | none => h

end Sys2Proof.Machine
end

