-- ==== Sys2Proof/Machine/Layers.lean ====
section
/-! DEFINITION. The layers (10): pixel formats, palettes, tile planes, the window plane and the object layer, each as the
list of the pixels it delivers on one line. -/

namespace Sys2Proof.Machine

open Sys2Proof

/-! ## Fetches (10 R356, R381; 06 R206) -/

/-- Consumer `k` is shed (06 R213). -/
def Hw.shed (s : Hw) (k : Nat) : Bool := bit (s.rd F.LDG_SHEDSTAT_SHED) (k - 1)

/-- A fetch of `n` bytes at `a` by a display master, in 16-byte accesses that spend consumer `k`'s credits; a byte of an
access that ended with an error is missing. Addresses are taken modulo `m`. -/
def Hw.fetch (s : Hw) (master : Fin 12) (id k a n m : Nat) : Hw × List (Option Byte) :=
  let first := a / 16
  let count := if n = 0 then 0 else (a + n - 1) / 16 + 1 - first
  let r := foldUp (fun (p : Hw × List (Option Byte)) g =>
    let s := p.1.useCredit k 1
    let q := readReq master id (16 * g % m) 16
    match s.decode q with
    | some e => (s.logDecode q e, p.2 ++ List.replicate 16 none)
    | none => (s.touchBank (16 * g % m), p.2 ++ (s.bytes (16 * g % m) 16).map some)) first count (s, [])
  (r.1, (r.2.drop (a % 16)).take n)

/-- The number that `n` fetched bytes from byte `i` on spell; none where one is missing. -/
def fetched (l : List (Option Byte)) (i n : Nat) : Option Nat :=
  let bs := (l.drop i).take n
  if bs.length = n && bs.all Option.isSome then some (leNat (bs.map (·.getD 0#8))) else none

/-- Pixel `i` of packed pixels of `d` bits (10 R345). -/
def fetchedPixel (l : List (Option Byte)) (i d : Nat) : Option Nat :=
  if d < 8 then (fetched l (i * d / 8) 1).map (fun b => b / 2 ^ (i * d % 8) % 2 ^ d) else fetched l (i * d / 8) (d / 8)

/-! ## Colours (10 R344, R346, R347) -/

/-- A colour of 24 bits with its alpha. -/
abbrev Px := Nat × Nat

/-- Entry `e` of palette `p` of the set in use. -/
def Hw.clut (s : Hw) (p e : Nat) : Px :=
  let w := s.mem32 (0x02000000 + 0x4000 * s.rdA F.CMP_PALSET_SET + 0x400 * (p % 16) + 4 * (e % 256))
  (w % 2 ^ 24, w / 2 ^ 24)

/-- 5- and 6-bit channels widened. -/
def widen5 (c : Nat) : Nat := c * 8 + c / 4
def widen6 (c : Nat) : Nat := c * 4 + c / 16

/-- Red, green and blue as a colour. -/
def rgb (r g b : Nat) : Nat := r * 65536 + g * 256 + b

/-- An RGB565 pixel. -/
def rgb565 (v : Nat) : Nat := rgb (widen5 (v / 2048 % 32)) (widen6 (v / 32 % 64)) (widen5 (v % 32))

/-- The colour of value `v` in a format of planes: 0 I2, 1 I4, 2 I8, 3 RGB565, 4 ARGB8888, with palette `p` and
sub-palette `sub`. -/
def Hw.colour (s : Hw) (fmt p sub v : Nat) : Px :=
  match fmt with
  | 0 => s.clut p (4 * sub + v)
  | 1 => s.clut p (16 * sub + v)
  | 2 => s.clut p v
  | 3 => (rgb565 v, 0xFF)
  | _ => (v % 2 ^ 24, v / 2 ^ 24)

/-- Bits per pixel of a plane format. -/
def fmtBits (fmt : Nat) : Nat := match fmt with | 0 => 2 | 1 => 4 | 2 => 8 | 3 => 16 | _ => 32

/-! ## Tile planes (10 R349 to R359) -/

/-- A field of plane `k`, active value. -/
def Hw.pln (s : Hw) (k off hi lo : Nat) : Nat := getBits (s.actReg (0x04040100 + 0x40 * k + off)) hi lo

/-- A plane's configuration has a reserved encoding. -/
def Hw.planeBad (s : Hw) (k : Nat) : Bool :=
  4 < s.pln k 0 2 0 || s.pln k 0 5 4 = 3 || s.pln k 0 9 8 = 3 || 5 < s.pln k 0 18 16 || 5 < s.pln k 0 22 20

/-- Tile and map sizes, format and entry size of a plane. -/
structure PlaneCfg where
  tw : Nat
  th : Nat
  mw : Nat
  mh : Nat
  fmt : Nat
  d : Nat
  e : Nat
  map : Nat
  tile : Nat
  deriving DecidableEq, Repr

/-- The configuration of plane `k`. -/
def Hw.planeCfg (s : Hw) (k : Nat) : PlaneCfg :=
  let f := s.pln k 0 2 0
  ⟨8 * 2 ^ s.pln k 0 5 4, 8 * 2 ^ s.pln k 0 9 8, 32 * 2 ^ s.pln k 0 18 16, 32 * 2 ^ s.pln k 0 22 20, f, fmtBits f,
    if s.pln k 0 12 12 = 1 then 4 else 2, s.pln k 4 23 4 * 16, s.pln k 8 23 4 * 16⟩

/-- A map entry's tile number, flips, priority, palette and sub-palette (10 R351). -/
structure MapEntry where
  tile : Nat
  hflip : Bool
  vflip : Bool
  pri : Bool
  pal : Nat
  sub : Nat
  deriving DecidableEq, Repr

/-- A map entry read. -/
def mapEntry (c : PlaneCfg) (pal w : Nat) : MapEntry :=
  if c.e = 2 then
    ⟨w % 1024, bit w 10, bit w 11, false, if c.fmt = 2 then w / 4096 % 16 else pal, if c.fmt = 2 then 0 else w / 4096 % 16⟩
  else ⟨w % 65536, bit w 24, bit w 25, bit w 26, w / 2 ^ 16 % 16, w / 2 ^ 20 % 16⟩

/-- A plane pixel: colour, alpha, and whether its level is HIk. -/
abbrev PlanePx := Option (Nat × Nat × Bool)

/-- The pixel of a value under an entry (10 R342, R352). -/
def Hw.planePx (s : Hw) (k : Nat) (c : PlaneCfg) (m : MapEntry) (v : Nat) : PlanePx :=
  if c.fmt ≤ 2 && s.pln k 0 28 28 = 1 && v = 0 then none
  else
    let p := s.colour c.fmt m.pal m.sub v
    if p.2 = 0 then none else some (p.1, p.2, m.pri)

/-- The address of the row of a tile that holds line `py` of it. -/
def tileRow (c : PlaneCfg) (m : MapEntry) (py : Nat) : Nat :=
  c.tile + m.tile * (c.tw * c.th * c.d / 8) + (if m.vflip then c.th - 1 - py else py) * (c.tw * c.d / 8)

/-- A line of a plane whose transform is off, from column `x0` for `w` columns. -/
def Hw.tileLine (s : Hw) (k y x0 w : Nat) : Hw × List PlanePx :=
  let c := s.planeCfg k
  let mx := (x0 + s.pln k 12 15 0) % (c.tw * c.mw)
  let my := (y + s.pln k 12 31 16) % (c.th * c.mh)
  let row := my / c.th
  let col := mx / c.tw
  let n := (mx % c.tw + w - 1) / c.tw + 1
  let kept := match s.tim.maps.getD k none with
    | some (r, f, es) => if r = row && f = col && n ≤ es.length && y ≠ 0 then some es else none
    | none => none
  let r := match kept with
    | some es => (s, es)
    | none => foldUp (fun (p : Hw × List (Option Nat)) j =>
        let q := p.1.fetch 3 k (k + 1) ((c.map + c.e * (c.mw * row + (col + j) % c.mw)) % 2 ^ 24) c.e (2 ^ 24)
        (q.1, p.2 ++ [fetched q.2 0 c.e])) 0 n (s, [])
  let s := { r.1 with tim := { r.1.tim with maps := r.1.tim.maps.set k (some (row, col, r.2)) } }
  let q := r.2.foldl (fun (p : Hw × List PlanePx) e =>
    match e with
    | none => (p.1, p.2 ++ List.replicate c.tw none)
    | some w =>
      let m := mapEntry c (s.pln k 0 27 24) w
      let t := p.1.fetch 3 k (k + 1) (tileRow c m (my % c.th) % 2 ^ 24) (c.tw * c.d / 8) (2 ^ 24)
      (t.1, p.2 ++ (List.range c.tw).map (fun px =>
        (fetchedPixel t.2 (if m.hflip then c.tw - 1 - px else px) c.d).bind (p.1.planePx k c m)))) (s, [])
  (q.1, (q.2.drop (mx % c.tw)).take w)

/-- A pixel of an affine plane (10 R358, R359). -/
def Hw.affinePx (s : Hw) (k x y : Nat) : Hw × PlanePx :=
  let c := s.planeCfg k
  let v32 := fun off => sx 32 (s.pln k off 31 0)
  let dx := (x : Int) - sx 16 (s.pln k 0x18 15 0)
  let dy := (y : Int) - sx 16 (s.pln k 0x18 31 16)
  let u := sarI (sx 32 (ux 32 (v32 0x1C + v32 0x24 * dx + v32 0x28 * dy))) 16
  let v := sarI (sx 32 (ux 32 (v32 0x20 + v32 0x2C * dx + v32 0x30 * dy))) 16
  let w : Int := (c.tw * c.mw : Nat)
  let h : Int := (c.th * c.mh : Nat)
  if s.pln k 0 29 29 = 0 && (u < 0 || w ≤ u || v < 0 || h ≤ v) then (s, none)
  else
    let mx := (u % w).toNat
    let my := (v % h).toNat
    let e := s.fetch 3 k (k + 1) ((c.map + c.e * (c.mw * (my / c.th) + mx / c.tw)) % 2 ^ 24) c.e (2 ^ 24)
    match fetched e.2 0 c.e with
    | none => (e.1, none)
    | some w =>
      let m := mapEntry c (s.pln k 0 27 24) w
      let px := if m.hflip then c.tw - 1 - mx % c.tw else mx % c.tw
      let a := tileRow c m (my % c.th) + px * c.d / 8
      let t := e.1.fetch 3 k (k + 1) (a % 2 ^ 24) (cdiv c.d 8) (2 ^ 24)
      (t.1, (fetchedPixel t.2 (if c.d < 8 then px % (8 / c.d) else 0) c.d).bind (s.planePx k c m))

/-- Plane `k`'s pixels on line `y` of `hact` columns. -/
def Hw.planeLine (s : Hw) (k y hact : Nat) : Hw × List PlanePx :=
  let blank := List.replicate hact (none : PlanePx)
  let x0 := s.pln k 0x10 11 0
  let x1 := min (s.pln k 0x10 27 16) (hact - 1)
  if !s.on (23 + k) || s.pln k 0 31 31 = 0 || s.planeBad k || s.shed (k + 1) || x1 < x0
      || y < s.pln k 0x14 11 0 || s.pln k 0x14 27 16 < y then (s, blank)
  else
    let w := x1 + 1 - x0
    let before := s.rd F.MTX_DERRMST_MASTERS
    let s0 := s.wr F.MTX_DERRMST_MASTERS (before - before / 8 % 2 * 8)
    let r := if 4 ≤ k && s.pln k 0 30 30 = 1 then
        foldUp (fun (p : Hw × List PlanePx) x => let q := p.1.affinePx k x y; (q.1, p.2 ++ [q.2])) x0 w (s0, [])
      else s0.tileLine k y x0 w
    let failed := bit (r.1.rd F.MTX_DERRMST_MASTERS) 3
    let s := (r.1.wr F.MTX_DERRMST_MASTERS (r.1.rd F.MTX_DERRMST_MASTERS ||| before)).raiseIf failed bPLN k
    (s, (List.replicate x0 none ++ r.2 ++ List.replicate (hact - 1 - x1) none))

/-! ## The window plane (10 R364 to R369) -/

/-- A field of the CAM block's active values. -/
def Hw.cma (s : Hw) (off hi lo : Nat) : Nat := getBits (s.actReg (0x04110000 + off)) hi lo

/-- Source lines of the window: HSRC, twice with LDBL. -/
def Hw.winH (s : Hw) : Nat := s.cma 0x50 27 16 * (if s.cma 0x40 12 12 = 1 then 2 else 1)

/-- CAM's active values break a limit of R365. -/
def Hw.camBad (s : Hw) : Bool :=
  let wsrc := s.cma 0x50 11 0
  let hsrc := s.cma 0x50 27 16
  let wout := s.cma 0x48 11 0
  let hout := s.cma 0x48 27 16
  let dim := fun n => n = 0 || 2048 < n
  dim wsrc || dim hsrc || dim wout || dim hout || 4 * wout < wsrc || 8 * wsrc < wout || 4 * hout < s.winH
    || 8 * s.winH < hout || s.cma 0x60 1 0 < 2

/-- The window shows its fill colour: no frame latched since capture was enabled, or AGE has reached STALE. -/
def Hw.camFill (s : Hw) : Bool :=
  let stale := s.cma 0x60 15 8
  s.cam.latched.isNone || (stale ≠ 0 && stale ≤ s.rd F.CAM_CSTAT_AGE)

/-- Sources and their 64ths for output index `i` of a scaling by `step` over `n` sources, and the divisor (10 R366). -/
def scaleTaps (i step n : Nat) : List (Nat × Nat) × Nat :=
  if step ≤ 65536 then
    let p := min ((2 * i + 1) * step - 65536) ((n - 1) * 131072)
    let w := p % 131072 * 64 / 131072
    ([(p / 131072, 64 - w), (min (p / 131072 + 1) (n - 1), w)], 64)
  else
    let lo := i * step
    let hi := (i + 1) * step
    let first := lo / 65536
    let taps := (List.range ((hi - 1) / 65536 + 1 - first)).map (fun j =>
      let c := first + j
      (c, (min hi ((c + 1) * 65536) - max lo (c * 65536)) * 64 / 65536))
    let taps := taps.filter (fun t => t.1 < n)
    (taps, (taps.map (·.2)).foldl (· + ·) 0)

/-- A weighted mean of components, rounded to the nearest, halves upward. -/
def scaleMix (taps : List (Nat × Nat)) (div : Nat) (src : Nat → Option (List Nat)) : Option (List Nat) :=
  let vals := taps.map (fun t => (src t.1).map (fun v => (t.2, v)))
  if vals.all (fun v => v.isSome) && div ≠ 0 then
    let vs := vals.map (fun v => v.getD (0, []))
    some ((List.range 4).map (fun c => (2 * (vs.map (fun v => v.1 * v.2.getD c 0)).foldl (· + ·) 0 + div) / (2 * div)))
  else none

/-- YCbCr to RGB (10 R369). -/
def ycbcr (bt709 full : Bool) (y cb cr : Nat) : Nat :=
  let k : List Int := match bt709, full with
    | false, false => [1192, 1634, 401, 833, 2065]
    | true, false => [1192, 1836, 218, 546, 2163]
    | false, true => [1024, 1436, 352, 731, 1815]
    | true, true => [1024, 1613, 192, 479, 1900]
  let c := fun i => k.getD i 0
  let l := c 0 * ((y : Int) - (if full then 0 else 16))
  let u := (cb : Int) - 128
  let v := (cr : Int) - 128
  let cl := fun (x : Int) => (clampI 0 255 (sarI (x + 512) 10)).toNat
  rgb (cl (l + c 1 * v)) (cl (l - c 2 * u - c 3 * v)) (cl (l + c 4 * u))

/-- The format of the window's source: 0 YCbCr, 1 RGB565, 2 ARGB8888, 3 I8; a capture buffer holds YCbCr. -/
def Hw.winFmt (s : Hw) : Nat := if s.cma 0x40 16 16 = 0 then 0 else s.cma 0x40 1 0

/-- The components of source column `c` in a source line: Y, Cb, Cr, or alpha, red, green, blue. `sx0` is the column that
the bytes begin with. -/
def Hw.winSource (s : Hw) (bs : List (Option Byte)) (sx0 c : Nat) : Option (List Nat) :=
  let b := fun (i : Nat) => fetched bs i 1
  let col := sx0 + c
  let comps := fun (p : Px) => [p.2, p.1 / 65536, p.1 / 256 % 256, p.1 % 256]
  match s.winFmt with
  | 0 =>
    let pair := (col / 2 - sx0 / 2) * 4
    match b (pair + 2 * (col % 2)), b (pair + 1), b (pair + 3) with
    | some y, some cb, some cr => some [y, cb, cr, 0]
    | _, _, _ => none
  | 1 => (fetched bs (2 * c) 2).map (fun v => comps (rgb565 v, 0xFF))
  | 2 => (fetched bs (4 * c) 4).map (fun v => comps (v % 2 ^ 24, v / 2 ^ 24))
  | _ => (b c).map (fun v => comps (s.clut (s.cma 0x40 7 4) v))

/-- The line of the source rectangle that serves as source line `l`: with LDBL each serves twice. -/
def Hw.winLine (s : Hw) (l : Nat) : Nat := if s.cma 0x40 12 12 = 1 then l / 2 else l

/-- The bytes of a line of the source rectangle: kept, or read through M5 ID 0 (10 R368). -/
def Hw.winRow (s : Hw) (l : Nat) : Hw × List (Option Byte) :=
  match s.tim.rows.find? (fun r => r.1 = l) with
  | some r => (s, r.2)
  | none =>
    let sx0 := s.cma 0x4C 11 0
    let w := s.cma 0x50 11 0
    let base := if s.cma 0x40 16 16 = 0 then s.cma (0x64 + 4 * (s.cam.latched.getD (0, 0)).1) 23 4 * 16 else s.cma 0x54 23 4 * 16
    let pitch := if s.cma 0x40 16 16 = 0 then s.cma 0x70 15 4 * 16 else s.cma 0x58 15 4 * 16
    let y := s.cma 0x4C 27 16 + l
    let bytes := match s.winFmt with
      | 0 => (sx0 / 2 * 4, ((sx0 + w - 1) / 2 - sx0 / 2 + 1) * 4)
      | 1 => (2 * sx0, 2 * w)
      | 2 => (4 * sx0, 4 * w)
      | _ => (sx0, w)
    let r := s.fetch 5 0 8 (base + y * pitch + bytes.1) bytes.2 (2 ^ 28)
    ({ r.1 with tim := { r.1.tim with rows := r.1.tim.rows ++ [(l, r.2)] } }, r.2)

/-- The window's pixels on line `y`: colour and alpha. -/
def Hw.windowLine (s : Hw) (y hact : Nat) : Hw × List (Option Px) :=
  let blank := List.replicate hact (none : Option Px)
  let wx := s.cma 0x44 11 0
  let wy := s.cma 0x44 27 16
  let wout := s.cma 0x48 11 0
  let hout := s.cma 0x48 27 16
  if !s.on 30 || s.cma 0x40 31 31 = 0 || s.camBad || s.shed 8 || y < wy || wy + hout ≤ y then (s, blank)
  else
    let at_ := fun (f : Nat → Option Px) => (List.range hact).map (fun x => if wx ≤ x && x < wx + wout then f (x - wx) else none)
    if s.cma 0x40 16 16 = 0 && s.camFill then (s, at_ (fun _ => some (s.cma 0x5C 23 0, 0xFF)))
    else
      let v := scaleTaps (y - wy) (s.winH * 65536 / hout) s.winH
      let s := { s with tim := { s.tim with rows := s.tim.rows.filter (fun r => v.1.any (fun t => s.winLine t.1 = r.1) && y ≠ wy) } }
      let r := v.1.foldl (fun (p : Hw × List (Nat × List (Option Byte))) t =>
        let q := p.1.winRow (p.1.winLine t.1); (q.1, p.2 ++ [(t.1, q.2)])) (s, [])
      let n := s.cma 0x50 11 0
      let sx0 := s.cma 0x4C 11 0
      let px := at_ (fun i =>
        let h := scaleTaps i (n * 65536 / wout) n
        let line := fun l => scaleMix h.1 h.2 (fun c =>
          (r.2.find? (fun q => q.1 = l)).bind (fun q => s.winSource q.2 sx0 c))
        match scaleMix v.1 v.2 line with
        | none => none
        | some c =>
          if s.winFmt = 0 then
            some (ycbcr (s.cma 0x40 8 8 = 1) (s.cma 0x40 9 9 = 1) (c.getD 0 0) (c.getD 1 0) (c.getD 2 0), 0xFF)
          else if c.getD 0 0 = 0 then none else some (rgb (c.getD 1 0) (c.getD 2 0) (c.getD 3 0), c.getD 0 0))
      let failed := r.2.any (fun q => q.2.any Option.isNone)
      (r.1.raiseIf failed bCAM 3, px)

/-! ## Objects (10 R370 to R381) -/

/-- A descriptor's fields (10 R372). -/
structure Obj where
  en : Bool
  aff : Bool
  fit : Bool
  y : Int
  x : Int
  group : Nat
  h : Nat
  w : Nat
  mag : Nat
  vflip : Bool
  hflip : Bool
  fmt : Nat
  pal : Nat
  addr : Nat
  alpha : Nat
  blend : Nat
  prio : Nat
  sub : Nat
  deriving DecidableEq, Repr

/-- Descriptor `i` of the table in use. -/
def Hw.object (s : Hw) (i : Nat) : Obj :=
  let base := 0x02010000 + 0x4000 * s.rdA F.OBJ_CTRL_TABLE + 16 * i
  let w := fun j => s.mem32 (base + 4 * j)
  ⟨bit (w 0) 31, bit (w 0) 30, bit (w 0) 29, sx 13 (bits (w 0) 28 16), sx 13 (bits (w 0) 12 0), bits (w 1) 31 24,
    bits (w 1) 23 16 + 1, 8 * (bits (w 1) 15 11 + 1), bits (w 1) 10 9, bit (w 1) 8, bit (w 1) 7, bits (w 1) 6 5,
    bits (w 1) 3 0, bits (w 2) 23 4 * 16, bits (w 3) 31 24, bits (w 3) 21 20, bits (w 3) 18 16, bits (w 3) 11 8⟩

/-- Bits per pixel of an object. -/
def Obj.d (o : Obj) : Nat := match o.fmt with | 0 => 4 | 1 => 8 | 2 => 16 | _ => 32

/-- The smallest multiple of 8 that is at least the diagonal. -/
def Obj.diag (o : Obj) : Nat :=
  let n := o.w * o.w + o.h * o.h
  let r := isqrt n
  cdiv (if r * r = n then r else r + 1) 8 * 8

/-- Width and height of the box, and its top left. -/
def Obj.bw (o : Obj) : Nat := if o.aff then (if o.fit then o.diag else o.w) else o.w * 2 ^ o.mag
def Obj.bh (o : Obj) : Nat := if o.aff then (if o.fit then o.diag else o.h) else o.h * 2 ^ o.mag
def Obj.left (o : Obj) : Int := if o.aff then o.x - (o.bw / 2 : Nat) else o.x
def Obj.top (o : Obj) : Int := if o.aff then o.y - (o.bh / 2 : Nat) else o.y

/-- The box columns of an object inside `0..hact-1`: the first and how many (10 R378). -/
def Obj.span (o : Obj) (hact : Nat) : Nat × Nat :=
  let lo := max o.left 0
  let hi := min (o.left + (o.bw : Int)) (hact : Int)
  if lo < hi then (lo.toNat, (hi - lo).toNat) else (0, 0)

/-- A hit on a line (10 R378); MAG = 3 gives no object. -/
def Obj.hit (o : Obj) (y hact : Nat) : Bool :=
  o.en && o.mag ≠ 3 && o.top ≤ (y : Int) && (y : Int) < o.top + (o.bh : Int) && 0 < (o.span hact).2

/-- What the object layer delivers at a position: colour, alpha, priority, layer alpha, blend mode. -/
abbrev ObjPx := Option (Nat × Nat × Nat × Nat × Nat)

/-- An object's own pixel of an image value (10 R373, R383). -/
def Hw.objPx (s : Hw) (o : Obj) (v : Nat) : ObjPx :=
  if (o.fmt ≤ 1 && v = 0) || o.alpha = 0 then none
  else
    let p := s.colour (o.fmt + 1) o.pal o.sub v
    if p.2 = 0 then none else some (p.1, p.2, o.prio, o.alpha, o.blend)

/-- An object's pixels on line `y`, for `n` columns from `x0`; and whether an affine image was not loaded. -/
def Hw.objectPixels (s : Hw) (o : Obj) (y x0 n : Nat) : Hw × List ObjPx × Bool :=
  if o.aff then
    let img := s.texels.find? (fun t => t.1 = o.addr)
    let size := o.w * o.h * o.d / 8
    match img with
    | some t =>
      if 4096 < size then (s, List.replicate n none, true)
      else
        let g := s.actReg (0x04051000 + 8 * o.group)
        let g1 := s.actReg (0x04051004 + 8 * o.group)
        let m00 := sx 16 (getBits g 31 16)
        let m01 := sx 16 (getBits g 15 0)
        let m10 := sx 16 (getBits g1 31 16)
        let m11 := sx 16 (getBits g1 15 0)
        let bs := t.2.map some
        (s, (List.range n).map (fun i =>
          let dx := ((x0 + i : Nat) : Int) - o.x
          let dy := (y : Int) - o.y
          let tx := ((o.w / 2 : Nat) : Int) + sarI (m00 * dx + m01 * dy) 12
          let ty := ((o.h / 2 : Nat) : Int) + sarI (m10 * dx + m11 * dy) 12
          if tx < 0 || (o.w : Int) ≤ tx || ty < 0 || (o.h : Int) ≤ ty then none
          else (fetchedPixel bs (ty.toNat * o.w + tx.toNat) o.d).bind (s.objPx o)), false)
    | none => (s, List.replicate n none, true)
  else
    let ty := ((y : Int) - o.y).toNat / 2 ^ o.mag
    let ty := if o.vflip then o.h - 1 - ty else ty
    let r := s.fetch 4 0 7 (o.addr + ty * (o.w * o.d / 8)) (o.w * o.d / 8) (2 ^ 28)
    let px := (List.range n).map (fun i =>
      let tx := (((x0 + i : Nat) : Int) - o.x).toNat / 2 ^ o.mag
      (fetchedPixel r.2 (if o.hflip then o.w - 1 - tx else tx) o.d).bind (s.objPx o))
    (r.1.raiseIf (r.2.any Option.isNone) bOBJ 2, px, false)

/-- The frontmost of two pixels at a position: the later object is in front only with a higher priority. -/
def objFront (front new : ObjPx) : ObjPx :=
  match front, new with
  | none, p => p
  | p, none => p
  | some p, some q => if p.2.2.1 < q.2.2.1 then some q else some p

/-- The running state of a line's evaluation (10 R379). -/
structure ObjEval where
  hw : Hw
  px : List ObjPx
  kept : Nat
  hits : Nat
  budget : Nat
  lost : Nat
  first : Option Nat
  affLost : Bool

/-- The object layer's pixels on line `y`, with its limits and counters (10 R379, R380). -/
def Hw.objectLine (s : Hw) (y hact : Nat) : Hw × List ObjPx :=
  let blank := List.replicate hact (none : ObjPx)
  if !s.on 29 || !s.rdAB F.OBJ_CTRL_EN || s.shed 7 then (s, blank)
  else
    let pm := s.rdA F.OBJ_CTRL_PIXMAX
    let budget := if pm = 0 || 4096 < pm then 4096 else pm
    let r := foldUp (fun (e : ObjEval) i =>
      let o := e.hw.object i
      if !o.hit y hact then e
      else if e.kept = 128 || e.budget = 0 then
        { e with hits := e.hits + 1, lost := e.lost + 1, first := e.first.or (some i) }
      else
        let sp := o.span hact
        let n := min sp.2 e.budget
        let q := e.hw.objectPixels o y sp.1 n
        let px := e.px.take sp.1 ++ ((e.px.drop sp.1).take n).zipWith objFront q.2.1 ++ e.px.drop (sp.1 + n)
        { hw := q.1, px := px, kept := e.kept + 1, hits := e.hits + 1, budget := e.budget - n
          lost := if n < sp.2 then e.lost + 1 else e.lost
          first := if n < sp.2 then e.first.or (some i) else e.first
          affLost := e.affLost || q.2.2 })
      0 1024 (⟨s, blank, 0, 0, budget, 0, none, false⟩ : ObjEval)
    let s := ((r.hw.wr F.OBJ_LINESTAT_KEPT r.kept).wr F.OBJ_LINESTAT_HITS (min 2047 r.hits)).wr F.OBJ_LINESTAT_PIX
      (budget - r.budget)
    let s := match r.first with
      | some i =>
        ((((s.raiseBit bOBJ 0).inc F.OBJ_DROPCNT_LINES).inc F.OBJ_DROPCNT_OBJS r.lost).wr F.OBJ_DROPLAST_LINE y).wr
          F.OBJ_DROPLAST_INDEX i
      | none => s
    (s.raiseIf r.affLost bOBJ 1, r.px)

/-- The texel store's load (10 R376): the first eight distinct images of at most 4,096 bytes of the enabled affine
descriptors; an image wanted and not loaded sets AFFDROP. -/
def Hw.texelLoad (s : Hw) : Hw :=
  if !s.on 29 || !s.rdAB F.OBJ_CTRL_EN || s.shed 7 then s
  else
    let want := (List.range 1024).foldl (fun (l : List Obj) i =>
      let o := s.object i
      if o.en && o.aff && !l.any (fun p => p.addr = o.addr) then l ++ [o] else l) []
    let size := fun (o : Obj) => o.w * o.h * o.d / 8
    let fits := (want.filter (fun o => size o ≤ 4096)).take 8
    let r := fits.foldl (fun (p : Hw × List (Nat × List Byte)) o =>
      let q := p.1.fetch 4 0 7 o.addr (size o) (2 ^ 28)
      if q.2.any Option.isNone then (q.1.raiseBit bOBJ 2, p.2) else (q.1, p.2 ++ [(o.addr, q.2.map (·.getD 0#8))])) (s, [])
    let s := { r.1 with texels := r.2 }
    let s := (s.wr F.OBJ_AFFSTAT_WANTED (min 1023 want.length)).wr F.OBJ_AFFSTAT_LOADED r.2.length
    s.raiseIf (decide (r.2.length < want.length)) bOBJ 1

end Sys2Proof.Machine
end

