-- ==== Sys2Proof/Machine/Compose.lean ====
section
/-! DEFINITION. Composition, the output line buffer and its watermark, and the line list (09 R324 to R330; 11 R382 to
R399). -/

namespace Sys2Proof.Machine

open Sys2Proof

/-! ## The raster -/

/-- TIM_STAT.STATE: 0 STOPPED, 1 WAITLOCK, 2 SCANNING, 3 SEAM, 4 STOPPING (09 R312). -/
def Hw.timState (s : Hw) : Nat := s.rd F.TIM_STAT_STATE

/-- The raster runs: SCANNING or STOPPING. -/
def Hw.scanning (s : Hw) : Bool := s.timState = 2 || s.timState = 4

/-- The line being scanned. -/
def Hw.scanLine (s : Hw) : Nat := s.rd F.TIM_POS_LINE

def Raster.htotal (r : Raster) : Nat := r.hact + r.hfp + r.hsw + r.hbp
def Raster.vtotal (r : Raster) : Nat := r.vact + r.vfp + r.vsw + r.vbp
def Raster.hblank (r : Raster) : Nat := r.hfp + r.hsw + r.hbp
def Raster.vblank (r : Raster) : Nat := r.vfp + r.vsw + r.vbp

/-- The timing engine's record changed. -/
def Hw.modTim (s : Hw) (f : Tim → Tim) : Hw := { s with tim := f s.tim }

/-! ## Blending (11 R385, R386) -/

/-- One channel: colour `c` with effective alpha `a` over `d`. -/
def blendChannel (mode c a d : Nat) : Nat :=
  match mode with
  | 0 => (c * a + d * (255 - a) + 127) / 255
  | 1 => min 255 (d + (c * a + 127) / 255)
  | 2 => d - (c * a + 127) / 255
  | _ => ((c * d + 127) / 255 * a + d * (255 - a) + 127) / 255

/-- A colour over the colour behind it. -/
def blend (mode c a d : Nat) : Nat :=
  rgb (blendChannel mode (pxR c) a (pxR d)) (blendChannel mode (pxG c) a (pxG d)) (blendChannel mode (pxB c) a (pxB d))

/-- A delivered pixel: its level, blend mode, layer alpha, colour and alpha. -/
structure LayerPx where
  level : Nat
  mode : Nat
  layer : Nat
  colour : Nat
  alpha : Nat
  deriving DecidableEq, Repr

/-- A pixel stacked in front of those of its own level and below it (11 R384). -/
def stackPx : List LayerPx → LayerPx → List LayerPx
  | [], p => [p]
  | q :: l, p => if q.level ≤ p.level then q :: stackPx l p else p :: q :: l

/-- A position's colour: its delivered pixels from back to front over the backdrop (11 R386). -/
def composePx (backdrop : Nat) (l : List LayerPx) : Nat :=
  l.foldl (fun d p => blend p.mode p.colour ((p.alpha * p.layer + 127) / 255) d) backdrop

/-- A layer's pixels stacked on those of the layers that stand behind it at equal level. -/
def stackLayer (piles : List (List LayerPx)) (px : List (Option LayerPx)) : List (List LayerPx) :=
  List.zipWith (fun st p => match p with | some q => stackPx st q | none => st) piles px

/-- LO and HI of plane `k` (11 R382). -/
def Hw.planeLevel (s : Hw) (k : Nat) (hi : Bool) : Nat :=
  let w := s.actReg (0x04060044 + 4 * (k / 4))
  if hi then getBits w (8 * (k % 4) + 6) (8 * (k % 4) + 4) else getBits w (8 * (k % 4) + 2) (8 * (k % 4))

/-- The pixels of line `y` (11 R382 to R387). -/
def Hw.composeLine (s : Hw) (y : Nat) : Hw × List Nat :=
  let hact := s.tim.ras.hact
  let planes := [5, 4, 3, 2, 1, 0].foldl (fun (p : Hw × List (List LayerPx)) k =>
    let q := p.1.planeLine k y hact
    let px := q.2.map (fun o => o.map (fun v =>
      (⟨s.planeLevel k v.2.2, s.rdA F.CMP_BLEND_MODE k, s.rdA F.CMP_BLEND_ALPHA k, v.1, v.2.1⟩ : LayerPx)))
    (q.1, stackLayer p.2 px)) (s, List.replicate hact [])
  let w := planes.1.windowLine y hact
  let st := stackLayer planes.2 (w.2.map (fun o => o.map (fun v =>
    (⟨s.rdA F.CMP_PLVL1_WLVL, s.rdA F.CMP_WBLEND_MODE, s.rdA F.CMP_WBLEND_ALPHA, v.1, v.2⟩ : LayerPx))))
  let o := w.1.objectLine y hact
  let st := stackLayer st (o.2.map (fun x => x.map (fun v =>
    (⟨v.2.2.1, v.2.2.2.2, v.2.2.2.1, v.1, v.2.1⟩ : LayerPx))))
  (o.1, st.map (composePx (s.rdA F.CMP_BACKDROP_COLOUR)))

/-! ## The line buffer's level and the published tolerance (09 R325, R327; 06 R198) -/

/-- The reserve at the start of the line being scanned: pixel clocks to the first active pixel that is not composed. In
pennant-only mode nothing waits to be composed. -/
def Hw.lbLevel (s : Hw) : Nat :=
  if !s.scanning || s.pen.modeLat then 0xFFFF
  else
    let y := s.scanLine
    let lines := if y ≤ s.tim.next then s.tim.next - y else s.tim.vtot + s.tim.next - y
    satU 16 (lines * s.tim.ras.htotal)

/-- LEVEL published: the line buffer's watermark, LDG_DISPTOL and the tolerance watermark. -/
def Hw.publishLevel (s : Hw) (level : Nat) : Hw :=
  let s := s.watermark bTIM 0x04030084 0x04030088 0x04030080 3 level
  let tol := if !s.scanning then 0xFFFF
    else if s.rdB F.TIM_LBWM_STAT_BELOW then 0
    else satU 16 (divOr0 ((level - s.rd F.TIM_LBWM_CFG_THRESH) * 400000) s.tim.ras.khz)
  if s.on 21 then (s.wr F.LDG_DISPTOL_TOL tol).watermark bLDG 0x0402007C 0x04020080 0x04020078 8 tol else s

/-- The level and tolerance as they stand. -/
def Hw.publish (s : Hw) : Hw := s.publishLevel s.lbLevel

/-! ## The line list (11 R389 to R399) -/

/-- The list sequencer's state. -/
def Hw.lnlState (s : Hw) : Nat := s.rd F.LNL_STAT_STATE

/-- The list stops for this frame. -/
def Hw.lnlStop (s : Hw) : Hw := s.wr F.LNL_STAT_STATE 2

/-- A fault of the list: its kind and the byte offset of its entry. -/
def Hw.lnlError (s : Hw) (kind off : Nat) : Hw := (s.wr F.LNL_ERR_KIND kind).wr F.LNL_ERR_OFFSET (off / 8)

/-- An entry read through M3 ID 0 with a credit of plane P0: its two words, or none for an error response. -/
def Hw.lnlEntry (s : Hw) (off : Nat) : Hw × Option (Nat × Nat) :=
  let r := (s.useCredit 1 1).busLoad 3 0 (s.lnl.base + off) 8
  (r.1, r.2.map (fun bs => (fieldAt bs 0 4, fieldAt bs 4 4)))

/-- The form of an entry: 0 WRITE, 1 LINE, 2 END, 3 bad (11 R391, R399). -/
def lnlKind (w0 w1 : Nat) : Nat :=
  match w0 / 2 ^ 30 with
  | 0 => if bits w0 29 28 = 0 && bits w0 23 16 = 0 && bits w0 1 0 = 0 && bits w0 27 24 ≤ 4 then 0 else 3
  | 1 => if bits w0 29 12 = 0 && w1 = 0 then 1 else 3
  | 2 => if bits w0 29 0 = 0 && w1 = 0 then 2 else 3
  | _ => 3

/-- The entry at the list's pointer where a LINE or END entry must stand: the record of a line waits, the list ends, or it
stops on a fault. -/
def Hw.lnlOpen (s : Hw) : Hw :=
  let off := s.lnl.ptr
  let r := s.lnlEntry off
  match r.2 with
  | none => (r.1.lnlError 4 off).lnlStop.raiseBit bLNL 4
  | some (w0, w1) =>
    let n := bits w0 11 0
    match lnlKind w0 w1 with
    | 1 =>
      if s.tim.ras.vact ≤ n then r.1.lnlStop.raiseBit bLNL 0
      else if (s.lnl.last.map (fun m => decide (n ≤ m))).getD false then
        (r.1.lnlError 3 off).lnlStop.raiseBit bLNL 3
      else { r.1 with lnl := { r.1.lnl with ptr := off + 8, last := some n } }
    | 2 => r.1.lnlStop.raiseBit bLNL 0
    | _ => (r.1.lnlError 3 off).lnlStop.raiseBit bLNL 3

/-- LNL_START (11 R389): at a transfer point while LNL_CTRL.EN is 1 and the engine is SCANNING, out of pennant-only
mode. -/
def Hw.lnlStart (s : Hw) : Hw :=
  if s.timState = 2 && s.rdAB F.LNL_CTRL_EN && !s.pen.modeLat then
    let s := s.wr F.LNL_STAT_STATE 1
    ({ s with lnl := ⟨s.rdA F.LNL_BASE_ADDR * 8, 0, none⟩ } : Hw).lnlOpen
  else if s.lnlState = 1 then s.lnlStop
  else s

/-- The address that a WRITE entry names; none where R393 does not permit it. -/
def lnlTarget (w0 : Nat) : Option Nat :=
  let off := w0 % 65536
  let plane := off / 0x40 - 4
  let reg := off % 0x40
  match bits w0 27 24 with
  | 0 => if off = 0x60 then some 0x04030060 else none
  | 1 => if 0x100 ≤ off && off < 0x280 && (reg ≤ 0x14 || (4 ≤ plane && reg ≤ 0x30)) then some (0x04040000 + off) else none
  | 2 => if off = 0x40 || (0x1000 ≤ off && off ≤ 0x17FC) then some (0x04050000 + off) else none
  | 3 => if (0x40 ≤ off && off ≤ 0x68) || off = 0x80 then some (0x04060000 + off) else none
  | _ => if off ≤ 0x7FFC then some (0x02010000 + off) else none

/-- A write of the list (11 R394, R395): the active value of a shadowed field, or the register or the word itself. -/
def Hw.lnlWrite (s : Hw) (a v : Nat) : Hw :=
  if a < 0x04000000 then s.setBytes a (leBytes 4 v)
  else if a = 0x04030060 then s.wr F.TIM_LINEIRQ_LINE v
  else
    let w := (fieldsOf a).foldl (fun w f =>
      if f.acc = Acc.sh then setBits w f.hi f.lo (v / 2 ^ f.lo) else w) (s.actReg a)
    let s := s.setActReg a w
    let k := (a - 0x04040100) / 0x40
    if 0x04040100 ≤ a && a < 0x04040280 && a % 0x40 = 0 then s.raiseIf (s.planeBad k) bPLN (8 + k) else s

/-- The record being performed: entries so far and writes made. -/
structure LnlRun where
  hw : Hw
  entries : Nat
  made : Nat
  overrun : Bool

/-- The WRITE entries of the waiting record, up to the entry that ends it. -/
def lnlRecord : Nat → LnlRun → LnlRun
  | 0, r => r
  | n + 1, r =>
    let off := r.hw.lnl.ptr
    let e := r.hw.lnlEntry off
    match e.2 with
    | none => { r with hw := (e.1.lnlError 4 off).lnlStop.raiseBit bLNL 4 }
    | some (w0, w1) =>
      match lnlKind w0 w1 with
      | 0 =>
        let s : Hw := { e.1 with lnl := { e.1.lnl with ptr := off + 8 } }
        if 64 ≤ r.entries then
          lnlRecord n { r with hw := (s.inc F.LNL_CNT_OVER).lnlError 1 off, entries := r.entries + 1, overrun := true }
        else
          match lnlTarget w0 with
          | some a =>
            if s.on (domainOf a) then
              lnlRecord n { r with hw := s.lnlWrite a w1, entries := r.entries + 1, made := r.made + 1 }
            else lnlRecord n { r with hw := ((s.inc F.LNL_CNT_DENY).lnlError 2 off).raiseBit bLNL 2
                                      entries := r.entries + 1 }
          | none => lnlRecord n { r with hw := ((s.inc F.LNL_CNT_DENY).lnlError 2 off).raiseBit bLNL 2
                                         entries := r.entries + 1 }
      | 3 => { r with hw := (e.1.lnlError 3 off).lnlStop.raiseBit bLNL 3 }
      | _ => { r with hw := r.hw.lnlOpen }

/-- The line whose record waits. -/
def Hw.lnlDue (s : Hw) : Option Nat := if s.lnlState = 1 then s.lnl.last else none

/-- The record that waits is due: on scan line n − 2, the compositor having begun line n − 1; or on a later line where its
entries were late. -/
def Hw.lnlReady (s : Hw) (late : Bool) : Bool :=
  match s.lnlDue with
  | none => false
  | some n =>
    let at_ := fun k => s.scanLine = (s.tim.vtot + n - k) % s.tim.vtot
    s.timState = 2 && s.tim.vtot ≠ 0 &&
      (if late then at_ 1 || (n ≤ s.scanLine && s.scanLine < s.tim.ras.vact) else at_ 2 && (s.tim.next = n || !s.on 22))

/-- LNL_RECORD_WRITES: the record of a line is performed; `late` where its entries had not been read in time. -/
def Hw.lnlPerform (s : Hw) (late : Bool) : Hw :=
  if !s.lnlReady late then s
  else
    let n := s.lnl.last.getD 0
    let r := lnlRecord 2097152 ⟨s, 0, 0, false⟩
    let s := (r.hw.wr F.LNL_STAT_LINE n).wr F.LNL_STAT_WRITES r.made
    let s := s.raiseIf r.overrun bLNL 1
    if late then (s.inc F.LNL_LATE_LINES).raiseBit bLNL 5 else s

/-! ## The compositor begins a line (11 R388, R396) -/

/-- The compositor may begin the next line: the scan-out is on the line before it, or already on it; the line's record has
been performed. -/
def Hw.composable (s : Hw) : Bool :=
  let n := s.tim.next
  let y := s.scanLine
  s.scanning && s.on 22 && !s.pen.modeLat && (y = n && y < s.tim.ras.vact || (y + 1) % s.tim.vtot = n)
    && (s.lnlDue.map (fun m => decide (n < m))).getD true

/-- COMPOSE_LINE_BEGIN: the line is composed whole from the active values as they stand (log 20). -/
def Hw.composeBegin (s : Hw) : Hw :=
  if !s.composable then s
  else
    let n := s.tim.next
    let r := s.composeLine n
    (r.1.modTim (fun t => { t with
      lines := t.lines ++ [(n, s.rdA F.CMP_BACKDROP_COLOUR, r.2)]
      next := if n + 1 < t.ras.vact then n + 1 else 0 })).publish

/-! ## Scan-out (09 R328 to R330) -/

/-- The backdrop that governs line `y` in pixels that are not composed (11 R387); 0, its reset value, while PD22 is off. -/
def Hw.lineBackdrop (s : Hw) (y : Nat) : Nat :=
  match s.tim.lines.find? (fun l => l.1 = y) with
  | some l => l.2.1
  | none => if s.on 22 then s.rdA F.CMP_BACKDROP_COLOUR else 0

/-- `count` pixels of the line being scanned, from `first` on, are not composed when the scan-out reaches them. -/
def Hw.underflow (s : Hw) (first count : Nat) : Hw :=
  if count = 0 then s
  else
    let s := if s.tim.holes = [] then
        ((s.inc F.TIM_UFCNT_LINES).wr F.TIM_UFLAST_LINE s.scanLine).wr F.TIM_UFLAST_PIXEL first
      else s
    ((s.inc F.TIM_UFPIX_PIXELS count).raiseBit bTIM 4).modTim (fun t => { t with holes := t.holes ++ [(first, count)] })

/-- Where the scan-out stands on its line as far as underflows tell. -/
def Hw.scanned (s : Hw) : Nat := (s.tim.holes.map (fun h => h.1 + h.2)).foldl max 0

/-- LINE_BUFFER_UNDERFLOW: pixels of an active line, behind those that have underflowed already. In pennant-only mode
nothing is composed and nothing underflows. -/
def Hw.scanUnderflow (s : Hw) (first count : Nat) : Hw :=
  let y := s.scanLine
  if s.scanning && y < s.tim.ras.vact && !s.tim.ended && !s.pen.modeLat && s.scanned ≤ first then
    s.underflow first (min (first + count) s.tim.ras.hact - first)
  else s

/-- LINE_BUFFER_WATERMARK_BELOW: the reserve falls to a level below THRESH. -/
def Hw.lineBufferLow (s : Hw) (level : Nat) : Hw :=
  if s.scanning && !s.pen.modeLat && level < s.rd F.TIM_LBWM_CFG_THRESH then s.publishLevel level else s

/-- The line being scanned ends for the taps of Varan: what was never composed of it underflowed; the pennant merge follows
(09 R328, R329; 12 R411). -/
def Hw.finishLine (s : Hw) : Hw :=
  let y := s.scanLine
  let r := s.tim.ras
  if !s.scanning || r.vact ≤ y || s.tim.ended then s
  else
    let bd := s.lineBackdrop y
    let px := (s.tim.lines.find? (fun l => l.1 = y)).map (·.2.2)
    let s := if px.isNone && !s.pen.modeLat then s.underflow s.scanned (r.hact - s.scanned) else s
    let holes := s.tim.holes
    let under := if s.pen.modeLat then List.replicate r.hact 0
      else (px.getD (List.replicate r.hact bd)).mapIdx (fun x p =>
        if holes.any (fun h => h.1 ≤ x && x < h.1 + h.2) then bd else p)
    let final := under.mapIdx (fun x p => s.mergePixel r.hact r.vact x y p)
    let s := (s.varLine 1 y under s.tim.lineAt 100000 r.khz).histLine 1 y under
    let s := (s.varLine 0 y final s.tim.lineAt 100000 r.khz).histLine 0 y final
    s.modTim (fun t => { t with
      ended := true
      under := t.under ++ [under]
      final := t.final ++ [final]
      lines := t.lines.filter (fun l => l.1 ≠ y)
      next := if t.next = y then (if y + 1 < r.vact then y + 1 else 0) else t.next })

/-! ## Meanings -/

/-- COMPOSE_LINE_BEGIN. -/
def execComposeLineBegin (s : State) : Host.Outcome State Fault Refusal := s.onHw Hw.composeBegin

/-- LINE_BUFFER_UNDERFLOW. -/
def execLineBufferUnderflow (first count : Nat) (s : State) : Host.Outcome State Fault Refusal :=
  s.onHw fun h => h.scanUnderflow first count

/-- LINE_BUFFER_WATERMARK_BELOW. -/
def execLineBufferWatermarkBelow (level : Nat) (s : State) : Host.Outcome State Fault Refusal :=
  s.onHw fun h => h.lineBufferLow level

/-- LNL_RECORD_WRITES. -/
def execLnlRecordWrites (late : Bool) (s : State) : Host.Outcome State Fault Refusal :=
  s.onHw fun h => h.lnlPerform late

/-- AFFINE_TEXEL_LOAD (10 R376). -/
def execAffineTexelLoad (s : State) : Host.Outcome State Fault Refusal := s.onHw Hw.texelLoad

/-- A write of CMP_FENCESET (11 R400). -/
def Hw.fenceSet (h : Hw) (set : Word) : Hw :=
  if h.on 22 then (bitsOf 32 set.toNat).foldl (fun h k => h.signalFence k 1) h else h

/-- CMP_FENCESET_WRITE. -/
def execCmpFencesetWrite (set : Word) (s : State) : Host.Outcome State Fault Refusal :=
  s.onHw fun h => h.fenceSet set

end Sys2Proof.Machine
end

