-- ==== Sys2Proof/Machine/Anole.lean ====
section
/-! DEFINITION. The Anole blitter (13): surfaces and formats, the pixel rule, operations, register mode, list mode, and the
commands of coprocessor slot 0. -/

namespace Sys2Proof.Machine

open Sys2Proof

/-! ## Surfaces and formats (13 R439 to R443) -/

/-- Word `i` of an entry. -/
def ew (l : List Nat) (i : Nat) : Nat := l.getD i 0

/-- A surface entry's format, base, pitch, width and height. -/
def sfFmt (l : List Nat) : Nat := bits (ew l 0) 2 0
def sfBase (l : List Nat) : Nat := ew l 1
def sfPitch (l : List Nat) : Nat := bits (ew l 2) 15 0
def sfW (l : List Nat) : Nat := bits (ew l 3) 15 0
def sfH (l : List Nat) : Nat := bits (ew l 3) 31 16

/-- Depth of a format code; 0 where it is none. -/
def anoDepth (f : Nat) : Nat :=
  match f with | 1 => 4 | 2 => 8 | 3 => 16 | 4 => 32 | 5 => 1 | 6 => 8 | _ => 0

/-- A value of format `a` as one of format `b` (R443). -/
def anoConvert (a b v : Nat) : Nat :=
  if a = 3 && b = 4 then 0xFF000000 + rgb565 v
  else if a = 4 && b = 3 then pxR v / 8 * 2048 + pxG v / 4 * 32 + pxB v / 8
  else v

/-- FG, BG or KEY, given as ARGB8888, in a format (R447). -/
def anoPenIn (f v : Nat) : Nat := if f = 3 then anoConvert 4 3 v else v % 2 ^ anoDepth f

/-- The T5 ranges of the address map (05 R152), and work memory: one surface lies in one of them. -/
def anoRanges : List (Nat × Nat) :=
  [(0, 0x01000000), (0x02000000, 0x02010000), (0x02010000, 0x02018000), (0x02020000, 0x02030000),
    (0x02030000, 0x02070000), (0x02070000, 0x02080000)]

/-- The range of a surface is one that R439 allows. -/
def surfInRange (l : List Nat) : Bool :=
  let hi := sfBase l + (sfH l - 1) * sfPitch l + cdiv (sfW l * anoDepth (sfFmt l)) 8
  anoRanges.any (fun r => r.1 ≤ sfBase l && hi ≤ r.2)

/-- A surface keeps the rules of base and pitch (R441). -/
def surfAligned (l : List Nat) : Bool :=
  sfBase l % 16 = 0 && sfPitch l % 16 = 0 && 16 ≤ sfPitch l && cdiv (sfW l * anoDepth (sfFmt l)) 8 ≤ sfPitch l

/-! ## Entries (13 R453) -/

/-- The commands, and the bits of their four words that may be other than zero. -/
def anoMasks (cmd : Nat) : Option (List Nat) :=
  let xy := 0x3FFF3FFF
  match cmd with
  | 0x00 => some [0, 0, 0, 0]
  | 0x01 => some [7, 0xFFFFFFFF, 0xFFFF, xy]
  | 0x02 => some [7, 0xFFFFFFFF, 0xFFFF, xy]
  | 0x03 => some [0, 0xFFFFFFFF, 0xFFFFFFFF, 0xFFFFFFFF]
  | 0x04 => some [0xFFFF, 0, 0, 0]
  | 0x05 => some [0x103, xy, xy, 0]
  | 0x10 => some [0x9F0000, xy, xy, xy]
  | 0x11 => some [0x9F0000, 0, xy, xy]
  | 0x12 => some [0x9F0000, xy, xy, xy]
  | 0x13 => some [0x9F0000, xy, xy, 0]
  | 0x14 => some [0x9F0000, 0xFFFFFFFF, 0xFFFFFFFF, 0xFFFFFFFF]
  | 0x20 => some [0x1F0000, 0, 0, 0]
  | 0x21 => some [0x1F0000, 0xFFFF, 0, 0]
  | 0x22 => some [0, 0xFFFFFFFF, 0, 0]
  | 0x30 => some [0, 0xFFFFF0, 0, 0]
  | 0x3F => some [0, 0, 0, 0]
  | _ => none

/-- CMD of an entry. -/
def anoCmd (l : List Nat) : Nat := ew l 0 / 2 ^ 24

/-- An entry is defined, with its zero fields zero. -/
def entryGood (l : List Nat) : Bool :=
  match anoMasks (anoCmd l) with
  | none => false
  | some m => (List.range 4).all (fun i =>
      let w := if i = 0 then ew l 0 % 2 ^ 24 else ew l i
      (w &&& ew m i) = w)

/-- Halves of a word: a column and a line. -/
def eX (w : Nat) : Nat := w % 65536
def eY (w : Nat) : Nat := w / 65536

/-! ## Checks (13 R466) -/

def AnoState.rop (t : AnoState) : Nat := bits (ew t.mode 0) 3 0
def AnoState.keymode (t : AnoState) : Nat := bits (ew t.mode 0) 5 4
def AnoState.blends (t : AnoState) : Bool := bit (ew t.mode 0) 6
def AnoState.bgen (t : AnoState) : Bool := bit (ew t.mode 0) 7
def AnoState.galpha (t : AnoState) : Nat := bits (ew t.mode 0) 15 8

/-- The vertices of a TRI, in quarter pixels. -/
def triPoints (l : List Nat) : List (Int × Int) :=
  [1, 2, 3].map (fun i => (sx 16 (eX (ew l i)), sx 16 (eY (ew l i))))

/-- The extent of a list of integers. -/
def extent (l : List Int) : Int := l.foldl max (l.headD 0) - l.foldl min (l.headD 0)

/-- The kind of the first error of an operation, in the order of the table; none where it is good. -/
def AnoOp.check (o : AnoOp) : Option Nat :=
  let e := o.entry
  let cmd := anoCmd e
  let src := o.st.src
  let dst := o.st.dst
  let reads := cmd = 0x10 || cmd = 0x12
  let rect := cmd ≤ 0x12
  let isOp := 0x10 ≤ cmd && cmd ≤ 0x14
  let states := [o.st.src, o.st.dst, o.st.pen, o.st.mode].all entryGood
  let dx := eX (ew e 2)
  let sx0 := eX (ew e 1)
  let sy0 := eY (ew e 1)
  let w := eX (ew e 3)
  let h := eY (ew e 3)
  let even := fun (x n : Nat) => x % 2 = 0 && n % 2 = 0
  let alignBad := !surfAligned dst || (reads && !surfAligned src)
    || (rect && sfFmt dst = 1 && !even dx w) || (reads && sfFmt src = 1 && !even sx0 w)
    || (reads && sfFmt src = 5 && sx0 % 8 ≠ 0)
  let big := fun (n : Nat) => n = 0 || 4096 < n
  let sizeBad :=
    if rect then big w || big h
    else if cmd = 0x13 then
      4096 ≤ (max (eX (ew e 1)) dx - min (eX (ew e 1)) dx) || 4096 ≤ (max sy0 (eY (ew e 2)) - min sy0 (eY (ew e 2)))
    else 16384 < extent ((triPoints e).map (·.1)) || 16384 < extent ((triPoints e).map (·.2))
  let rangeBad := !surfInRange dst || (reads && (!surfInRange src || sfW src < sx0 + w || sfH src < sy0 + h))
  let plain := fun f => 1 ≤ f && f ≤ 4
  let pairOk := match cmd with
    | 0x10 => plain (sfFmt src) && (sfFmt src = sfFmt dst || (sfFmt src = 3 && sfFmt dst = 4) || (sfFmt src = 4 && sfFmt dst = 3))
    | 0x12 => sfFmt src = 5 || sfFmt src = 6
    | _ => true
  let fmtBad := !plain (sfFmt dst) || !pairOk || (o.st.blends && sfFmt dst < 3)
  if !isOp || !entryGood e || !states then some 1
  else if sfW dst = 0 || sfH dst = 0 || (reads && (sfW src = 0 || sfH src = 0)) then some 2
  else if alignBad then some 3
  else if sizeBad then some 4
  else if rangeBad then some 5
  else if fmtBad then some 6
  else none

/-! ## Accesses (13 R441, R461, R462) -/

/-- A span cut into accesses of 1 to 16 bytes aligned to their size. -/
def pieces : Nat → Nat → Nat → List (Nat × Nat)
  | 0, _, _ => []
  | k + 1, a, n =>
    if n = 0 then []
    else
      let z := if a % 16 = 0 && 16 ≤ n then 16 else if a % 8 = 0 && 8 ≤ n then 8 else if a % 4 = 0 && 4 ≤ n then 4
        else if a % 2 = 0 && 2 ≤ n then 2 else 1
      (a, z) :: pieces k (a + z) (n - z)

/-- A list-mode access spends a credit of consumer 0x0D; it waits for one where none is held. -/
def Hw.anoCredit (s : Hw) (list : Bool) : Hw :=
  if list then s.wr F.LDG_CRED_CREDIT (s.rd F.LDG_CRED_CREDIT 12 - 1) 12 else s

/-- A span read through M6 ID 0; none at an error response. -/
def Hw.anoLoad (s : Hw) (list : Bool) (a n : Nat) : Hw × Option (List Byte) :=
  (pieces n a n).foldl (fun (p : Hw × Option (List Byte)) q =>
    match p.2 with
    | none => p
    | some bs =>
      let r := (p.1.anoCredit list).busLoad 6 0 q.1 q.2
      (r.1, r.2.map (fun l => bs ++ l))) (s, some [])

/-- A span written through M6 ID 0; false at an error response. -/
def Hw.anoStore (s : Hw) (list : Bool) (a : Nat) (bs : List Byte) : Hw × Bool :=
  (pieces bs.length a bs.length).foldl (fun (p : Hw × Bool) q =>
    if p.2 then (p.1.anoCredit list).busStore 6 0 q.1 ((bs.drop (q.1 - a)).take q.2) else p) (s, true)

/-! ## The pixel rule (13 R444) -/

/-- A source pixel: the value compared with KEY and its format, the value S in the destination format, and its alpha. -/
structure AnoPx where
  raw : Nat
  rawFmt : Nat
  s : Nat
  a : Nat
  deriving DecidableEq, Repr

/-- `n` over `d` with alpha `a`. -/
def blendOver (a n d : Nat) : Nat := (n * a + d * (255 - a) + 127) / 255

/-- The blend in a destination format. -/
def anoBlend (fmt a s d : Nat) : Nat :=
  if fmt = 4 then
    (a + (d / 2 ^ 24 * (255 - a) + 127) / 255) * 2 ^ 24 + rgb (blendOver a (pxR s) (pxR d)) (blendOver a (pxG s) (pxG d)) (blendOver a (pxB s) (pxB d))
  else
    blendOver a (s / 2048 % 32) (d / 2048 % 32) * 2048 + blendOver a (s / 32 % 64) (d / 32 % 64) * 32 + blendOver a (s % 32) (d % 32)

/-- A raster operation over `n` bits. -/
def anoRop (rop n s d : Nat) : Nat :=
  ofBits ((List.range n).filter (fun i => bit rop (2 * b2n (bit s i) + b2n (bit d i))))

/-- ROP depends on D: for some S bit its result differs with the D bit (DEDUCED, log 28; the worked example's COPY with ROP
0xC reads no D). -/
def ropReads (rop : Nat) : Bool := bit rop 0 != bit rop 1 || bit rop 2 != bit rop 3

/-- What a destination pixel becomes; none where it is not written. `keyed`: the key test applies. -/
def AnoState.pixel (t : AnoState) (keyed : Bool) (p : AnoPx) (d : Nat) : Option Nat :=
  let fmt := sfFmt t.dst
  if keyed && t.keymode = 1 && p.raw = anoPenIn p.rawFmt (ew t.pen 3) then none
  else if keyed && t.keymode = 2 && d ≠ anoPenIn fmt (ew t.pen 3) then none
  else if t.blends then some (anoBlend fmt ((p.a * t.galpha + 127) / 255) p.s d)
  else some (anoRop t.rop (anoDepth fmt) p.s d)

/-- A pixel of the destination surface is inside the clip (R454). -/
def AnoState.inClip (t : AnoState) (x y : Nat) : Bool :=
  t.clips.all Option.isNone || t.clips.any (fun c => match c with
    | some r => r.1 ≤ x && x ≤ r.2.2.1 && r.2.1 ≤ y && y ≤ r.2.2.2
    | none => false)

/-! ## Drawing a row -/

/-- The runs of bytes to be written, each with its offset. -/
def byteRuns : Nat → List (Option Byte) → List (Nat × List Byte)
  | _, [] => []
  | i, none :: l => byteRuns (i + 1) l
  | i, some b :: l =>
    match byteRuns (i + 1) l with
    | (j, bs) :: rest => if j = i + 1 then (i, b :: bs) :: rest else (i, [b]) :: (j, bs) :: rest
    | [] => [(i, [b])]

/-- Pixels of row `y` from column `x0` on, none where the operation gives no pixel. `undef`: the rectangle's content is
undefined (R451), each of its pixels on the surface a free value. Answers false at an error response. -/
def Hw.anoRow (s : Hw) (o : AnoOp) (undef : Bool) (y x0 : Nat) (px : List (Option AnoPx)) : Hw × Bool :=
  let t := o.st
  let d := anoDepth (sfFmt t.dst)
  let px := (px.take (sfW t.dst - x0)).mapIdx (fun i p => if t.inClip (x0 + i) y then p else none)
  if sfH t.dst ≤ y || (!undef && px.all Option.isNone) then (s, true)
  else
    let keyed := anoCmd o.entry ≠ 0x12
    let row := sfBase t.dst + y * sfPitch t.dst
    let lo := x0 * d / 8
    let n := cdiv ((x0 + px.length) * d) 8 - lo
    let half := d = 4 && (List.range n).any (fun b =>
      (x0 ≤ 2 * (lo + b) && (px.getD (2 * (lo + b) - x0) none).isSome) != (px.getD (2 * (lo + b) + 1 - x0) none).isSome)
    let reads := (keyed && t.keymode = 2) || t.blends || ropReads t.rop || half
    let old := if reads then s.anoLoad o.list (row + lo) n else (s, some [])
    match old.2 with
    | none => (old.1, false)
    | some bs =>
      let dOf := fun i => let x := x0 + i
        if d = 4 then byteAt bs (x / 2 - lo) / (if x % 2 = 0 then 1 else 16) % 16
        else fieldAt bs (x * d / 8 - lo) (d / 8)
      let r := px.foldl (fun (p : Hw × List (Option Nat)) q =>
        if undef then let f := p.1.free; (f.2, p.2 ++ [some (f.1 % 2 ^ d)])
        else (p.1, p.2 ++ [q.bind fun v => t.pixel keyed v (dOf p.2.length)])) (old.1, [])
      let new := r.2
      let out := (List.range n).map (fun b =>
        if d = 4 then
          let x := 2 * (lo + b)
          let nib := fun (x : Nat) => if x0 ≤ x then new.getD (x - x0) none else none
          match nib x, nib (x + 1) with
          | none, none => none
          | a, c =>
            let was := byteAt bs b
            some (BitVec.ofNat 8 (a.getD (was % 16) + 16 * c.getD (was / 16)))
        else
          let x := (lo + b) / (d / 8)
          (new.getD (x - x0) none).map (fun v => BitVec.ofNat 8 (v / 2 ^ (8 * ((lo + b) % (d / 8))))))
      (byteRuns 0 out).foldl (fun (p : Hw × Bool) q =>
        if p.2 then p.1.anoStore o.list (row + lo + q.1) q.2 else p) (r.1, true)

/-! ## Operations (13 R445 to R451) -/

/-- FG as a source pixel. -/
def AnoState.fg (t : AnoState) : AnoPx :=
  let v := anoPenIn (sfFmt t.dst) (ew t.pen 1)
  ⟨v, sfFmt t.dst, v, ew t.pen 1 / 2 ^ 24⟩

/-- The source pixels of one row of COPY or EXPAND from the bytes of that row. `x` the first column. -/
def AnoState.sourceRow (t : AnoState) (copy : Bool) (bs : List Byte) (x w : Nat) : List (Option AnoPx) :=
  let f := sfFmt t.src
  let d := anoDepth f
  let lo := x * d / 8
  let val := fun i =>
    if d < 8 then byteAt bs ((x + i) * d / 8 - lo) / 2 ^ ((x + i) * d % 8) % 2 ^ d
    else fieldAt bs ((x + i) * d / 8 - lo) (d / 8)
  let df := sfFmt t.dst
  (List.range w).map (fun i =>
    let v := val i
    if copy then some ⟨v, f, anoConvert f df v, if f = 4 then v / 2 ^ 24 else 0xFF⟩
    else
      let fg := anoPenIn df (ew t.pen 1)
      if f = 5 then
        if v = 1 then some ⟨fg, df, fg, 0xFF⟩
        else if t.bgen then (let bg := anoPenIn df (ew t.pen 2); some ⟨bg, df, bg, 0xFF⟩) else none
      else if !t.blends && v = 0 then none
      else some ⟨fg, df, fg, v⟩)

/-- A byte that a COPY or EXPAND reads is also a byte that it writes (R451). -/
def AnoOp.overlaps (o : AnoOp) : Bool :=
  let t := o.st
  let w := eX (ew o.entry 3)
  let h := eY (ew o.entry 3)
  let ds := anoDepth (sfFmt t.src)
  let dd := anoDepth (sfFmt t.dst)
  let x := eX (ew o.entry 1)
  let start := sfBase t.src + eY (ew o.entry 1) * sfPitch t.src + x * ds / 8
  let len := cdiv ((x + w) * ds) 8 - x * ds / 8
  let read := fun b => start ≤ b && (b - start) % sfPitch t.src < len && (b - start) / sfPitch t.src < h
  (List.range h).any (fun j => (List.range w).any (fun i =>
    let px := eX (ew o.entry 2) + i
    let py := eY (ew o.entry 2) + j
    px < sfW t.dst && py < sfH t.dst && t.inClip px py
      && (List.range (cdiv dd 8)).any (fun k => read (sfBase t.dst + py * sfPitch t.dst + px * dd / 8 + k))))

/-- COPY and EXPAND. -/
def Hw.anoCopy (s : Hw) (o : AnoOp) : Hw × Bool :=
  let t := o.st
  let undef := o.overlaps
  let copy := anoCmd o.entry = 0x10
  let sx0 := eX (ew o.entry 1)
  let w := eX (ew o.entry 3)
  let d := anoDepth (sfFmt t.src)
  foldUp (fun (p : Hw × Bool) j =>
    let y := eY (ew o.entry 2) + j
    if !p.2 || sfH t.dst ≤ y then p
    else
      let a := sfBase t.src + (eY (ew o.entry 1) + j) * sfPitch t.src + sx0 * d / 8
      let r := p.1.anoLoad o.list a (cdiv ((sx0 + w) * d) 8 - sx0 * d / 8)
      match r.2 with
      | none => (r.1, false)
      | some bs => r.1.anoRow o undef y (eX (ew o.entry 2)) (t.sourceRow copy bs sx0 w)) 0 (eY (ew o.entry 3)) (s, true)

/-- FILL. -/
def Hw.anoFill (s : Hw) (o : AnoOp) : Hw × Bool :=
  foldUp (fun (p : Hw × Bool) j =>
    if p.2 then p.1.anoRow o false (eY (ew o.entry 2) + j) (eX (ew o.entry 2))
      (List.replicate (eX (ew o.entry 3)) (some o.st.fg))
    else p) 0 (eY (ew o.entry 3)) (s, true)

/-- The pixels of a LINE (R448). -/
def linePoints (x0 y0 x1 y1 : Nat) : List (Nat × Nat) :=
  let ax := max x0 x1 - min x0 x1
  let ay := max y0 y1 - min y0 y1
  let steep := ax < ay
  let p := if steep then ((y0, x0), (y1, x1)) else ((x0, y0), (x1, y1))
  let q := if p.1.1 ≤ p.2.1 then p else (p.2, p.1)
  let dm := q.2.1 - q.1.1
  (List.range (dm + 1)).map (fun i =>
    let m := q.1.1 + i
    let num : Int := (2 * q.1.2 * dm + dm : Nat) + 2 * (i : Int) * ((q.2.2 : Int) - (q.1.2 : Int))
    let n := if dm = 0 then q.1.2 else (num / ((2 * dm : Nat) : Int)).toNat
    if steep then (n, m) else (m, n))

/-- LINE. -/
def Hw.anoLine (s : Hw) (o : AnoOp) : Hw × Bool :=
  let a := ew o.entry 1
  let b := ew o.entry 2
  (linePoints (eX a) (eY a) (eX b) (eY b)).foldl (fun (p : Hw × Bool) c =>
    if p.2 then p.1.anoRow o false c.2 c.1 [some o.st.fg] else p) (s, true)

/-- The centre of pixel (x, y) is inside a triangle in quarter pixels, or on a top or left edge of it (R449). -/
def triHas (v : List (Int × Int)) (x y : Nat) : Bool :=
  let p := fun i => v.getD i (0, 0)
  let cross := fun (a b : Int × Int) (c : Int × Int) => (b.1 - a.1) * (c.2 - a.2) - (b.2 - a.2) * (c.1 - a.1)
  let area := cross (p 0) (p 1) (p 2)
  let q := if area < 0 then [p 0, p 2, p 1] else [p 0, p 1, p 2]
  let c : Int × Int := (4 * (x : Int) + 2, 4 * (y : Int) + 2)
  area ≠ 0 && (List.range 3).all (fun i =>
    let a := q.getD i (0, 0)
    let b := q.getD ((i + 1) % 3) (0, 0)
    let e := cross a b c
    0 < e || (e = 0 && ((a.2 = b.2 && a.1 < b.1) || b.2 < a.2)))

/-- TRI. -/
def Hw.anoTri (s : Hw) (o : AnoOp) : Hw × Bool :=
  let v := triPoints o.entry
  let lo := fun (l : List Int) => (max 0 (l.foldl min (l.headD 0) / 4)).toNat
  let hi := fun (l : List Int) => (max 0 (l.foldl max (l.headD 0) / 4 + 1)).toNat
  let x0 := lo (v.map (·.1))
  let y0 := lo (v.map (·.2))
  let w := min (hi (v.map (·.1))) (sfW o.st.dst) - x0
  let h := min (hi (v.map (·.2))) (sfH o.st.dst) - y0
  foldUp (fun (p : Hw × Bool) y =>
    if p.2 then p.1.anoRow o false y x0
      ((List.range w).map (fun i => if triHas v (x0 + i) y then some o.st.fg else none))
    else p) y0 h (s, true)

/-- The accesses of an operation. -/
def Hw.anoDraw (s : Hw) (o : AnoOp) : Hw × Bool :=
  match anoCmd o.entry with
  | 0x10 => s.anoCopy o
  | 0x11 => s.anoFill o
  | 0x12 => s.anoCopy o
  | 0x13 => s.anoLine o
  | _ => s.anoTri o

/-! ## Register mode and list mode -/

/-- Anole's record changed. -/
def Hw.modAno (s : Hw) (f : Ano → Ano) : Hw := { s with ano := f s.ano }

/-- A list runs; a register-mode operation runs. -/
def Hw.listRuns (s : Hw) : Bool := s.rdB F.ANO_STAT_LIST
def Hw.regRuns (s : Hw) : Bool := s.rdB F.ANO_STAT_REG

/-- Consumer 0x0D is shed, or has no reservation: Anole grants itself nothing (R463). -/
def Hw.anoHeld (s : Hw) : Bool := s.shed 13 || s.actLu 13 = 0

/-- PAUSED follows what runs and what the ledger grants (R463). -/
def Hw.anoPause (s : Hw) : Hw :=
  let now := s.on 33 && (s.listRuns || s.regRuns) && s.anoHeld
  let was := s.rdB F.ANO_STAT_PAUSED
  if now && !was then (s.wr F.ANO_STAT_PAUSED 1).raiseBit bANO 5
  else if !now && was then s.wr F.ANO_STAT_PAUSED 0
  else s

/-- Nothing runs any more. -/
def Hw.anoIdle (s : Hw) : Hw :=
  let s := ((s.wr F.ANO_CTRL_GO 0).wr F.ANO_CTRL_LGO 0).modAno (fun a => { a with op := none, hold := none })
  (((s.wr F.ANO_STAT_REG 0).wr F.ANO_STAT_LIST 0).wr F.ANO_STAT_FWAIT 0).anoPause

/-- An error recorded (R467). -/
def Hw.anoError (s : Hw) (kind addr : Nat) : Hw :=
  ((((s.wr F.ANO_ERR_KIND kind).wr F.ANO_ERR_ADDR (addr / 16)).wr F.ANO_STAT_ERR kind).inc F.ANO_CNT_ERRS).raiseBit bANO 2

/-- An error that ends what runs. -/
def Hw.anoFail (s : Hw) (kind addr : Nat) : Hw := (s.anoError kind addr).anoIdle

/-- The state and the operation that the register groups hold (R455). -/
def Hw.anoRegs (s : Hw) (off : Nat) : List Nat := (List.range 4).map (fun i => (s.reg (0x04090000 + off + 4 * i)).toNat)

/-- A register-mode operation starts with the registers as they stand (R456, R466). -/
def Hw.anoStart (s : Hw) : Hw :=
  let o : AnoOp := ⟨⟨s.anoRegs 0x100, s.anoRegs 0x110, s.anoRegs 0x120, s.anoRegs 0x130, [none, none, none, none]⟩,
    s.anoRegs 0x140, 0, false, false⟩
  match o.check with
  | some k => s.anoFail k 0
  | none => (((s.wr F.ANO_CTRL_GO 1).wr F.ANO_STAT_REG 1).modAno (fun a => { a with op := some o })).anoPause

/-- The fence of an operation with FEN = 1. -/
def Hw.opFence (s : Hw) (e : List Nat) : Hw :=
  if bit (ew e 0) 23 then s.signalFence (bits (ew e 0) 20 16) 1 else s

/-- The list goes on at an entry; one more has been executed. -/
def Hw.listNext (s : Hw) (addr : Nat) : Hw :=
  let n := s.rd F.ANO_LCNT_ENTRIES + 1
  ((s.wr F.ANO_LPTR_ADDR (addr / 16)).wr F.ANO_LCNT_ENTRIES n).wr F.ANO_STAT_LCNT n

/-- ANO_OP_DONE: the last write response of the operation that runs arrives (R456, R464). -/
def Hw.anoDone (s : Hw) : Hw :=
  match s.ano.op with
  | none => s
  | some o =>
    if !o.drawn then s
    else
      let s := (s.modAno (fun a => { a with op := none })).inc F.ANO_CNT_OPS
      let s := if o.list then s.listNext (o.addr + 16)
        else ((s.wr F.ANO_CTRL_GO 0).wr F.ANO_STAT_REG 0).raiseBit bANO 0
      (s.opFence o.entry).anoPause

/-- A GO written (R456, R457; 02 R45, R46). `done`: the running operation completes in the same cycle. -/
def Hw.anoGo (s : Hw) (done : Bool) : Hw :=
  if !s.on 33 then s
  else if s.listRuns then s.anoError 9 0
  else if s.regRuns then
    if done && (s.ano.op.map (·.drawn)).getD false then s.anoDone.anoStart.collide bANO none false true else s.goIgnored bANO
  else s.anoStart

/-- The list at ANO_LBASE starts (R458, R462). -/
def Hw.listStart (s : Hw) : Hw :=
  if s.actLu 13 = 0 then s.anoError 8 0
  else if s.regRuns then s.anoError 9 0
  else
    let s := ((s.wr F.ANO_CTRL_LGO 1).wr F.ANO_STAT_LIST 1).modAno (fun _ => Ano.reset)
    (((s.wr F.ANO_LPTR_ADDR (s.rd F.ANO_LBASE_ADDR)).wr F.ANO_LCNT_ENTRIES 0).wr F.ANO_STAT_LCNT 0).anoPause

/-! ## List entries -/

/-- The entry at a list's pointer, read through M6. -/
def Hw.listEntry (s : Hw) : Hw × Option (List Nat) :=
  let r := (s.anoCredit true).busLoad 6 0 (s.rd F.ANO_LPTR_ADDR * 16) 16
  (r.1, r.2.map (fun bs => (List.range 4).map (fun i => fieldAt bs (4 * i) 4)))

/-- The list executes the entry it stands at, where its CMD is `cmd`: `f` is the entry's effect, given its address. A bad
entry, or a read that fails, stops the list there. -/
def Hw.anoEntry (s : Hw) (cmd : Nat) (f : Hw → List Nat → Nat → Hw) : Hw :=
  if !s.on 33 || !s.listRuns || s.anoHeld || s.ano.op.isSome || s.ano.hold.isSome then s
  else
    let addr := s.rd F.ANO_LPTR_ADDR * 16
    let r := s.listEntry
    match r.2 with
    | none => r.1.anoFail 7 addr
    | some e =>
      if !entryGood e then r.1.anoFail 1 addr
      else if anoCmd e = cmd then f r.1 e addr
      else s

/-- A state entry: it sets its part, and the list goes on. -/
def Hw.anoSet (s : Hw) (cmd : Nat) (g : AnoState → List Nat → AnoState) : Hw :=
  s.anoEntry cmd (fun s e a => (s.modAno (fun n => { n with st := g n.st e })).listNext (a + 16))

/-- The accesses of the operation that runs are made; an error response ends it (R467). -/
def Hw.anoAccess (s : Hw) (o : AnoOp) : Hw :=
  let r := s.anoDraw o
  if r.2 then r.1.modAno (fun a => { a with op := some { o with drawn := true } }) else r.1.anoFail 7 o.addr

/-- ANO_COPY, ANO_FILL, ANO_EXPAND, ANO_LINE, ANO_TRI: the operation that register mode has started, or the one at the
list's entry, makes its accesses. -/
def Hw.anoOperate (s : Hw) (cmd : Nat) : Hw :=
  if s.regRuns then
    match s.ano.op with
    | some o => if s.on 33 && !s.anoHeld && !o.drawn && anoCmd o.entry = cmd then s.anoAccess o else s
    | none => s
  else
    s.anoEntry cmd (fun s e a =>
      let o : AnoOp := ⟨s.ano.st, e, a, true, false⟩
      match o.check with
      | some k => s.anoFail k a
      | none => s.anoAccess o)

/-- The fence `f` has reached `need` (11 R401). -/
def Hw.fenceReached (s : Hw) (f need : Nat) : Bool :=
  decide ((s.rd F.CMP_FENCE_COUNT f + 65536 - need) % 65536 < 32768)

/-- The list ends at END (R459). -/
def Hw.listEnd (s : Hw) : Hw :=
  s.anoEntry 0x3F (fun s _ a => (((s.listNext a).wr F.ANO_CTRL_LGO 0).anoIdle).raiseBit bANO 1)

/-- An LGO written. `ends`: the list's END completes in the same cycle (R459; 02 R46). -/
def Hw.anoLgo (s : Hw) (ends : Bool) : Hw :=
  if !s.on 33 then s
  else if s.listRuns then
    let t := s.listEnd
    if ends && !t.listRuns then t.listStart.collide bANO none false true else s.goIgnored bANO
  else s.listStart

/-- STOP written (R468). `done`: the running operation completes in the same cycle. -/
def Hw.anoStop (s : Hw) (done : Bool) : Hw :=
  let s := if done && s.regRuns then s.anoDone else s
  if s.on 33 && (s.listRuns || s.regRuns) then s.anoIdle.raiseBit bANO 4 else s

/-- ANO_STAT as it stands. -/
def Hw.anoStatus (s : Hw) : Word := s.reg 0x04090044

/-! ## Meanings -/

/-- ANO_GO. -/
def execAnoGo (done : Bool) (s : State) : Host.Outcome State Fault Refusal := s.onHw fun h => h.anoGo done

/-- ANO_LGO. -/
def execAnoLgo (ends : Bool) (s : State) : Host.Outcome State Fault Refusal := s.onHw fun h => h.anoLgo ends

/-- ANO_STOP. -/
def execAnoStop (done : Bool) (s : State) : Host.Outcome State Fault Refusal := s.onHw fun h => h.anoStop done

/-- ANO_OP_DONE. -/
def execAnoOpDone (s : State) : Host.Outcome State Fault Refusal := s.onHw Hw.anoDone

/-- ANO_NOP. -/
def execAnoNop (s : State) : Host.Outcome State Fault Refusal :=
  s.onHw fun h => h.anoEntry 0x00 (fun h _ a => h.listNext (a + 16))

/-- ANO_SRC. -/
def execAnoSrc (s : State) : Host.Outcome State Fault Refusal :=
  s.onHw fun h => h.anoSet 0x01 (fun t e => { t with src := e })

/-- ANO_DST. -/
def execAnoDst (s : State) : Host.Outcome State Fault Refusal :=
  s.onHw fun h => h.anoSet 0x02 (fun t e => { t with dst := e })

/-- ANO_PEN. -/
def execAnoPen (s : State) : Host.Outcome State Fault Refusal :=
  s.onHw fun h => h.anoSet 0x03 (fun t e => { t with pen := e })

/-- ANO_MODE. -/
def execAnoMode (s : State) : Host.Outcome State Fault Refusal :=
  s.onHw fun h => h.anoSet 0x04 (fun t e => { t with mode := e })

/-- ANO_CLIP. -/
def execAnoClip (s : State) : Host.Outcome State Fault Refusal :=
  s.onHw fun h => h.anoSet 0x05 (fun t e =>
    let c := if bit (ew e 0) 8 then some (eX (ew e 1), eY (ew e 1), eX (ew e 2), eY (ew e 2)) else none
    { t with clips := t.clips.set (ew e 0 % 4) c })

/-- ANO_COPY. -/
def execAnoCopy (s : State) : Host.Outcome State Fault Refusal := s.onHw fun h => h.anoOperate 0x10

/-- ANO_FILL. -/
def execAnoFill (s : State) : Host.Outcome State Fault Refusal := s.onHw fun h => h.anoOperate 0x11

/-- ANO_EXPAND. -/
def execAnoExpand (s : State) : Host.Outcome State Fault Refusal := s.onHw fun h => h.anoOperate 0x12

/-- ANO_LINE. -/
def execAnoLine (s : State) : Host.Outcome State Fault Refusal := s.onHw fun h => h.anoOperate 0x13

/-- ANO_TRI. -/
def execAnoTri (s : State) : Host.Outcome State Fault Refusal := s.onHw fun h => h.anoOperate 0x14

/-- ANO_FENCE. -/
def execAnoFence (s : State) : Host.Outcome State Fault Refusal :=
  s.onHw fun h => h.anoEntry 0x20 (fun h e a => (h.listNext (a + 16)).signalFence (bits (ew e 0) 20 16) 1)

/-- ANO_FWAIT: a fence that has reached NEED holds nothing. -/
def execAnoFwait (s : State) : Host.Outcome State Fault Refusal :=
  s.onHw fun h => h.anoEntry 0x21 (fun h e a =>
    let f := bits (ew e 0) 20 16
    if h.fenceReached f (ew e 1) then h.listNext (a + 16)
    else (h.wr F.ANO_STAT_FWAIT 1).modAno (fun n => { n with hold := some (f, ew e 1) }))

/-- ANO_FWAIT_RELEASE. -/
def execAnoFwaitRelease (s : State) : Host.Outcome State Fault Refusal :=
  s.onHw fun h =>
    match h.ano.hold with
    | some w =>
      if h.fenceReached w.1 w.2 then
        ((h.wr F.ANO_STAT_FWAIT 0).modAno (fun n => { n with hold := none })).listNext (h.rd F.ANO_LPTR_ADDR * 16 + 16)
      else h
    | none => h

/-- ANO_MARK. -/
def execAnoMark (s : State) : Host.Outcome State Fault Refusal :=
  s.onHw fun h => h.anoEntry 0x22 (fun h e a => ((h.wr F.ANO_MARK (ew e 1)).raiseBit bANO 3).listNext (a + 16))

/-- ANO_JUMP. -/
def execAnoJump (s : State) : Host.Outcome State Fault Refusal :=
  s.onHw fun h => h.anoEntry 0x30 (fun h e _ => h.listNext (ew e 1))

/-- ANO_END. -/
def execAnoEnd (s : State) : Host.Outcome State Fault Refusal := s.onHw Hw.listEnd

/-- LIST_RUN, taken by slot 0. -/
def execListRun (s : State) : Host.Outcome State Fault Refusal :=
  s.onHw fun h => h.slotTake 0 1 (fun h c => ((h.wr F.ANO_LBASE_ADDR (c.a.toNat / 16)).listStart, []))

/-- ANO_SLOT_STATUS. -/
def execAnoSlotStatus (s : State) : Host.Outcome State Fault Refusal :=
  s.onHw fun h => h.slotTake 0 2 (fun h _ => (h, [h.anoStatus]))

/-- FENCE_WAIT: slot 0 takes it and waits for the next signal of its fence. -/
def execFenceWait (s : State) : Host.Outcome State Fault Refusal :=
  s.onHw fun h =>
    if !(h.cop.results.getD 0 []).isEmpty || !h.cop.fenceWaits.isEmpty then h
    else
      match h.cop.slots.getD 0 [] with
      | c :: rest => if c.op = 3 then { h with cop := { h.cop with slots := h.cop.slots.set 0 rest, fenceWaits := [c] } } else h
      | [] => h

end Sys2Proof.Machine
end

