-- ==== Sys2Proof/Machine/GpioRows.lean ====
section
/-! DEFINITION. The commands on GPIO pins (18 R608 to R619; 16 R536). -/

namespace Sys2Proof.Machine

open Sys2Proof

/-- GPIO_INPUT_EDGE (18 R619): an edge at a pin's input. -/
def execGpioInputEdge (pin : Fin 96) (rising : Bool) (s : State) : Host.Outcome State Fault Refusal :=
  s.onHw fun h => h.inputEdge pin rising

/-- GPIO_INPUT_CHANGE (16 R533, R536, R540): the level that the outside gives a ball changes; Varan sees the pins at the
next tick of the GPIO sample clock. -/
def execGpioInputChange (pin : Fin 96) (level : Bool) (s : State) : Host.Outcome State Fault Refusal :=
  s.onHw fun h => ({ h with gpi := { h.gpi with ext := h.gpi.ext.set pin level } } : Hw).varGpio

/-- GPI_OUT_WRITE (18 R612, R613). -/
def execGpiOutWrite (master : Fin 12) (k : Fin 3) (value : Word) (s : State) : Host.Outcome State Fault Refusal :=
  s.byMaster master fun h => if h.on 46 then (h.pinWordWrite F.GPI_OUT_OUT master k value).varGpio else h

/-- GPI_OE_WRITE (18 R612, R613). -/
def execGpiOeWrite (master : Fin 12) (k : Fin 3) (value : Word) (s : State) : Host.Outcome State Fault Refusal :=
  s.byMaster master fun h => if h.on 46 then (h.pinWordWrite F.GPI_OE_OE master k value).varGpio else h

/-- GPI_PIN_WRITE (18 R612, R613, R615). -/
def execGpiPinWrite (master : Fin 12) (pin : Fin 96) (value : Word) (s : State) : Host.Outcome State Fault Refusal :=
  s.byMaster master fun h => (h.pinCfgWrite master pin value).varGpio

/-- BANK_SUPPLY_FAULT (18 R608, R687): while the bank's domain is on, BADk sets and every pin of the bank is
high-impedance until the domain is switched on again. -/
def execBankSupplyFault (bank : Fin 4) (s : State) : Host.Outcome State Fault Refusal :=
  s.onHw fun h =>
    if h.on (pinDomain (24 * (bank : Nat))) then
      ({ h with gpi := { h.gpi with bad := h.gpi.bad.set bank true } } : Hw).varGpio
    else h

end Sys2Proof.Machine
end

