-- ==== Sys2Proof/Machine/Periph.lean ====
section
/-! DEFINITION. The xSPI controller, the I2C controllers, the UARTs and the backlight PWM (18 R627 to R631, R639 to
R646). -/

namespace Sys2Proof.Machine

open Sys2Proof

/-! ## xSPI (18 R627 to R631) -/

/-- The bytes of XSP_BUF. -/
def Hw.xspBuf (s : Hw) (n : Nat) : List Byte :=
  ((List.range 64).flatMap (fun i => leBytes 4 (s.rd F.XSP_BUF i))).take n

/-- Bytes written to XSP_BUF from byte 0 on. -/
def Hw.setXspBuf (s : Hw) (bs : List Byte) : Hw :=
  let full := bs ++ (s.xspBuf 256).drop bs.length
  foldUp (fun s i => s.wr F.XSP_BUF (fieldAt full (4 * i) 4) i) 0 (cdiv bs.length 4) s

/-- The flash address of a window offset: modulo 2^SIZE, SIZE outside 16..28 acting as 28 (18 R628). -/
def Hw.flashAddr (s : Hw) (x : Nat) : Nat :=
  let z := s.rd F.XSP_CFG_SIZE
  x % 2 ^ (if 16 ≤ z && z ≤ 28 then z else 28)

/-- A window read of a byte range within one line: the data on a hit (the line becomes the most recently used); on a miss
the line is asked for and there is no data yet (18 R629). -/
def Hw.xspRead (s : Hw) (a n : Nat) : Hw × Option (List Byte) :=
  let f := s.flashAddr (a - 0x10000000)
  let line := f / 64 * 64
  match s.xsp.lines.find? (fun l => l.1 == line) with
  | some l =>
    ({ s with xsp := { s.xsp with lines := l :: s.xsp.lines.filter (fun m => m.1 != line) } },
      some ((l.2.drop (f % 64)).take n))
  | none =>
    ({ s with xsp := { s.xsp with miss := if s.xsp.prefetch = some line then s.xsp.miss else some line } }, none)

/-- The read buffer emptied (18 R630). -/
def Hw.xspInvalidate (s : Hw) : Hw := { s with xsp := { s.xsp with lines := [] } }

/-- A flash instruction completes (18 R630): read data goes to XSP_BUF, a write-direction command invalidates the read
buffer, CMDDONE sets. -/
def Hw.xspFinish (s : Hw) (data : List Byte) : Hw :=
  match s.xsp.cmd with
  | none => s
  | some c =>
    let n := min (getBits c.word 28 20) 256
    let s := if c.word.getLsbD 18 then s.xspInvalidate else s.setXspBuf (fitBytes n data)
    ((({ s with xsp := { s.xsp with cmd := none } }).wr F.XSP_CMD_GO 0).raiseBit bXSP 0)

/-- A command begins with the registers as they stand at the end of the GO write's cycle (02 R47). -/
def Hw.xspBegin (s : Hw) : Hw :=
  let c : XspCmd := ⟨s.reg 0x04100044, s.rd F.XSP_CMDADDR_ADDR, s.xspBuf (min (s.rd F.XSP_CMD_DLEN) 256)⟩
  { s.wr F.XSP_CMD_GO 1 with xsp := { (s.wr F.XSP_CMD_GO 1).xsp with cmd := some c } }

/-- A write of XSP_CMD with GO = 1: ignored while a command or a DMA runs, unless the command completes in the same cycle
(02 R45, R46; 18 R631). `completes` is the data of a completion in that cycle. -/
def Hw.xspGo (s : Hw) (v : Word) (completes : Option (List Byte)) : Hw :=
  let put := fun (s : Hw) => s.setReg 0x04100044 (v &&& 0x1FFFFFF0#32 ||| (s.reg 0x04100044 &&& 1#32))
  if !s.on 44 then s
  else if !v.getLsbD 0 then put s
  else if s.xsp.dma.isSome then (put s).goIgnored bXSP
  else match s.xsp.cmd, completes with
    | some _, some d => ((put (s.xspFinish d)).xspBegin).collide bXSP none false true
    | some _, none => (put s).goIgnored bXSP
    | none, _ => (put s).xspBegin

/-- The DMA ends (18 R631): the flash bytes go to work memory through M10 in 16-byte writes; an error response stops the
copy and sets FERR; DMADONE sets. -/
def Hw.xspDmaEnd (s : Hw) (data : List Byte) : Hw :=
  match s.xsp.dma with
  | none => s
  | some d =>
    let r := foldUp (fun (p : Hw × Bool) i =>
        if p.2 then p.1.busStore 10 0 (d.dst + 16 * i) (fitBytes 16 (data.drop (16 * i))) else p)
      0 (d.len / 16) (s, true)
    let s := ({ r.1 with xsp := { r.1.xsp with dma := none } }).wr F.XSP_DMACTRL_GO 0
    s.raise bXSP (if r.2 then 2 else 6)

/-- The DMA begins. -/
def Hw.xspDmaBegin (s : Hw) : Hw :=
  let d : XspDma := ⟨s.rd F.XSP_DMASRC_ADDR, s.rd F.XSP_DMADST_ADDR * 16, min (s.rd F.XSP_DMALEN_LEN * 16) 16777216⟩
  { s.wr F.XSP_DMACTRL_GO 1 with xsp := { (s.wr F.XSP_DMACTRL_GO 1).xsp with dma := some d } }

/-- A write of 1 to XSP_DMACTRL.GO (02 R45, R46; 18 R631). -/
def Hw.xspDmaGo (s : Hw) (completes : Option (List Byte)) : Hw :=
  if !s.on 44 then s
  else if s.xsp.cmd.isSome then s.goIgnored bXSP
  else match s.xsp.dma, completes with
    | some _, some d => ((s.xspDmaEnd d).xspDmaBegin).collide bXSP none false true
    | some _, none => s.goIgnored bXSP
    | none, _ => s.xspDmaBegin

/-- A line arrives whole in the read buffer (18 R629): it becomes the most recently used of 16; the line that was missed
starts the prefetch of the next. -/
def Hw.xspFill (s : Hw) (line : Nat) (data : List Byte) : Hw :=
  let l := line / 64 * 64
  if s.xsp.miss = some l || s.xsp.prefetch = some l then
    let lines := ((l, fitBytes 64 data) :: s.xsp.lines.filter (fun m => m.1 != l)).take 16
    let next := s.flashAddr (l + 64)
    { s with xsp := { s.xsp with
        lines := lines
        miss := if s.xsp.miss = some l then none else s.xsp.miss
        prefetch := if s.xsp.miss = some l then (if lines.any (fun m => m.1 == next) then none else some next)
          else none } }
  else s

/-- XSP_CMD_GO. -/
def execXspCmdGo (value : Word) (completes : Option (List Byte)) (s : State) : Host.Outcome State Fault Refusal :=
  s.onHw fun h => h.xspGo value completes

/-- XSP_CMD_DONE. -/
def execXspCmdDone (data : List Byte) (s : State) : Host.Outcome State Fault Refusal :=
  s.onHw fun h => h.xspFinish data

/-- XSP_DMA_GO. -/
def execXspDmaGo (completes : Option (List Byte)) (s : State) : Host.Outcome State Fault Refusal :=
  s.onHw fun h => h.xspDmaGo completes

/-- XSP_DMA_DONE. -/
def execXspDmaDone (data : List Byte) (s : State) : Host.Outcome State Fault Refusal :=
  s.onHw fun h => h.xspDmaEnd data

/-- XSP_LINE_FILL_DONE. -/
def execXspLineFillDone (line : Nat) (data : List Byte) (s : State) : Host.Outcome State Fault Refusal :=
  s.onHw fun h => h.xspFill line data

/-! ## I2C (18 R639 to R642) -/

/-- The transmit buffer of a controller. -/
def Hw.i2cTx (s : Hw) (c n : Nat) : List Byte :=
  ((List.range 8).flatMap (fun i => leBytes 4 (s.reg (0x040E0420 + 0x80 * c + 4 * i)).toNat)).take n

/-- Received bytes put into the receive buffer from byte 0 on. -/
def Hw.i2cRx (s : Hw) (c : Nat) (bs : List Byte) : Hw :=
  let old := (List.range 8).flatMap (fun i => leBytes 4 (s.reg (0x040E0440 + 0x80 * c + 4 * i)).toNat)
  let full := bs ++ old.drop bs.length
  foldUp (fun s i => s.setReg (0x040E0440 + 0x80 * c + 4 * i) (BitVec.ofNat 32 (fieldAt full (4 * i) 4))) 0 8 s

/-- A transfer begins (18 R640): WLEN and RLEN beyond the 32-byte buffers act as 32 (log 9). -/
def Hw.i2cBegin (s : Hw) (c : Nat) : Hw :=
  let r : I2cRun := ⟨s.rd F.GPI_I2C_ADDR_ADDR c, s.rdB F.GPI_I2C_XFER_A10 c,
    s.i2cTx c (min (s.rd F.GPI_I2C_XFER_WLEN c) 32), min (s.rd F.GPI_I2C_XFER_RLEN c) 32⟩
  { s.wr F.GPI_I2C_XFER_GO 1 c with i2c := (s.wr F.GPI_I2C_XFER_GO 1 c).i2c.set c (some r) }

/-- A transfer ends (18 R640, R641): the result and the bytes completed in I2Cc_STAT, the received bytes in the receive
buffer, GPI_EVT.I2CcDONE. -/
def Hw.i2cEnd (s : Hw) (c res count : Nat) (rx : List Byte) : Hw :=
  match s.i2c.getD c none with
  | none => s
  | some r =>
    let s := (s.i2cRx c (rx.take r.rlen)).wr F.GPI_I2C_XFER_GO 0 c
    let s := (s.wr F.GPI_I2C_STAT_BYTES count c).wr F.GPI_I2C_STAT_RES res c
    ({ s with i2c := s.i2c.set c none }).raiseBit bGPI (5 + c)

/-- A write of I2Cc_XFER (18 R640; 02 R45, R46). `completes`: how the running transfer completes in the same
cycle, where it does. -/
def Hw.i2cGo (s : Hw) (c : Nat) (v : Word) (completes : Option I2cEnd) : Hw :=
  let a := 0x040E0400 + 0x80 * c
  let put := fun (s : Hw) => s.setReg a (v &&& 0x003F3F02#32 ||| (s.reg a &&& 1#32))
  if !s.on 46 then s
  else if !v.getLsbD 0 then put s
  else if (s.i2c.getD c none).isSome then
    match completes with
    | some x => ((put (s.i2cEnd c x.result x.count x.received)).i2cBegin c).collide bGPI none false true
    | none => (put s).goIgnored bGPI
  else (put s).i2cBegin c

/-- I2C_XFER_GO. -/
def execI2cXferGo (ctrl : Fin 2) (value : Word) (completes : Option I2cEnd) (s : State) : Host.Outcome State Fault Refusal :=
  s.onHw fun h => h.i2cGo ctrl value completes

/-- I2C_XFER_DONE: results 0 OK, 1 ANACK, 2 DNACK, 3 ARBLOST, 4 TIMEOUT, 5 BUSERR (18 R641). -/
def execI2cXferDone (ctrl : Fin 2) (ending : I2cEnd) (s : State) : Host.Outcome State Fault Refusal :=
  s.onHw fun h => h.i2cEnd ctrl ending.result ending.count ending.received

/-- I2C_SCL_TIMEOUT (18 R641). -/
def execI2cSclTimeout (ctrl : Fin 2) (count : Nat) (received : List Byte) (s : State) :
    Host.Outcome State Fault Refusal :=
  s.onHw fun h => h.i2cEnd ctrl 4 count received

/-! ## UARTs (18 R643, R644) -/

/-- A UART's FIFOs. -/
def Hw.uartAt (s : Hw) (u : Nat) : Uart := s.uart.getD u ⟨[], []⟩

/-- The level events of a UART (18 R644): UuRX while the receive level is at least RXTHR, UuTX while the transmit level is
at most TXTHR. -/
def Hw.uartLevels (s : Hw) (u : Nat) : Nat :=
  let t := s.uartAt u
  b2n (decide (s.rd F.GPI_UART_THR_RXTHR u ≤ t.rx.length)) * 2 ^ (7 + 3 * u)
    + b2n (decide (t.tx.length ≤ s.rd F.GPI_UART_THR_TXTHR u)) * 2 ^ (8 + 3 * u)

/-- The bits of GPI_EVT that the levels of the UARTs hold set. -/
def Hw.uartHeld (s : Hw) : Nat := if s.on 46 then s.uartLevels 0 + s.uartLevels 1 else 0

/-- The events of a UART after a change; UuERR when an error bit was set (18 R644). -/
def Hw.uartEvents (s : Hw) (u : Nat) (err : Bool) : Hw := s.raise bGPI (s.uartLevels u + b2n err * 2 ^ (9 + 3 * u))

/-- A UART's FIFOs set. -/
def Hw.setUart (s : Hw) (u : Nat) (t : Uart) : Hw := { s with uart := s.uart.set u t }

/-- UART_TX_PUSH: a byte pushed, or TXDROP if the transmit FIFO holds 64. -/
def Hw.uartPush (h : Hw) (port : Nat) (data : Byte) : Hw :=
  let t := h.uartAt port
  if !h.on 46 then h
  else if t.tx.length < 64 then (h.setUart port { t with tx := t.tx ++ [data] }).uartEvents port false
  else (h.wr F.GPI_UART_STAT_TXDROP 1 port).uartEvents port true

/-- UART_TX_PUSH. -/
def execUartTxPush (port : Fin 2) (data : Byte) (s : State) : Host.Outcome State Fault Refusal :=
  s.onHw fun h => h.uartPush port data

/-- UART_RX_POP: writing 1 removes the head of the receive FIFO. -/
def Hw.uartPop (h : Hw) (port : Nat) (value : Word) : Hw :=
  let t := h.uartAt port
  if h.on 46 && value.getLsbD 0 then (h.setUart port { t with rx := t.rx.drop 1 }).uartEvents port false else h

/-- UART_RX_POP. -/
def execUartRxPop (port : Fin 2) (value : Word) (s : State) : Host.Outcome State Fault Refusal :=
  s.onHw fun h => h.uartPop port value

/-- UART_RX_FRAME: a good frame's byte enters the receive FIFO, or sets OE if the FIFO holds 64; a frame without its stop
bit sets FE, one with a wrong parity PE, a line held low for a whole frame BRK, each as it holds, and is not stored (log 10). A disabled
UART, or one whose RX does not reach its pin, receives nothing. -/
def execUartRxFrame (port : Fin 2) (data : Byte) (stopOk parityOk broken : Bool) (s : State) :
    Host.Outcome State Fault Refusal :=
  s.onHw fun h =>
    let t := h.uartAt port
    if !h.on 46 || !h.rdB F.GPI_UART_CFG_EN port || !h.fnActive (33 + 2 * port) then h
    else if broken || !stopOk || !parityOk then
      let mark := fun (h : Hw) (bad : Bool) (f : FieldRef) => if bad then h.wr f 1 port else h
      (mark (mark (mark h broken F.GPI_UART_STAT_BRK) (!stopOk) F.GPI_UART_STAT_FE) (!parityOk) F.GPI_UART_STAT_PE).uartEvents port
        true
    else if t.rx.length < 64 then
      (h.setUart port { t with rx := t.rx ++ [if h.rdB F.GPI_UART_CFG_D7 port then data &&& 0x7F#8 else data] }).uartEvents
        port false
    else (h.wr F.GPI_UART_STAT_OE 1 port).uartEvents port true

/-- UART_TX_FRAME_SENT: the transmit FIFO falls by the byte sent. -/
def execUartTxFrameSent (port : Fin 2) (s : State) : Host.Outcome State Fault Refusal :=
  s.onHw fun h =>
    let t := h.uartAt port
    if h.on 46 && h.rdB F.GPI_UART_CFG_EN port && !t.tx.isEmpty then
      (h.setUart port { t with tx := t.tx.drop 1 }).uartEvents port false
    else h

/-! ## Backlight PWM (18 R645, R646) -/

/-- A channel's period starts: the pending PERIOD and DUTY take effect. -/
def Hw.pwmStart (s : Hw) (k : Nat) : Hw :=
  (s.wr F.GPI_PWM_ACT_PERIOD (s.rd F.GPI_PWM_CFG_PERIOD k) k).wr F.GPI_PWM_ACT_DUTY (s.rd F.GPI_PWM_DUTY_DUTY k) k

/-- The output of channel `k` at a count of its period (18 R645). -/
def Hw.pwmLevel (s : Hw) (k count : Nat) : Bool :=
  let pol := s.rdB F.GPI_PWM_CFG_POL k
  if s.rdB F.GPI_PWM_CFG_EN k then decide (count < s.rd F.GPI_PWM_ACT_DUTY k) != pol else pol

/-- The function output of a channel at its period's first count. -/
def Hw.pwmDrive (s : Hw) (k : Nat) : Hw := s.setFn (14 + k) (s.pwmLevel k 0) true

/-- With FSYNC = 1 a new period starts at each frame start (18 R646). -/
def Hw.pwmFrameStart (s : Hw) : Hw :=
  if s.on 46 then
    foldUp (fun s k => if s.rdB F.GPI_PWM_CFG_FSYNC k && s.rdB F.GPI_PWM_CFG_EN k then (s.pwmStart k).pwmDrive k else s)
      0 8 s
  else s

/-- PWM_PERIOD_START. -/
def execPwmPeriodStart (channel : Fin 8) (s : State) : Host.Outcome State Fault Refusal :=
  s.onHw fun h => if h.on 46 then (h.pwmStart channel).pwmDrive channel else h

end Sys2Proof.Machine
end

