-- ==== Sys2Proof/Machine/Timing.lean ====
section
/-! DEFINITION. The display timing engine: its states, limits, transfers and seams (09 R309 to R316, R331 to R335), external
lock (09 R317 to R323), flip groups (11 R402 to R406), line and frame starts, and the transfer point of the beam-path
blocks (02 R54, R55). -/

namespace Sys2Proof.Machine

open Sys2Proof

/-! ## Timing values and their limits (09 R309) -/

/-- The timing that fields give, shadow or active. -/
def rasterOf (rd : FieldRef → Nat) : Raster where
  hact := rd F.TIM_H0_HACT
  hfp := rd F.TIM_H0_HFP
  hsw := rd F.TIM_H1_HSW
  hbp := rd F.TIM_H1_HBP
  vact := rd F.TIM_V0_VACT
  vfp := rd F.TIM_V0_VFP
  vsw := rd F.TIM_V1_VSW
  vbp := rd F.TIM_V1_VBP
  khz := rd F.TIM_PIXCLK_KHZ
  mode := rd F.TIM_OUT_MODE

def Hw.timActive (s : Hw) : Raster := rasterOf (fun f => s.rdA f)
def Hw.timShadow (s : Hw) : Raster := rasterOf (fun f => s.rd f)

/-- The pixel clock range of an output mode, in kHz. -/
def khzRange (mode : Nat) : Nat × Nat :=
  match mode with
  | 1 => (20000, 90000)
  | 2 => (40000, 180000)
  | 3 => (20000, 100000)
  | _ => (20000, 180000)

/-- `lo ≤ n ≤ hi`. -/
def within (lo hi n : Nat) : Bool := decide (lo ≤ n) && decide (n ≤ hi)

/-- Every limit of R309, with TIM_LOCK.SRC. -/
def Raster.legal (r : Raster) (src : Nat) : Bool :=
  let k := khzRange r.mode
  let total := r.htotal * r.vtotal
  within k.1 k.2 r.khz && within 16 2048 r.hact && within 16 2048 r.vact && within 4 1024 r.hfp && within 4 1024 r.hbp
    && within 1 255 r.hsw && decide (48 ≤ r.hblank) && decide (cdiv (4 * r.khz) 10000 ≤ r.hblank)
    && decide (r.htotal ≤ 4096) && decide (r.vtotal ≤ 4096) && within 1 1024 r.vfp && within 1 63 r.vsw
    && within 2 1024 r.vbp && decide (4 ≤ r.vblank) && within (24 * total) (120 * total) (r.khz * 1000)
    && (r.mode ≠ 2 || (r.hact % 2 = 0 && r.hfp % 2 = 0 && r.hsw % 2 = 0 && r.hbp % 2 = 0))
    && (src = 0 || (decide (100 * k.1 ≤ 99 * r.khz) && decide (101 * r.khz ≤ 100 * k.2)
      && decide (2400 * total ≤ 99000 * r.khz) && decide (101000 * r.khz ≤ 12000 * total)))

/-- The shadows as they stand would be refused (R315), or cause a seam (R332). -/
def Hw.shBad (s : Hw) : Bool := !s.timShadow.legal (s.rd F.TIM_LOCK_SRC)

/-- A change of timing that is not seamless (R331). -/
def Raster.seams (a b : Raster) : Bool :=
  a.khz ≠ b.khz || a.htotal ≠ b.htotal || a.vtotal ≠ b.vtotal || a.mode ≠ b.mode

/-- The shadows as they stand would cause a seam. -/
def Hw.shSeam (s : Hw) : Bool := s.timActive.seams s.timShadow

/-- Scanning with PD32 off (R316). -/
def Hw.noPhy (s : Hw) : Bool := s.scanning && !s.on 32

/-! ## External lock (09 R317 to R323) -/

/-- TIM_LOCKSTAT.STATE: 0 FREE, 1 ACQUIRE, 2 LOCKED, 3 NOREF, 4 OUTRANGE. -/
def Hw.lockState (s : Hw) : Nat := s.rd F.TIM_LOCKSTAT_STATE

/-- The reference in effect: SRC = 3 acts as 0 on the lead node. -/
def Hw.lockSrc (s : Hw) : Nat := if s.rdA F.TIM_LOCK_SRC = 3 && s.brg.lead then 0 else s.rdA F.TIM_LOCK_SRC

/-- The lock state becomes `n`; a departure from LOCKED sets UNLOCK and is counted. -/
def Hw.lockTo (s : Hw) (n : Nat) : Hw :=
  let left := s.lockState = 2 && n ≠ 2
  let s := if left then (s.inc F.TIM_LOCKCNT_UNLOCKS).raiseBit bTIM 9 else s
  (s.wr F.TIM_LOCKSTAT_STATE n).modTim (fun t => { t with near := 0, far := 0, jumped := false })

/-- What a seam or a stop makes of the lock: every state other than FREE becomes ACQUIRE (R320, R335). -/
def Hw.lockLost (s : Hw) : Hw :=
  let s := if s.lockState = 0 then s else s.lockTo 1
  s.modTim (fun t => { t with refSeen := false, inRange := 0, outRange := 0, jump := none })

/-- The lock follows a change of SRC. -/
def Hw.lockSource (s : Hw) : Hw :=
  if s.lockSrc = 0 then (if s.lockState = 0 then s else s.lockTo 0)
  else if s.lockState = 0 then (s.lockTo 1).modTim (fun t => { t with refSeen := false, inRange := 0, outRange := 0 })
  else s

/-- A reference frame start, `gap` after the one before in units of 0.625 ns (R318 to R320). -/
def Hw.reference (s : Hw) (gap : Nat) : Hw :=
  if !s.scanning || s.lockState = 0 then s
  else
    let r := s.tim.ras
    let period := r.htotal * r.vtotal * 1600000
    let dev := ((gap * r.khz : Nat) : Int) - (period : Int)
    let ok := dev.natAbs * 100 ≤ period
    let s := if s.tim.refSeen then
        s.modTim (fun t => { t with refGap := gap, inRange := if ok then t.inRange + 1 else 0
                                    outRange := if ok then 0 else t.outRange + 1 })
      else s.modTim (fun t => { t with refSeen := true })
    if 2 ≤ s.tim.outRange then (if s.lockState = 4 then s else s.lockTo 4)
    else if s.lockState = 3 then s.lockTo 1
    else if s.lockState = 4 && 2 ≤ s.tim.inRange then s.lockTo 1
    else s

/-- REFERENCE_MISSING (R320). -/
def Hw.referenceMissing (s : Hw) : Hw :=
  if s.scanning && s.lockState ≠ 0 && s.lockState ≠ 3 then
    (s.lockTo 3).modTim (fun t => { t with refSeen := false, inRange := 0, outRange := 0 })
  else s

/-- LOCK_ACQUIRED (R320): four frame starts in a row within ±1. -/
def Hw.lockAcquired (s : Hw) : Hw :=
  if s.scanning && s.lockState = 1 && 4 ≤ s.tim.near then (s.lockTo 2).raiseBit bTIM 8 else s

/-- The length that a JUMP adds to the next blanking (R321): what brings the frame start after it to the target, the drift
of one frame included; shortened where that leaves four lines of blanking, else lengthened by at most a frame. -/
def Hw.jumpLength (s : Hw) (phase : Int) : Int :=
  let r := s.tim.ras
  let total := r.htotal * r.vtotal
  let drift : Int := ((s.tim.refGap * r.khz / 1600000 : Nat) : Int) - (total : Int)
  let add := (-phase + (if s.tim.refGap = 0 then 0 else drift)) % (total : Int)
  let cut := (total : Int) - add
  if add = 0 then 0
  else if 4 * (r.htotal : Int) ≤ (r.vblank * r.htotal : Nat) - cut then -cut
  else add

/-- The lock loop at a frame start, with the phase error measured there. -/
def Hw.lockLoop (s : Hw) (phase : Int) : Hw :=
  if s.lockState = 0 || !s.tim.refSeen then s
  else
    let s := s.wr F.TIM_LOCKSTAT_PHASE (ux 12 (clampI (-2047) 2047 phase))
    match s.lockState with
    | 1 =>
      let s := s.modTim (fun t => { t with near := if phase.natAbs ≤ 1 then t.near + 1 else 0 })
      if !s.rdAB F.TIM_LOCK_ACQ && !s.tim.jumped then
        let j := s.jumpLength phase
        s.modTim (fun t => { t with jumped := true, jump := if j = 0 then none else some j })
      else s
    | 2 =>
      let s := s.modTim (fun t => { t with far := if 4 < phase.natAbs then t.far + 1 else 0 })
      if 2 ≤ s.tim.far then s.lockTo 1 else s
    | _ => s

/-- The pull of PLL_PIX over one line (R310, R323): toward what the loop asks for while it tracks, else toward 0, by at
most 100 ppm. -/
def Hw.pullStep (s : Hw) (want : Int) : Hw :=
  let now := sx 16 (s.rd F.TIM_LOCKSTAT_PULL)
  let tgt := if s.lockState = 1 || s.lockState = 2 then clampI (-10000) 10000 want else 0
  s.wr F.TIM_LOCKSTAT_PULL (ux 16 (now + clampI (-100) 100 (tgt - now)))

/-! ## Flip groups (11 R402 to R405) -/

/-- The blocks that flip groups can hold, by their bit in BLOCKS. -/
def flipBlocks : List Nat := [bPLN, bOBJ, bCAM, bCMP, bLNL]

/-- The blocks that belong to group `g`: those it names and no lower group does. -/
def Hw.flipMembers (s : Hw) (g : Nat) : Nat :=
  ofBits ((List.range 5).filter (fun b =>
    bit (s.rd F.CMP_FLIP_CTRL_BLOCKS g) b && (List.range g).all (fun h => !bit (s.rd F.CMP_FLIP_CTRL_BLOCKS h) b)))

/-- The group that a block belongs to. -/
def Hw.flipGroup (s : Hw) (b : Nat) : Option Nat := (List.range 4).find? (fun g => bit (s.rd F.CMP_FLIP_CTRL_BLOCKS g) b)

/-- A group is ready (R401, R403). -/
def Hw.flipReady (s : Hw) (g : Nat) : Bool :=
  !s.rdB F.CMP_FLIP_CTRL_FEN g ||
    decide ((s.rd F.CMP_FENCE_COUNT (s.rd F.CMP_FLIP_CTRL_FENCE g) + 65536 - s.rd F.CMP_FLIP_NEED_NEED g) % 65536 < 32768)

/-- A block is armed. -/
def Hw.armed (s : Hw) (base : Nat) : Bool := s.rdB (commitArm base)

/-- A group has an armed member. -/
def Hw.flipArmed (s : Hw) (g : Nat) : Bool :=
  (List.range 5).any (fun b => bit (s.flipMembers g) b && s.armed (flipBlocks.getD b 0))

/-! ## Transfers of the beam-path blocks -/

/-- What a transfer of PLN or CAM checks: a plane's reserved encodings (10 R353), CAM's limits (10 R365), and capture
enabled or ended (10 R360, R362). -/
def Hw.transferBlock (s : Hw) (base : Nat) : Hw :=
  let was := s.cma 0x60 31 31
  let t := s.transfer base
  if !s.armed base then s
  else if base = bPLN then t.raise bPLN (ofBits (((List.range 6).filter t.planeBad).map (8 + ·)))
  else if base = bCAM then
    let t := t.raiseIf t.camBad bCAM 4
    if was = 0 && t.cma 0x60 31 31 = 1 then
      { t with cam := { t.cam with full := [], latched := none, turn := 0, active := false, filled := false } }
    else if t.cma 0x60 31 31 = 0 then { t with cam := { t.cam with active := false } }
    else t
  else t

/-- Every armed member of a group transfers. -/
def Hw.flipTransfer (s : Hw) (g : Nat) : Hw :=
  let m := s.flipMembers g
  foldUp (fun s b => if bit m b then s.transferBlock (flipBlocks.getD b 0) else s) 0 5 s

/-- FLIP_GROUP_EVALUATE for a group that is evaluated on the values at the start of the cycle. `count`: deferrals count. -/
def Hw.flipEvaluate (s : Hw) (old : Hw) (count : Bool) (g : Nat) : Hw :=
  if !old.flipArmed g || s.tim.flipFault.getD g false then s
  else if old.flipReady g then ((s.flipTransfer g).raiseBit bCMP g).wr F.CMP_FLIP_STAT_DEFCUR 0 g
  else if !count then s
  else
    let cur := s.rd F.CMP_FLIP_STAT_DEFCUR g + 1
    let max := s.rd F.CMP_FLIP_CTRL_MAXDEF g
    if max ≠ 0 && cur = max then s.modTim (fun t => { t with flipFault := t.flipFault.set g true })
    else ((s.raiseBit bCMP (4 + g)).inc F.CMP_FLIP_STAT_DEFTOT 1 g).wr F.CMP_FLIP_STAT_DEFCUR (satU 8 cur) g

/-- The transfers of the five blocks at a transfer point. -/
def Hw.transferLayers (s : Hw) (count : Bool) : Hw :=
  let t := flipBlocks.foldl (fun t base =>
    if (s.flipGroup (flipBlocks.idxOf base)).isNone then t.transferBlock base else t) s
  foldUp (fun t g => t.flipEvaluate s count g) 0 4 t

/-- A transfer of TIM (R315): refused where the shadows break a limit. -/
def Hw.transferTim (s : Hw) : Hw :=
  if !s.armed bTIM then s
  else if s.shBad then (s.wr (commitArm bTIM) 0).raiseBit bTIM 7
  else
    let khz := s.rdA F.TIM_PIXCLK_KHZ
    let s := (s.transfer bTIM).lockSource
    if s.rdA F.TIM_PIXCLK_KHZ ≠ khz && s.pwr.pixWanted then s.wr F.SYS_CLKSTAT_PIX_LOCK 0 else s

/-! ## Start, stop and seams (09 R311 to R314, R332 to R335) -/

/-- The state of the engine, set. -/
def Hw.timTo (s : Hw) (n : Nat) : Hw := s.wr F.TIM_STAT_STATE n

/-- The line buffer is emptied and the line list stops with the raster. -/
def Hw.rasterOff (s : Hw) : Hw :=
  let s := s.modTim (fun t => { t with lines := [], holes := [], ended := true, next := 0 })
  let s := if s.lnlState = 1 then s.lnlStop else s
  s.publish

/-- The engine starts PLL_PIX and waits for its lock (R311); TIM_FRAME counts anew. -/
def Hw.runStart (s : Hw) : Hw :=
  let s := s.wr F.TIM_CTRL_RUN 1
  match s.timState with
  | 0 =>
    let s := ((s.timTo 1).wr F.TIM_FRAME_COUNT 0).wr F.SYS_CLKSTAT_PIX_LOCK 0
    { s with pwr := { s.pwr with pixWanted := true } }
  | 4 => s.timTo 2
  | _ => s

/-- RUN is being left (03 R73). -/
def Hw.leavesRun (s : Hw) : Bool := s.pwr.goal == .enter .standby || s.pwr.goal == .enter .deep

/-- The engine stops (R311, R314, R320); in pennant-only mode the command engine starts it again (12 R435), unless RUN is being
left. -/
def Hw.stop (s : Hw) : Hw :=
  let s := ((s.timTo 0).wr F.SYS_CLKSTAT_PIX_LOCK 0).lockLost
  let s := ({ s with pwr := { s.pwr with pixWanted := false } } : Hw).rasterOff
  if s.pen.modeLat && !s.leavesRun then s.runStart else s

/-- A seam begins (R332, R334, R335; 12 R429). -/
def Hw.seamBegin (s : Hw) (pll : Bool) : Hw :=
  let s := (((s.timTo 3).raiseBit bTIM 5).inc F.TIM_SEAM_COUNT).lockLost
  let s := s.modTim (fun t => { t with seamPll := pll })
  let s := { s with pen := { s.pen with
    frzHold := (List.range 4).map (fun w => byteAt (leBytes 4 (s.rd F.PEN_FRZCFG_1 w)) 0) } }
  s.rasterOff

/-- CAM_FRAME_LATCH (10 R362, R363). -/
def Hw.camLatch (s : Hw) : Hw :=
  if !s.on 30 then s
  else
    let new := s.cam.full.find? (fun f => f.1 = s.rd F.CAM_CSTAT_NEWEST)
    let newer := match new, s.cam.latched with
      | some f, some l => decide (l.2 < f.2)
      | some _, none => true
      | none, _ => false
    if newer then
      let s := { s with cam := { s.cam with latched := new, filled := false } }
      (s.wr F.CAM_CSTAT_LATCHED ((new.map (·.1)).getD 0)).wr F.CAM_CSTAT_AGE 0
    else s.wr F.CAM_CSTAT_AGE (satU 8 (s.rd F.CAM_CSTAT_AGE + 1))

/-- VERTICAL_BLANKING_START (02 R54): the transfer point. At a raster start the timing transferred governs the raster at
once unless it seams (R333). -/
def Hw.blanking (s : Hw) (rasterStart : Bool) : Hw :=
  let s := s.raiseBit bTIM 1
  let old := s.timActive
  let s := (s.transferLayers true).transferTim
  let new := s.timActive
  let s := s.pennantLatch.camLatch
  if s.timState = 4 then s.stop
  else if old.seams new then s.seamBegin (old.khz ≠ new.khz)
  else
    let s := if rasterStart then s.modTim (fun t => { t with ras := new, vtot := new.vtotal }) else s
    let s := match s.tim.jump with
      | some j =>
        let n := ((s.tim.vtot : Int) + j.tdiv (s.tim.ras.htotal : Int)).toNat
        ((s.inc F.TIM_LOCKCNT_JUMPS).raiseBit bTIM 10).modTim (fun t => { t with jump := none, vtot := n })
      | none => s
    s.lnlStart

/-- The raster starts (R313): its first line is line VACT. -/
def Hw.rasterStart (s : Hw) : Hw :=
  let r := s.timActive
  let s := ((s.timTo 2).wr F.TIM_POS_LINE r.vact).wr F.TIM_POS_PIXEL 0
  let s := s.modTim (fun t => { t with
    ras := r, vtot := r.vtotal, next := 0, lines := [], holes := [], ended := true, under := [], final := []
    checked := false, jump := none, jumped := false, lineAt := s.sysTime })
  let s := s.mapsReset.raiseIf (s.rd F.TIM_LINEIRQ_LINE = r.vact) bTIM 2
  (s.blanking true).publish

/-- A seam ends after `micros` (R332). -/
def Hw.seamEnd (s : Hw) (micros : Nat) : Hw :=
  ((s.wr F.TIM_SEAM_LAST (satU 16 micros)).raiseBit bTIM 6).rasterStart

/-- PLL_PIX locks or relocks. -/
def Hw.pixLock (s : Hw) (micros : Nat) : Hw :=
  if !s.pwr.pixWanted || s.rdB F.SYS_CLKSTAT_PIX_LOCK then s
  else
    let s := s.wr F.SYS_CLKSTAT_PIX_LOCK 1
    if s.timState = 1 then s.rasterStart
    else if s.timState = 3 && s.tim.seamPll then s.seamEnd micros
    else s

/-- PLL_PIX loses lock. -/
def Hw.pixUnlock (s : Hw) : Hw :=
  if !s.pwr.pixWanted || !s.rdB F.SYS_CLKSTAT_PIX_LOCK then s
  else
    let s := (s.wr F.SYS_CLKSTAT_PIX_LOCK 0).raiseBit bSYS 4
    match s.timState with
    | 2 => s.seamBegin true
    | 3 => s.modTim (fun t => { t with seamPll := true })
    | 4 => s.stop
    | _ => s

/-- TIM takes a write from a master: in pennant-only mode from M2 alone (12 R435). -/
def Hw.timTakes (s : Hw) (master : Nat) : Bool := s.on 31 && (!s.pen.modeLat || master = 2)

/-- RUN written 1. -/
def Hw.timRun (s : Hw) (master : Nat) : Hw := if s.timTakes master then s.runStart else s

/-- RUN written 0. -/
def Hw.timHalt (s : Hw) (master : Nat) : Hw :=
  if !s.timTakes master then s
  else
    let s := s.wr F.TIM_CTRL_RUN 0
    match s.timState with
    | 1 => s.stop
    | 2 => s.timTo 4
    | 3 => s.stop
    | _ => s

/-! ## Lines and frames -/

/-- OUTPUT's condition (12 R430). -/
def Hw.outputBad (s : Hw) : Bool := s.rdA F.TIM_OUT_MODE = 0 || s.noPhy

/-- OUTPUT's condition noted during active lines. -/
def Hw.noteOutput (s : Hw) : Hw :=
  if s.scanning && s.scanLine < s.tim.ras.vact && s.outputBad then { s with pen := { s.pen with outBad := true } } else s

/-- FRAME_START: line 0 begins. -/
def Hw.frameStart (s : Hw) (phase : Int) : Hw :=
  let r := s.timActive
  let s := s.modTim (fun t => { t with ras := r, vtot := r.vtotal, under := [], final := [], checked := false })
  let s := (s.wr F.TIM_FRAME_COUNT (s.rd F.TIM_FRAME_COUNT + 1)).raiseBit bTIM 0
  let s := { s with pen := { s.pen with outBad := false } }
  let s := s.pwmFrameStart
  let s := [0, 1].foldl (fun s tap => (s.varFrameStart tap).histFrameStart tap) s
  let s := if s.brg.lead && s.timState = 2 then
      { s with brg := { s.brg with beam := 16 * s.sysTime, beamSeq := s.rd F.TIM_FRAME_COUNT % 65536 } }
    else s
  s.lockLoop phase

/-- LINE_START: the next line begins. `phase` is the phase error in local pixel clocks that the engine measures where the
line is line 0, `pull` what the lock loop asks of PLL_PIX in ppm. -/
def Hw.lineStart (s : Hw) (phase pull : Int) : Hw :=
  if !s.scanning then s
  else
    let s := s.finishLine
    let y := if s.tim.vtot ≤ s.scanLine + 1 then 0 else s.scanLine + 1
    let s := (s.wr F.TIM_POS_LINE y).wr F.TIM_POS_PIXEL 0
    let s := s.modTim (fun t => { t with ended := false, holes := [], lineAt := s.sysTime })
    let s := s.raiseIf (s.rd F.TIM_LINEIRQ_LINE = y) bTIM 2
    let s := if y = 0 then s.frameStart phase else s
    let s := s.noteOutput
    let s := s.pullStep pull
    let s := if y = s.tim.ras.vact then s.blanking false else s
    s.publish

/-- STOPPED_TRANSFER (02 R55; 11 R405): in STOPPED and WAITLOCK every armed block transfers, a group's members if it is
ready. -/
def Hw.stoppedTransfer (s : Hw) : Hw :=
  if s.timState ≤ 1 then (s.transferLayers false).transferTim else s

/-- FLIP_GROUP_READY_TRANSFER (11 R405): not scanning, and outside a seam. -/
def Hw.flipWaiting (s : Hw) (g : Nat) : Hw :=
  if s.timState ≤ 1 && s.flipArmed g && s.flipReady g then
    ((s.flipTransfer g).raiseBit bCMP g).wr F.CMP_FLIP_STAT_DEFCUR 0 g
  else s

/-- FLIP_GROUP_FAULT (11 R404): the deferral that would bring DEFCUR to MAXDEF. A forced transfer belongs to the transfer
cycle, so the line list starts from what it gives. -/
def Hw.flipFaultAct (s : Hw) (g : Nat) : Hw :=
  if !s.tim.flipFault.getD g false then s
  else
    let s := (s.modTim (fun t => { t with flipFault := t.flipFault.set g false })).raiseBit bCMP (8 + g)
    match s.rd F.CMP_FLIP_CTRL_ACT g with
    | 1 =>
      let m := s.flipMembers g
      let s := (s.flipTransfer g).wr F.CMP_FLIP_STAT_DEFCUR 0 g
      if bit m 4 && s.scanLine = s.tim.ras.vact then s.lnlStart else s
    | 2 =>
      let m := s.flipMembers g
      let s := foldUp (fun s b => if bit m b then s.wr (commitArm (flipBlocks.getD b 0)) 0 else s) 0 5 s
      s.wr F.CMP_FLIP_STAT_DEFCUR 0 g
    | _ =>
      ((s.raiseBit bCMP (4 + g)).inc F.CMP_FLIP_STAT_DEFTOT 1 g).wr F.CMP_FLIP_STAT_DEFCUR
        (s.rd F.CMP_FLIP_CTRL_MAXDEF g) g

/-! ## The pennant check (12 R424 to R430) -/

/-- A cell lies wholly in the active area. -/
def Hw.cellInside (s : Hw) (d : List Nat) : Bool :=
  dX d + dW d ≤ s.tim.ras.hact && dY d + dH d ≤ s.tim.ras.vact

/-- Two cells overlap. -/
def cellsMeet (a b : List Nat) : Bool :=
  dX a < dX b + dW b && dX b < dX a + dW a && dY a < dY b + dH b && dY b < dY a + dH a

/-- The CRC-32 over a rectangle of a frame (12 R424). -/
def rectCrc (frame : List (List Nat)) (d : List Nat) : Nat :=
  let px := ((frame.drop (dY d)).take (dH d)).flatMap (fun l => (l.drop (dX d)).take (dW d))
  crc32 (px.flatMap (fun p => [BitVec.ofNat 8 (pxR p), BitVec.ofNat 8 (pxG p), BitVec.ofNat 8 (pxB p)]))

/-- The reference of a cell's latched state, through the latched palette (12 R425). -/
def Hw.cellRef (s : Hw) (c : PenCell) : Nat :=
  (c.latRefs.getD c.shown ((s.penRefs c.lat).getD c.shown (0, 0))).2

/-- The kinds of fault of a cell at a check: its measured CRC and the kinds, 1 to 4. -/
def Hw.cellCheck (s : Hw) (k : Nat) : Nat × List Nat :=
  let c := s.cell k
  if !c.latEn then (0, [])
  else
    let inside := s.cellInside c.lat
    let crc := if inside then rectCrc s.tim.final c.lat else 0
    let meets := (List.range k).any (fun j => (s.cell j).latEn && cellsMeet (s.cell j).lat c.lat)
    (crc, (if inside && crc ≠ s.cellRef c then [1] else []) ++ (if inside then [] else [2]) ++ (if meets then [3] else [])
      ++ (if s.pen.outBad then [4] else []))

/-- Freeze watch `w` fires (12 R429), outside its suspension. -/
def Hw.watchFires (s : Hw) (w : Nat) : Bool :=
  let c := leBytes 4 (s.rd F.PEN_FRZCFG w) ++ leBytes 4 (s.rd F.PEN_FRZCFG_1 w)
  let limit := byteAt c 4
  let sig := byteAt c 5
  let blocks := (List.range (byteAt c 3 + 1 - byteAt c 1)).flatMap (fun j =>
    (List.range (byteAt c 2 + 1 - byteAt c 0)).map (fun i => (byteAt c 0 + i, byteAt c 1 + j)))
  let inside := blocks.filter (fun b => 8 * b.1 + 8 ≤ s.tim.ras.hact && 8 * b.2 + 8 ≤ s.tim.ras.vact)
  bit (byteAt c 6) 0 && !s.pen.modeLat && s.pen.frzHold.getD w 0 = 0 && !inside.isEmpty
    && inside.all (fun b => limit ≤ (s.byte (0x02030000 + 256 * b.2 + b.1)).toNat)
    && (sig = 0xFF || s.pen.sigAge.getD sig 65535 < limit)

/-- The check log's record (12 R427). -/
def Hw.checkRecord (s : Hw) (fail : Nat) (crcs : List Nat) : List Byte :=
  leBytes 4 (s.rd F.PEN_FCOUNT_F) ++ leBytes 8 fail ++ leBytes 1 s.pen.cause ++ zeros 3 ++ crcs.flatMap (leBytes 4)

/-- The record written, 16 bytes at a time under the PEN reserve; with PEN_LOGBASE 0 nothing is written. -/
def Hw.checkLog (s : Hw) (bs : List Byte) : Hw :=
  let base := s.rd F.PEN_LOGBASE_ADDR * 16
  if base = 0 then s
  else
    let at_ := base + 272 * s.pen.logSlot
    let r := foldUp (fun (p : Hw × Bool) i =>
      if p.2 then (p.1.useCredit 14 1).busStore 8 0 (at_ + 16 * i) ((bs.drop (16 * i)).take 16) else p) 0 17 (s, true)
    let s := { r.1 with pen := { r.1.pen with logSlot := (r.1.pen.logSlot + 1) % 16 } }
    if r.2 then s else s.wr F.PEN_CHKCNT_LOGERR (satU 4 (s.rd F.PEN_CHKCNT_LOGERR + 1))

/-- Time since a cell's last check, in units of 10 µs (12 R431, R437). -/
def Hw.cellGap (s : Hw) (c : PenCell) : Nat := (s.cycle - c.since) / 4000

/-- PENNANT_CHECK_COMPLETE: at the end of the last active pixel of line VACT − 1, once in a frame. -/
def Hw.pennantCheck (s : Hw) : Hw :=
  if !s.scanning || s.scanLine + 1 ≠ s.tim.ras.vact || s.tim.checked || !s.on 20 || !s.on 39 then s
  else
    let s := s.finishLine.modTim (fun t => { t with checked := true })
    let s := s.noteOutput
    let res := (List.range 64).map s.cellCheck
    let failing := (List.range 64).filter (fun k => !(res.getD k (0, [])).2.isEmpty)
    let fail := ofBits failing
    let crcs := res.map (·.1)
    let s := foldUp (fun s k => s.wr F.PEN_CRC (crcs.getD k 0) k) 0 64 s
    let s := (s.wr F.PEN_FAIL fail 0).wr F.PEN_FAIL (fail / 2 ^ 32) 1
    let s := s.wr F.PEN_CHKCNT_FRAMES (s.rd F.PEN_CHKCNT_FRAMES + 1)
    let s := if fail = 0 then s
      else (s.wr F.PEN_CHKCNT_FAILED (satU 12 (s.rd F.PEN_CHKCNT_FAILED + 1))).raiseBit bPEN 0
    let worst := (s.pen.cells.filter (·.latEn)).foldl (fun n c => max n (s.cellGap c)) (s.rd F.PEN_GAP_WORST)
    let s := s.wr F.PEN_GAP_WORST (satU 16 worst)
    let now := s.cycle
    let cells := s.pen.cells.map (fun (c : PenCell) => if c.latEn then { c with since := now } else c)
    let s := { s with pen := { s.pen with cells := cells } }
    let s := s.checkLog (s.checkRecord fail crcs)
    let s := s.mapA s.tim.under s.tim.ras.hact s.tim.ras.vact
    let s := s.mapB 0 s.tim.final s.tim.ras.hact s.tim.ras.vact
    let fired := (List.range 4).filter s.watchFires
    let s := { s with pen := { s.pen with frzHold := s.pen.frzHold.map (fun n => n - 1) } }
    let s := (s.wr F.PEN_FRZ_FIRED (ofBits fired)).raiseIf (!fired.isEmpty) bPEN 1
    let s := [1, 2, 3, 4].foldl (fun s kind =>
      match failing.find? (fun k => (res.getD k (0, [])).2.contains kind) with
      | some k => s.penFault kind k 0xFF
      | none => s) s
    match fired with
    | w :: _ => s.penFault 6 0xFF w
    | [] => s

/-! ## Meanings -/

/-- PLL_PIX_LOCK: `micros` the length of the seam that the lock ends. -/
def execPllPixLock (micros : Nat) (s : State) : Host.Outcome State Fault Refusal := s.onHw fun h => h.pixLock micros

/-- PLL_PIX_UNLOCK. -/
def execPllPixUnlock (s : State) : Host.Outcome State Fault Refusal := s.onHw Hw.pixUnlock

/-- LINE_START. -/
def execLineStart (phase pull : Int) (s : State) : Host.Outcome State Fault Refusal :=
  s.onHw fun h => h.lineStart phase pull

/-- FLIP_GROUP_FAULT. -/
def execFlipGroupFault (group : Fin 4) (s : State) : Host.Outcome State Fault Refusal :=
  s.onHw fun h => h.flipFaultAct group

/-- FLIP_GROUP_READY_TRANSFER. -/
def execFlipGroupReadyTransfer (group : Fin 4) (s : State) : Host.Outcome State Fault Refusal :=
  s.onHw fun h => h.flipWaiting group

/-- STOPPED_TRANSFER. -/
def execStoppedTransfer (s : State) : Host.Outcome State Fault Refusal := s.onHw Hw.stoppedTransfer

/-- TIM_RUN_START, by a master. -/
def execTimRunStart (master : Fin 12) (s : State) : Host.Outcome State Fault Refusal := s.byMaster master fun h => h.timRun master

/-- TIM_RUN_STOP, by a master. -/
def execTimRunStop (master : Fin 12) (s : State) : Host.Outcome State Fault Refusal := s.byMaster master fun h => h.timHalt master

/-- SEAM_END: the output is reconfigured; a seam that waits for PLL_PIX ends with its lock. -/
def execSeamEnd (micros : Nat) (s : State) : Host.Outcome State Fault Refusal :=
  s.onHw fun h => if h.timState = 3 && !h.tim.seamPll && h.rdB F.SYS_CLKSTAT_PIX_LOCK then h.seamEnd micros else h

/-- XSYNC_EDGE: an edge on XSYNC0 or XSYNC1, `gap` after the chosen edge before it, in 0.625 ns. -/
def execXsyncEdge (input : Fin 2) (rising : Bool) (gap : Nat) (s : State) : Host.Outcome State Fault Refusal :=
  s.onHw fun h =>
    if h.lockSrc = 1 + input && h.rdAB F.TIM_LOCK_XEDGE != rising && h.fnActive (6 + input) then h.reference gap else h

/-- REFERENCE_MISSING. -/
def execReferenceMissing (s : State) : Host.Outcome State Fault Refusal := s.onHw Hw.referenceMissing

/-- LOCK_ACQUIRED. -/
def execLockAcquired (s : State) : Host.Outcome State Fault Refusal := s.onHw Hw.lockAcquired

/-- PENNANT_CHECK_COMPLETE. -/
def execPennantCheckComplete (s : State) : Host.Outcome State Fault Refusal := s.onHw Hw.pennantCheck

/-- HISTOGRAM_SWAP: at the end of a frame of the histograms' tap. -/
def execHistogramSwap (s : State) : Host.Outcome State Fault Refusal := s.onHw fun h => h.finishLine.histSwap

end Sys2Proof.Machine
end

