-- ==== Sys2Proof/Machine/Camera.lean ====
section
/-! DEFINITION. The camera interface and the capture (18 R632 to R634; 10 R360 to R363). -/

namespace Sys2Proof.Machine

open Sys2Proof

/-! ## Timing codes (18 R633) -/

/-- The XY byte of F, V, H with its protection bits, V ⊕ H, F ⊕ H, F ⊕ V and F ⊕ V ⊕ H from bit 3 down. The spec names
ITU-R BT.656 and does not restate them (PRESUMED, log 22). -/
def xyCode (f v h : Bool) : Nat :=
  128 + 64 * b2n f + 32 * b2n v + 16 * b2n h + 8 * b2n (v != h) + 4 * b2n (f != h) + 2 * b2n (f != v)
    + b2n ((f != v) != h)

/-- The eight codes, each with its F, V and H. -/
def xyCodes : List (Nat × Bool × Bool × Bool) :=
  [false, true].flatMap (fun f => [false, true].flatMap (fun v => [false, true].map (fun h => (xyCode f v h, f, v, h))))

/-- A received XY byte: F, V, H and whether a bit was corrected; none where it is not a code and is not corrected. -/
def xyDecode (hcorr : Bool) (xy : Nat) : Option (Bool × Bool × Bool × Bool) :=
  match xyCodes.find? (fun c => c.1 = xy) with
  | some c => some (c.2.1, c.2.2.1, c.2.2.2, false)
  | none =>
    if hcorr then
      (xyCodes.find? (fun c => popcount 8 (c.1 ^^^ xy) = 1)).map (fun c => (c.2.1, c.2.2.1, c.2.2.2, true))
    else none

/-! ## Capture (10 R360, R361) -/

/-- The camera's record changed. -/
def Hw.modCam (s : Hw) (f : Cam → Cam) : Hw := { s with cam := f s.cam }

/-- The frame in capture, or the one that would be captured, is dropped. -/
def Hw.captureDrop (s : Hw) : Hw :=
  ((s.modCam (fun c => { c with active := false, written := 0 })).inc F.CAM_CCNT_DROPS).raiseBit bCAM 1

/-- Number of capture buffers. -/
def Hw.camBufs (s : Hw) : Nat := s.cma 0x60 1 0

/-- A captured frame is complete: NEWEST names its buffer. -/
def Hw.captureComplete (s : Hw) : Hw :=
  if s.cam.active && s.cam.written = s.cma 0x78 27 16 && s.on 30 then
    let b := s.rd F.CAM_CSTAT_WRITING
    let n := s.cam.serial + 1
    let s := s.modCam (fun c => { c with
      active := false, written := 0, serial := n, full := (b, n) :: c.full.filter (fun f => f.1 ≠ b)
      turn := if s.camBufs ≤ b + 1 then 0 else b + 1 })
    ((s.wr F.CAM_CSTAT_NEWEST b).inc F.CAM_CCNT_FRAMES).raiseBit bCAM 0
  else s

/-- A frame or field to be captured begins: in the next buffer in turn, passing over the one that the window shows; with two
buffers it is dropped where that is the next. -/
def Hw.captureBegin (s : Hw) : Hw :=
  if s.cma 0x60 31 31 = 1 && s.rdB F.CAM_IFSTAT_LOCK && 2 ≤ s.camBufs then
    let shown := s.cam.latched.map (·.1)
    if shown = some s.cam.turn && s.camBufs = 2 then s.captureDrop
    else
      let b := if shown = some s.cam.turn then (s.cam.turn + 1) % 3 else s.cam.turn
      (s.modCam (fun c => { c with active := true, written := 0, turn := b })).wr F.CAM_CSTAT_WRITING b
  else s.modCam (fun c => { c with active := false, written := 0 })

/-- The bytes of captured pixels, Y0, Cb, Y1, Cr for each pair. -/
def captureBytes (px : List Nat) : List Byte := videoBytes 2 0 px

/-- A line of the frame in capture: inside the crop it is written through M5 ID 1, 16 bytes at a time; `behind` tells that
the capture has fallen more than four lines behind. A shed camera write writes nothing (06 R212). -/
def Hw.captureLine (s : Hw) (line : Nat) (px : List Nat) (behind : Bool) : Hw :=
  if !s.cam.active then s
  else if behind then s.captureDrop
  else
    let y0 := s.cma 0x74 27 16
    let l := line - y0
    if line < y0 || s.cma 0x78 27 16 ≤ l || s.shed 9 then s
    else
      let w := s.cma 0x78 11 0
      let bs := fitBytes (2 * w) (captureBytes ((px.drop (s.cma 0x74 11 0)).take w))
      let base := s.cma (0x64 + 4 * s.rd F.CAM_CSTAT_WRITING) 23 4 * 16 + l * (s.cma 0x70 15 4 * 16)
      let r := foldUp (fun (p : Hw × Bool) i =>
        if p.2 then
          let part := (bs.drop (16 * i)).take 16
          if part.length = 16 then (p.1.useCredit 9 1).busStore 5 1 (base + 16 * i) part
          else foldUp (fun (q : Hw × Bool) j =>
            if q.2 then (q.1.useCredit 9 1).busStore 5 1 (base + 16 * i + 4 * j) ((part.drop (4 * j)).take 4) else q)
            0 (part.length / 4) p
        else p) 0 (cdiv bs.length 16) (s, true)
      if r.2 then r.1.modCam (fun c => { c with written := l + 1 }) else r.1.captureDrop

/-! ## Lock (18 R634) -/

/-- The interface loses lock: a capture in progress is dropped. -/
def Hw.camUnlock (s : Hw) : Hw :=
  if s.rdB F.CAM_IFSTAT_LOCK then
    let s := (s.wr F.CAM_IFSTAT_LOCK 0).raiseBit bCAM 6
    if s.cam.active then s.captureDrop else s
  else s

/-- A frame or field of parity `f` ends: its size is measured, and compared with the one before of its parity. -/
def Hw.camFrameEnd (s : Hw) (f : Bool) : Hw :=
  let ls := s.cam.lines
  let w := (ls.head?.map List.length).getD 0
  let size := if ls.all (fun l => l.length = w) && 0 < w && w ≤ 2048 && ls.length ≤ 2048 then some (w, ls.length) else none
  let before := s.cam.sizes.getD (b2n f) none
  let s := (s.wr F.CAM_IFSTAT_WIDTH w).wr F.CAM_IFSTAT_HEIGHT ls.length
  let s := (s.wr F.CAM_IFSTAT_ILACE (b2n (s.cam.lastF = some (!f)))).wr F.CAM_IFSTAT_FIELD (b2n f)
  let s := s.mapB 2 ls w ls.length
  let s := s.modCam (fun c => { c with sizes := c.sizes.set (b2n f) size, lastF := some f, lines := [] })
  if size.isSome && size = before then
    if s.rdB F.CAM_IFSTAT_LOCK then s else (s.wr F.CAM_IFSTAT_LOCK 1).raiseBit bCAM 5
  else (if size ≠ before && before.isSome then s.mapsCamera else s).camUnlock

/-- The interface is enabled and its clock reaches it (18 R617, R632). -/
def Hw.camHears (s : Hw) : Bool := s.on 30 && s.rdB F.CAM_IFCFG_EN && s.fnActive 48

/-- CAMERA_TIMING_CODE: an SAV or EAV with its XY byte. At an EAV that ends an active line, `px` holds the line's pixels as
Y, Cb and Cr in bits 23..16, 15..8 and 7..0. -/
def Hw.cameraCode (s : Hw) (xy : Nat) (px : List Nat) (behind : Bool) : Hw :=
  if !s.camHears then s
  else
    match xyDecode s.cam.hcorr xy with
    | none => (s.inc F.CAM_IFCNT_SYNCERR).raiseBit bCAM 7
    | some (f, v, h, fixed) =>
      let s := if fixed then s.inc F.CAM_IFCNT_CORR else s
      if h then
        let hc := s.rdB F.CAM_IFCFG_HCORR
        let s := s.modCam (fun c => { c with hcorr := hc })
        let s := if s.cam.sav then
            let line := s.cam.lines.length
            let s := if line = 0 then ((s.varFrameStart 2).histFrameStart 2).captureBegin else s
            let s := ((s.captureLine line px behind).varLine 2 line px s.sysTime 0 1).histLine 2 line px
            s.modCam (fun c => { c with lines := c.lines ++ [px], sav := false })
          else s
        let s := if v && !s.cam.v && s.cam.lines ≠ [] then s.camFrameEnd s.cam.f else s
        s.modCam (fun c => { c with f := f, v := v })
      else s.modCam (fun c => { c with sav := !v, f := f })

/-- CAM_STALE_FILL: the window has come to show its fill colour (10 R363). -/
def Hw.camStale (s : Hw) : Hw :=
  if s.on 30 && s.cma 0x60 31 31 = 1 && s.camFill && !s.cam.filled then
    (s.modCam (fun c => { c with filled := true })).raiseBit bCAM 2
  else s

/-! ## Meanings -/

/-- CAMERA_TIMING_CODE. -/
def execCameraTimingCode (xy : Byte) (px : List Nat) (behind : Bool) (s : State) : Host.Outcome State Fault Refusal :=
  s.onHw fun h => h.cameraCode xy.toNat px behind

/-- CAMERA_EAV_TIMEOUT: 4,096 samples without an EAV. -/
def execCameraEavTimeout (s : State) : Host.Outcome State Fault Refusal :=
  s.onHw fun h => if h.camHears then h.camUnlock else h

/-- CAPTURE_FRAME_COMPLETE. -/
def execCaptureFrameComplete (s : State) : Host.Outcome State Fault Refusal := s.onHw Hw.captureComplete

/-- CAM_STALE_FILL. -/
def execCamStaleFill (s : State) : Host.Outcome State Fault Refusal := s.onHw Hw.camStale

end Sys2Proof.Machine
end

