-- ==== Sys2Proof/Machine/Can.lean ====
section
/-! DEFINITION. The CAN FD controller (18 R620 to R626, R715). -/

namespace Sys2Proof.Machine

open Sys2Proof

/-! ## Configuration (18 R621, R622) -/

/-- A bit timing outside the limits of R620: NSEG2 below 2, more than 1 Mbit/s nominal, more than 5 Mbit/s data. The words
are CAN_NBT and CAN_DBT; a bit lasts at least 80 and 16 kernel clocks of 80 MHz. -/
def canTimingBad (nbt dbt : Nat) : Bool :=
  let n := (bits nbt 4 0 + 1) * (1 + (bits nbt 15 8 + 1) + (bits nbt 22 16 + 1))
  let d := (bits dbt 4 0 + 1) * (1 + (bits dbt 12 8 + 1) + (bits dbt 19 16 + 1))
  bits nbt 22 16 = 0 || n < 80 || d < 16

/-- The controller takes part in the bus: its domain is on, MODE is not 0 and its timing is within the limits. -/
def Hw.canRuns (s : Hw) : Bool :=
  s.on 43 && s.rd F.CAN_CFG_MODE ≠ 0 && !canTimingBad (s.reg 0x040F0044).toNat (s.reg 0x040F0048).toNat

/-- The command engine writes the CAN registers of a record of four words; a bad timing leaves the controller off and
sets BADCFG. -/
def Hw.canWriteCfg (s : Hw) (w : List Word) : Hw :=
  let s := foldUp (fun s i => s.setReg (0x040F0040 + 4 * i) (w.getD i 0#32)) 0 4 s
  s.raiseIf (s.rd F.CAN_CFG_MODE ≠ 0 && !s.canRuns) bCAN 9

/-- At a switch-on of PD43 the CAN registers and the signal table are written from the command engine's copy (18 R621);
every signal holds its DEFAULT and is stale. -/
def Hw.canRestore (s : Hw) : Hw :=
  let s := match s.can.copy with | some w => s.canWriteCfg w | none => s
  foldUp (fun s k => s.writeSig k (s.pen.sigCopy.getD k [])) 0 32 s

/-! ## Elements (the element table) -/

/-- Data bytes that a DLC names. -/
def dlcLen (fdf : Bool) (dlc : Nat) : Nat :=
  if !fdf || dlc ≤ 8 then min dlc 8 else [12, 16, 20, 24, 32, 48, 64].getD (dlc - 9) 64

/-- The identifier as it stands in an element's word 0: an 11-bit one in bits 28..18. -/
def canId29 (f : CanFrame) : Nat := if f.ide then f.id % 2 ^ 29 else f.id % 2 ^ 11 * 2 ^ 18

/-- A receive element's 20 words. -/
def canElement (f : CanFrame) (filter sof : Nat) : List Nat :=
  let n := if f.rtr then 0 else dlcLen f.fdf f.dlc
  let d := fitBytes 64 (f.data.take n)
  [b2n f.ide * 2 ^ 30 + b2n f.rtr * 2 ^ 29 + canId29 f,
    n * 2 ^ 16 + filter * 2 ^ 8 + b2n f.esi * 64 + b2n f.brs * 32 + b2n f.fdf * 16 + f.dlc % 16, sof % 2 ^ 32]
    ++ (List.range 16).map (fun i => fieldAt d (4 * i) 4) ++ [0]

/-- The frame that transmit buffer `b` sends: FD form only with CAN_CFG.FD, bit rate switching only with CAN_CFG.BRS. -/
def Hw.txFrame (s : Hw) (b : Nat) : CanFrame :=
  let w := fun i => s.rd F.CAN_TXB (20 * b + i)
  let ide := bit (w 0) 30
  let fdf := bit (w 1) 4 && s.rdB F.CAN_CFG_FD
  { ide := ide, id := if ide then bits (w 0) 28 0 else bits (w 0) 28 18, rtr := bit (w 0) 29 && !fdf, fdf := fdf,
    brs := fdf && bit (w 1) 5 && s.rdB F.CAN_CFG_BRS, esi := bit (w 1) 6, dlc := bits (w 1) 3 0,
    data := ((List.range 16).flatMap (fun i => leBytes 4 (w (3 + i)))).take (dlcLen fdf (bits (w 1) 3 0)) }

/-! ## Receive (18 R623, R624, R715) -/

/-- The lowest-numbered enabled filter that a frame matches. -/
def Hw.canFilter (s : Hw) (f : CanFrame) : Option Nat :=
  (List.range 64).find? (fun k =>
    s.rdB F.CAN_FLT_ID_EN k && s.rdB F.CAN_FLT_ID_IDE k == f.ide
      && (canId29 f ^^^ s.rd F.CAN_FLT_ID_ID k) &&& s.rd F.CAN_FLT_MASK k == 0)

/-- A frame stored in its FIFO at PUT, or lost where the FIFO holds 32. -/
def Hw.canStore (s : Hw) (f : CanFrame) (sof : Nat) : Hw :=
  match s.canFilter f with
  | none => s
  | some k =>
    let q := s.rd F.CAN_FLT_ID_FIFO k
    if 32 ≤ s.rd F.CAN_RXF_STAT_LEVEL q then (s.inc F.CAN_CNT_RXLOST).raiseBit bCAN 2
    else
      let put := s.rd F.CAN_RXF_STAT_PUT q
      let el := canElement f k sof
      let ref := if q = 0 then F.CAN_RXF0_EL else F.CAN_RXF1_EL
      let s := foldUp (fun s i => s.wr ref (el.getD i 0) (20 * put + i)) 0 20 s
      ((s.wr F.CAN_RXF_STAT_PUT (put + 1) q).wr F.CAN_RXF_STAT_LEVEL (s.rd F.CAN_RXF_STAT_LEVEL q + 1) q).raiseBit bCAN q

/-- Error state after the counters changed (ISO 11898-1): warning at 96, passive above 127; events at the entries. -/
def Hw.canErrState (s : Hw) (tec rec : Nat) : Hw :=
  let was := s.can
  let s := { s with can := { s.can with tec := tec, recv := rec } }
  let warn := fun (t r : Nat) => decide (96 ≤ t) || decide (96 ≤ r)
  let pass := fun (t r : Nat) => decide (127 < t) || decide (127 < r)
  let s := (s.wr F.CAN_ERR_TEC (min tec 255)).wr F.CAN_ERR_REC (min rec 127)
  let s := s.wr F.CAN_ERR_WARN (b2n (warn tec rec))
  let s := if s.can.offBus then s else s.wr F.CAN_ERR_STATE (b2n (pass tec rec))
  (s.raiseIf (warn tec rec && !warn was.tec was.recv) bCAN 4).raiseIf (pass tec rec && !pass was.tec was.recv) bCAN 5

/-- A frame that the controller receives: stored, and inspected by the signal table; the receive error counter falls by 1,
or from above 127 to 127. -/
def Hw.canReceive (s : Hw) (f : CanFrame) (sof : Nat) : Hw :=
  let r := s.can.recv
  ((s.canStore f sof).sigUpdate f).canErrState s.can.tec (if 127 < r then 127 else r - 1)

/-- The protocol exception on an FD frame with FD = 0 (18 R715). -/
def Hw.canException (s : Hw) : Hw := (s.inc F.CAN_CNT_PROTERR).raiseBit bCAN 8

/-! ## Transmit (18 R625) -/

/-- Among the requested buffers the lowest identifier goes first, at equal identifiers the lower buffer. Identifiers
compare as they arbitrate: base identifier, then an 11-bit frame before a 29-bit one. -/
def Hw.canPick (s : Hw) : Option Nat :=
  if !s.canRuns || s.can.offBus || s.rd F.CAN_CFG_MODE = 2 then none
  else
    let key := fun b => canId29 (s.txFrame b) * 2 + b2n (s.txFrame b).ide
    (bitsOf 8 (s.rd F.CAN_TXREQ_REQ)).foldl (fun best b =>
      match best with
      | none => some b
      | some c => if key b < key c then some b else some c) none

/-- A requested buffer goes on the bus where none is in transmission. -/
def Hw.canStart (s : Hw) : Hw :=
  match s.can.sending, s.canPick with
  | none, some b => { s with can := { s.can with sending := some b, since := s.sysTime % 2 ^ 32 } }
  | _, _ => s

/-- The request bit of a buffer cleared. -/
def Hw.canClearReq (s : Hw) (b : Nat) : Hw :=
  s.wr F.CAN_TXREQ_REQ (ofBits ((bitsOf 8 (s.rd F.CAN_TXREQ_REQ)).filter (· ≠ b)))

/-- A frame is sent: REQ clears, TXDONE sets, the transmit error counter falls by 1; in MODE 3 the controller receives its
own frame. -/
def Hw.canSent (s : Hw) : Hw :=
  let t := s.canStart
  match t.can.sending with
  | none => s
  | some b =>
    let f := s.txFrame b
    let s := { s with can := { s.can with sending := none, aborts := s.can.aborts.filter (· ≠ b) } }
    let s := ((s.canClearReq b).wr F.CAN_TXDONE_DONE (s.rd F.CAN_TXDONE_DONE ||| 2 ^ b)).raiseBit bCAN 3
    let s := s.canErrState (s.can.tec - 1) s.can.recv
    let s := if s.rd F.CAN_CFG_MODE = 3 then s.canReceive f t.can.since else s
    s.canStart

/-! ## Errors (18 R626) -/

/-- Bus-off: BUSOFF sets and pending transmissions wait; one that was withdrawn has failed. -/
def Hw.canGoOff (s : Hw) : Hw :=
  if s.can.offBus then s
  else
    let s := s.can.aborts.foldl Hw.canClearReq s
    (({ s with can := { s.can with offBus := true, sending := none, aborts := [] } } : Hw).wr F.CAN_ERR_STATE 2).raiseBit bCAN 6

/-- A controller that AUTOREC = 0 keeps off the bus rejoins at an image start. -/
def Hw.canRejoin (s : Hw) : Hw :=
  if s.can.offBus && !s.rdB F.CAN_CFG_AUTOREC then
    ({ s with can := { s.can with offBus := false } } : Hw).canErrState 0 0
  else s

/-- An error on the bus: the counters of ISO 11898-1; a transmission that failed is tried again unless it was withdrawn;
a transmit counter above 255 is bus-off. -/
def Hw.canError (s : Hw) (e : CanErr) : Hw :=
  let t := s.can.tec + (match e with | .transmit => 8 | _ => 0)
  let r := s.can.recv + (match e with | .receive => 1 | .receiveDominant => 8 | _ => 0)
  let s := (s.canException).canErrState t (min r 255)
  let tx := match e with | .transmit => true | .passiveAck => true | _ => false
  let s := match s.can.sending with
    | some b =>
      if tx && s.can.aborts.contains b then
        ({ s with can := { s.can with sending := none, aborts := s.can.aborts.filter (· ≠ b) } } : Hw).canClearReq b
      else if tx then { s with can := { s.can with sending := none } } else s
    | none => s
  if 255 < t then s.canGoOff else s.canStart

/-! ## Meanings -/

/-- The controller takes frames from the bus: it runs and is on it, not in loopback, and CAN_RX reaches its pin, without which
it sees a recessive line alone (18 R617, R715). -/
def Hw.canHears (s : Hw) : Bool := s.canRuns && !s.can.offBus && s.rd F.CAN_CFG_MODE ≠ 3 && s.fnActive 0

/-- CAN_FRAME_RECEIVED: in MODE 1 and 2 a frame of the bus is received; an FD frame with FD = 0 is not (18 R715). -/
def execCanFrameReceived (frame : CanFrame) (sof : Word) (s : State) : Host.Outcome State Fault Refusal :=
  s.onHw fun h =>
    if !h.canHears then h
    else if frame.fdf && !h.rdB F.CAN_CFG_FD then h.canException
    else (h.canReceive frame sof.toNat).canStart

/-- CAN_PROTOCOL_EXCEPTION. -/
def execCanProtocolException (s : State) : Host.Outcome State Fault Refusal :=
  s.onHw fun h =>
    if h.canHears && !h.rdB F.CAN_CFG_FD then h.canException else h

/-- A write of CAN_TXREQ, a GO field per buffer (02 R45, R46). `busIdle`: a requested frame can go on the bus at once;
`completes`: the buffer in transmission completes in the cycle of the write. -/
def Hw.canRequest (h : Hw) (value : Word) (busIdle completes : Bool) : Hw :=
  if !h.on 43 then h
  else
    let again := match h.can.sending with | some b => completes && value.getLsbD b | none => false
    let h := if completes then h.canSent else h
    let want := getBits value 7 0
    let h' := h.wr F.CAN_TXREQ_REQ (h.rd F.CAN_TXREQ_REQ ||| want)
    let h' := if want &&& h.rd F.CAN_TXREQ_REQ ≠ 0 then h'.goIgnored bCAN else h'
    let h' := h'.collide bCAN none false again
    if busIdle then h'.canStart else h'

/-- A write of CAN_TXABORT: requests not on the bus are withdrawn; the buffer in transmission completes or fails first. -/
def Hw.canAbort (h : Hw) (value : Word) : Hw :=
  if !h.on 43 then h
  else
    (bitsOf 8 (getBits value 7 0)).foldl (fun (h : Hw) (b : Nat) =>
      if h.can.sending = some b then { h with can := { h.can with aborts := b :: h.can.aborts.filter (· ≠ b) } }
      else h.canClearReq b) h

/-- A write of CAN_RXFfACK: elements freed from GET on. -/
def Hw.canAck (h : Hw) (fifo : Nat) (value : Word) : Hw :=
  if !h.on 43 then h
  else
    let n := min (getBits value 5 0) (h.rd F.CAN_RXF_STAT_LEVEL fifo)
    (h.wr F.CAN_RXF_STAT_GET (h.rd F.CAN_RXF_STAT_GET fifo + n) fifo).wr F.CAN_RXF_STAT_LEVEL
      (h.rd F.CAN_RXF_STAT_LEVEL fifo - n) fifo

/-- CAN_TX_REQUEST. -/
def execCanTxRequest (value : Word) (busIdle completes : Bool) (s : State) : Host.Outcome State Fault Refusal :=
  s.onHw fun h => h.canRequest value busIdle completes

/-- CAN_TX_ABORT. -/
def execCanTxAbort (value : Word) (s : State) : Host.Outcome State Fault Refusal := s.onHw fun h => h.canAbort value

/-- CAN_TX_COMPLETE. -/
def execCanTxComplete (s : State) : Host.Outcome State Fault Refusal :=
  s.onHw fun h => if h.canRuns && !h.can.offBus then h.canSent else h

/-- CAN_RXF_ACK: elements freed from GET on; a frame that completes in the same cycle is stored after. -/
def execCanRxfAck (fifo : Fin 2) (value : Word) (frame : Option CanFrame) (sof : Word) (s : State) :
    Host.Outcome State Fault Refusal :=
  s.onHw fun h =>
    if !h.on 43 then h
    else
      let h := h.canAck fifo value
      match frame with
      | some f =>
        if h.canHears && (h.rdB F.CAN_CFG_FD || !f.fdf) then
          h.canReceive f sof.toNat
        else h
      | none => h

/-- CAN_BUS_ERROR. -/
def execCanBusError (error : CanErr) (s : State) : Host.Outcome State Fault Refusal :=
  s.onHw fun h => if h.canRuns && !h.can.offBus then h.canError error else h

/-- CAN_BUS_OFF. -/
def execCanBusOff (s : State) : Host.Outcome State Fault Refusal :=
  s.onHw fun h => if h.canRuns then h.canGoOff else h

/-- CAN_BUS_RECOVERY: with AUTOREC = 1 the controller rejoins, its counters at 0, and BUSON sets. -/
def execCanBusRecovery (s : State) : Host.Outcome State Fault Refusal :=
  s.onHw fun h =>
    if h.canRuns && h.can.offBus && h.rdB F.CAN_CFG_AUTOREC then
      ((({ h with can := { h.can with offBus := false } } : Hw).canErrState 0 0).raiseBit bCAN 7).canStart
    else h

end Sys2Proof.Machine
end

