-- ==== Sys2Proof/Machine/Ledger.lean ====
section
/-! DEFINITION. The bandwidth ledger (06): bookings, admission, shedding, credits, scrub storms, bank sleep. -/

namespace Sys2Proof.Machine

open Sys2Proof

/-- What a command answers: its status (04 R121) and its reply data. -/
abbrev Answer := Nat × List Byte

/-- OK with data. -/
def okWith (d : List Byte) : Answer := (0, d)
/-- BAD_PARAM with the offset of the offending byte (04 R120). -/
def badParam (off : Nat) : Answer := (6, leBytes 2 off)
/-- A refusal without data. -/
def refuseWith (status : Nat) : Answer := (status, [])

/-! ## Bookings (06 R190 to R199) -/

/-- The ledger's record changed. -/
def Hw.modLdg (s : Hw) (f : Ldg → Ldg) : Hw := { s with ldg := f s.ldg }

/-- The pending reservation and bank mask of a consumer. -/
def Hw.pendLu (s : Hw) (k : Nat) : Nat := if k = 14 then 4 else if k = 15 then 1 else s.rd F.LDG_RES_LU (k - 1)
def Hw.pendMask (s : Hw) (k : Nat) : Nat := if 14 ≤ k then 0xFFFF else s.rd F.LDG_RES_BANKS (k - 1)
/-- The active bank mask of a consumer. -/
def Hw.actMask (s : Hw) (k : Nat) : Nat := if 14 ≤ k then 0xFFFF else s.rd F.LDG_ACT_BANKS (k - 1)

/-- The ports that a bank mask uses (05 R156). -/
def maskPorts (m : Nat) : List Nat := (List.range 4).filter (fun p => (bitsOf 16 m).any (fun b => b % 4 = p))

/-- What a reservation books on a port (06 R195). -/
def portShare (lu mask p : Nat) : Nat :=
  let ports := maskPorts mask
  if ports.contains p then cdiv lu ports.length else 0

/-- The consumer codes. -/
def consumers : List Nat := (List.range 15).map (· + 1)

/-- Sum of a number per consumer. -/
def sumOver (f : Nat → Nat) : Nat := consumers.foldl (fun n k => n + f k) 0

/-- The active total and the active shares on a port, PEN and PVOC included (06 R194). -/
def Hw.booked (s : Hw) : Nat := sumOver s.actLu
def Hw.bookedOn (s : Hw) (p : Nat) : Nat := sumOver (fun k => portShare (s.actLu k) (s.actMask k) p)

/-- The ceilings (06 R191, R208, R209). -/
def Hw.pcap (s : Hw) : Nat := s.ldg.cap / 4
def Hw.marginLu (s : Hw) (p : Nat) : Nat := if s.ldg.margin.getD p false then s.pcap - s.pcap * 3 / 4 else 0
def Hw.stormLu (s : Hw) (p : Nat) : Nat := (s.ldg.storm.getD p none).getD 0
def Hw.epcap (s : Hw) (p : Nat) : Nat := s.pcap - s.marginLu p - s.stormLu p
def Hw.effcap (s : Hw) : Nat := s.ldg.cap - (List.range 4).foldl (fun n p => n + (s.marginLu p + s.stormLu p)) 0

/-- The first check of 06 R200 that a configuration fails: 0xF the total, else the lowest port; none where both hold. -/
def Hw.failing (s : Hw) (total : Nat) (port : Nat → Nat) : Option Nat :=
  if s.effcap < total then some 0xF else (List.range 4).find? (fun p => decide (s.epcap p < port p))

/-- The active bookings against the ceilings. -/
def Hw.overbooked (s : Hw) : Option Nat := s.failing s.booked s.bookedOn

/-- The levels that LDG_STAT and LDG_PORTp show. -/
def Hw.ldgPublish (s : Hw) : Hw :=
  if !s.on 21 then s
  else
    let s := (s.wr F.LDG_STAT_EFFCAP s.effcap).wr F.LDG_STAT_BOOKED s.booked
    foldUp (fun s p =>
      ((((s.wr F.LDG_PORT_MARGIN (b2n (s.ldg.margin.getD p false)) p).wr F.LDG_PORT_STORM
        (b2n (s.ldg.storm.getD p none).isSome) p).wr F.LDG_PORT_WBQ (min 63 (s.ldg.wbq.getD p []).length) p).wr
        F.LDG_PORT_EPCAP (s.epcap p) p).wr F.LDG_PORT_BOOKED (s.bookedOn p) p) 0 4 s

/-! ## Shedding (06 R210 to R214) -/

/-- A consumer's active reservation set; one without a reservation holds no credits. -/
def Hw.setActLu (s : Hw) (k lu : Nat) : Hw :=
  let s := s.wr F.LDG_ACT_LU lu (k - 1)
  if lu = 0 then (s.wr F.LDG_CRED_CREDIT 0 (k - 1)).modLdg (fun l => { l with acc := l.acc.set k 0 }) else s

/-- What every shed does (06 R213). -/
def Hw.shedNote (s : Hw) (k : Nat) : Hw :=
  ((s.wr F.LDG_SHEDSTAT_SHED (s.rd F.LDG_SHEDSTAT_SHED ||| 2 ^ (k - 1))).raiseBit bLDG 2).notice 6 0 0

/-- An entry of the shed order is passed over (06 R210). -/
def Hw.passedOver (s : Hw) (k : Nat) : Bool :=
  s.actLu k = 0 || (k ≤ 6 && !s.rdB F.LDG_ACT_SHEDDABLE (k - 1))
    || (s.booked ≤ s.effcap
        && (List.range 4).all (fun p => !(decide (s.epcap p < s.bookedOn p)) || portShare (s.actLu k) (s.actMask k) p = 0))

/-- Varan's decimation steps, `n` more at most (06 R212). -/
def Hw.decimate (s : Hw) : Nat → Hw
  | 0 => s
  | n + 1 =>
    let d := s.rd F.LDG_CRED_DECIM 10
    if s.overbooked.isNone || s.passedOver 11 || 8 ≤ d then s
    else (((s.setActLu 11 ((s.actLu 11 + 1) / 2)).wr F.LDG_CRED_DECIM (d + 1) 10).shedNote 11).decimate n

/-- One entry of the shed order. -/
def Hw.shedEntry (s : Hw) (k : Nat) : Hw :=
  if s.overbooked.isNone || s.passedOver k then s
  else if k = 11 then s.decimate 8
  else
    let s := (s.setActLu k 0).shedNote k
    if k = 10 then s.fadeVoices 0 240 4 else if k = 13 then s.anoPause else s

/-- The check after a change of capacity: entries are shed in order until both checks hold; OVER where none is left. -/
def Hw.ledgerCheck (s : Hw) : Hw :=
  if !s.on 21 then s
  else
    let s := s.ldg.order.foldl Hw.shedEntry s
    let s := if s.overbooked.isSome then (s.wr F.LDG_STAT_OVER 1).raiseBit bLDG 3 else s.wr F.LDG_STAT_OVER 0
    s.ldgPublish

/-! ## Bank tolerance and sleep (06 R197 to R199, R215 to R217) -/

/-- The tolerance of an active consumer (06 R197). -/
def Hw.tolerance (s : Hw) (k : Nat) : Nat :=
  if k ≤ 8 && s.scanning then s.rd F.LDG_DISPTOL_TOL else s.ldg.tol.getD k 0xFFFF

/-- tol_b; none where no active mask holds the bank (06 R199). -/
def Hw.bankTol (s : Hw) (b : Nat) : Option Nat :=
  (consumers.filter (fun k => s.actLu k ≠ 0 && bit (s.actMask k) b)).foldl
    (fun m k => some (match m with | none => s.tolerance k | some t => min t (s.tolerance k))) none

/-- The bank's tolerance allows a wake of so many cycles. -/
def Hw.tolAllows (s : Hw) (b cycles : Nat) : Bool :=
  match s.bankTol b with
  | none => true
  | some t => decide (cycles + s.rd F.LDG_SLEEPCFG_GUARD ≤ t)

/-- A bank's sleep state: 0 ACTIVE, 1 LIGHT, 2 RETENTION. -/
def Hw.bankSleep (s : Hw) (b : Nat) : Nat := s.mtx.sleep.getD b 0

/-- Worst-case added latency of a sleep state (05 R164). -/
def sleepCost (st : Nat) : Nat := match st with | 0 => 0 | 1 => 20 | _ => 1000

/-- The matrix's record changed. -/
def Hw.modMtx (s : Hw) (f : Mtx → Mtx) : Hw := { s with mtx := f s.mtx }

/-- A bank's wake starts (05 R165). -/
def Hw.wakeBank (s : Hw) (b : Nat) : Hw :=
  if s.bankSleep b = 0 || s.mtx.waking.contains b then s else s.modMtx (fun m => { m with waking := m.waking ++ [b] })

/-- A bank can be accessed: on and not retired. -/
def Hw.bankUp (s : Hw) (b : Nat) : Bool := s.on (4 + b) && !s.mtx.retired.contains b

/-- A request in progress at the bank. -/
def Hw.bankBusy (s : Hw) (b : Nat) : Bool := s.mtx.out.any (fun r => r.addr < 0x01000000 && bankOf r.addr = b)

/-- A bank that has been idle for the idle time goes to sleep as its tolerance permits (06 R215). -/
def Hw.sleepEntry (s : Hw) (b : Nat) : Hw :=
  if !s.on 21 || !s.bankUp b || s.bankBusy b || s.bankSleep b ≠ 0 then s
  else
    let to_ := fun (st : Nat) => s.modMtx (fun m => { m with sleep := m.sleep.set b st, waking := m.waking.filter (· ≠ b) })
    if s.rdB F.LDG_SLEEPCFG_EN_RET && s.tolAllows b 1000 then to_ 2
    else if s.rdB F.LDG_SLEEPCFG_EN_LIGHT && s.tolAllows b 20 then to_ 1
    else s

/-- A sleeping bank whose tolerance no longer permits its state starts to wake (06 R216, R217). -/
def Hw.wakeAhead (s : Hw) (b : Nat) : Hw := if s.tolAllows b (sleepCost (s.bankSleep b)) then s else s.wakeBank b

/-! ## Admission (06 R200 to R205) -/

/-- LEDGER_COMMIT. -/
def Hw.ledgerCommit (s : Hw) : Hw × Answer :=
  if consumers.any (fun k => s.pendLu k ≠ 0 && s.pendMask k = 0) then (s.raiseBit bLDG 1, badParam 0xFFFF)
  else
    let total := sumOver s.pendLu
    match s.failing total (fun p => sumOver (fun k => portShare (s.pendLu k) (s.pendMask k) p)) with
    | some c =>
      ((s.wr F.LDG_STAT_REFPORT c).raiseBit bLDG 1, (7, leBytes 2 total ++ leBytes 2 s.ldg.cap))
    | none =>
      let s := foldUp (fun s k =>
        let s := (s.setActLu k (s.pendLu k)).wr F.LDG_ACT_BANKS (s.pendMask k) (k - 1)
        let s := s.wr F.LDG_ACT_SHEDDABLE (if k ≤ 6 then s.rd F.LDG_RES_SHEDDABLE (k - 1) else 0) (k - 1)
        s.modLdg (fun l => { l with tol := l.tol.set k (s.rd F.LDG_TOL_TOL (k - 1)) })) 1 13 s
      let s := ((s.wr F.LDG_SHEDSTAT_SHED 0).wr F.LDG_CRED_DECIM 0 10).wr F.LDG_STAT_OVER 0
      let s := foldUp Hw.wakeAhead 0 16 s
      ((s.raiseBit bLDG 0).ldgPublish.anoPause, okWith (leBytes 2 total ++ leBytes 2 s.ldg.cap))

/-- The fields of LDG_CAP and LDG_SHEDORD0..3 read what the command engine holds (06 R190). -/
def Hw.ldgHeld (s : Hw) : Hw :=
  if !s.on 21 then s
  else
    let s := (s.wr F.LDG_CAP_CAP s.ldg.cap).wr F.LDG_CAP_PCAP s.pcap
    let w := fun (i : Nat) => (List.range 4).foldl (fun n j => n + s.ldg.order.getD (4 * i + j) 0 * 256 ^ j) 0
    let s := (s.wr F.LDG_SHEDORD0_CODES (w 0)).wr F.LDG_SHEDORD1_CODES (w 1)
    ((s.wr F.LDG_SHEDORD2_CODES (w 2) 0).wr F.LDG_SHEDORD2_CODES (w 3) 1).ldgPublish

/-- LEDGER_CAP_SET (06 R190). -/
def Hw.ledgerCapSet (s : Hw) (cap : Nat) : Hw × Answer :=
  if cap < 100 || 1400 < cap then (s, badParam 0)
  else if cap < s.booked || (List.range 4).any (fun p => decide (cap / 4 < s.bookedOn p)) then
    (s, (7, leBytes 2 s.booked ++ leBytes 2 s.ldg.cap))
  else (((s.modLdg (fun l => { l with cap := cap })).ldgHeld).ledgerCheck, okWith [])

/-- The first byte of a shed order that is refused (06 R211). -/
def badCode (l : List Nat) : Option Nat :=
  (List.range l.length).find? (fun i =>
    let c := l.getD i 0
    c = 0 || 13 < c || (l.take i).contains c)

/-- LEDGER_SHED_ORDER (06 R211). -/
def Hw.ledgerShedOrder (s : Hw) (codes : List Nat) : Hw × Answer :=
  if codes.isEmpty || 16 < codes.length then (s, badParam 0xFFFF)
  else match badCode codes with
    | some i => (s, badParam i)
    | none => ((s.modLdg (fun l => { l with order := codes })).ldgHeld, okWith [])

/-- LEDGER_QUERY's summary (06 R205). -/
def Hw.ledgerSummary (s : Hw) : List Byte :=
  leBytes 2 s.ldg.cap ++ leBytes 2 s.effcap
    ++ leBytes 2 (s.booked % 2048 + s.rd F.LDG_STAT_REFPORT * 2048 + s.rd F.LDG_STAT_OVER * 32768)
    ++ leBytes 2 (2 * s.rd F.LDG_SHEDSTAT_SHED)
    ++ (List.range 4).flatMap (fun p =>
      leBytes 2 (s.bookedOn p % 4096 + b2n (s.ldg.storm.getD p none).isSome * 16384 + b2n (s.ldg.margin.getD p false) * 32768))

/-! ## Credits (06 R206) -/

/-- The cycle in which a consumer's accumulator reaches 400: it adds R_k in every cycle, and gives up 400 for each credit,
which is discarded at the BURST limit. -/
def Hw.creditGain (s : Hw) (k : Nat) : Hw :=
  let r := s.actLu k
  if r = 0 || k = 0 || 15 < k then s
  else
    let acc := s.ldg.acc.getD k 0
    let full := acc + cdiv (400 - acc) r * r
    let burst := if k = 14 then s.rd F.LDG_RES_PEN_BURST else if k = 15 then s.rd F.LDG_RES_PVOC_BURST
      else s.rd F.LDG_RES_BURST (k - 1)
    let limit := 8 * max 1 burst
    let c := s.rd F.LDG_CRED_CREDIT (k - 1)
    let s := s.modLdg (fun l => { l with acc := l.acc.set k (full % 400) })
    s.wr F.LDG_CRED_CREDIT (min limit (c + full / 400)) (k - 1)

/-! ## Margin mode and scrub storms (06 R208, R209) -/

/-- A bank of a port retires: the port enters margin mode. -/
def Hw.marginEntry (s : Hw) (b : Nat) : Hw :=
  let p := b % 4
  let s := s.raiseIf (s.on 21 && !s.ldg.margin.getD p false) bLDG 5
  (s.modLdg (fun l => { l with margin := l.margin.set p true })).ledgerCheck

/-- A port's queue holds more than HI entries and no storm runs: a storm begins. -/
def Hw.stormCheck (s : Hw) (p : Nat) : Hw :=
  let q := (s.ldg.wbq.getD p []).length
  let s := if s.on 21 then s.wr F.LDG_PORT_WBQ (min 63 q) p else s
  if s.on 21 && s.rd F.LDG_STORMCFG_HI < q && (s.ldg.storm.getD p none).isNone then
    ((s.modLdg (fun l => { l with storm := l.storm.set p (some (s.rd F.LDG_STORMCFG_LU)) })).raiseBit bLDG 4).ledgerCheck
  else s

/-- A corrected granule queued for its write-back (05 R159); a full queue drops it. -/
def Hw.wbPush (s : Hw) (a : Nat) : Hw :=
  let p := bankOf a % 4
  let q := s.ldg.wbq.getD p []
  if 64 ≤ q.length then s.inc F.LDG_BGSTAT_WBDROP
  else (s.modLdg (fun l => { l with wbq := l.wbq.set p (q ++ [a / 8 * 8]) })).stormCheck p

/-- A port's queue has held no more than LO entries for 1 ms: its storm ends. -/
def Hw.stormEnd (s : Hw) (p : Nat) : Hw :=
  if s.rd F.LDG_STORMCFG_LO < (s.ldg.wbq.getD p []).length || (s.ldg.storm.getD p none).isNone then s
  else ((s.modLdg (fun l => { l with storm := l.storm.set p none })).stormCheck p).ledgerCheck

/-! ## ECC errors (05 R158 to R161) -/

/-- An ECC error of the granule at `a`, met by a master (0xF: scrub), as the access finds it. -/
def Hw.eccLog (s : Hw) (a master syndrome : Nat) (ue : Bool) : Hw :=
  let s := if s.rdB F.MTX_ECCINFO_VALID then s.wr F.MTX_ECCINFO_LOST 1
    else ((((((s.wr F.MTX_ECCINFO_VALID 1).wr F.MTX_ECCINFO_UE (b2n ue)).wr F.MTX_ECCINFO_BANK (bankOf a)).wr
      F.MTX_ECCINFO_MASTER master).wr F.MTX_ECCINFO_SYNDROME syndrome).wr F.MTX_ECCADDR_ADDR (a / 8 * 8))
  if ue then ((s.inc F.MTX_ECCCNT_UE 1 (bankOf a)).raiseBit bMTX 2).notice 7 (bankOf a) 0
  else ((s.inc F.MTX_ECCCNT_CE 1 (bankOf a)).raiseBit bMTX 1).wbPush a

/-- What an access meets in its granule: nothing, a single-bit error, or an uncorrectable one, with its syndrome. -/
def Hw.eccMeet (s : Hw) (a master : Nat) (e : Ecc) : Hw :=
  match e with
  | .clean => s
  | .single syn => s.eccLog a master syn false
  | .double syn => s.eccLog a master syn true

/-- Patrol scrub of a bank's next granule (06 R219): it is read, checked and, if corrected, written back. -/
def Hw.patrol (s : Hw) (b : Nat) (e : Ecc) : Hw :=
  if !s.on 21 || !s.bankUp b then s
  else
    let a := b * 0x100000 + s.ldg.patrol.getD b 0
    (s.modLdg (fun l => { l with patrol := l.patrol.modify b (fun n => (n + 8) % 0x100000) })).eccMeet a 0xF e

/-- A queued corrected granule is written back (05 R159): the bytes are those that the reads have returned since. -/
def Hw.writeBack (s : Hw) (p : Nat) (e : Ecc) : Hw :=
  match s.ldg.wbq.getD p [] with
  | [] => s
  | a :: l =>
    if !s.on 21 then s
    else
      let s := s.modLdg (fun g => { g with wbq := g.wbq.set p l })
      let s := s.wr F.LDG_PORT_WBQ (min 63 l.length) p
      if s.bankUp (bankOf a) then s.eccMeet a 0xF e else s

/-- The background slot counted (06 R219). -/
def Hw.forcedSlot (s : Hw) : Hw := if s.on 21 then (s.inc F.LDG_BGSTAT_FORCED).raiseBit bLDG 7 else s

/-! ## Meanings -/

/-- CREDIT_GAIN of a consumer. -/
def execCreditGain (consumer : Fin 16) (s : State) : Host.Outcome State Fault Refusal :=
  s.onHw fun h => if h.on 21 then h.creditGain consumer else h

/-- SCRUB_STORM_END at a port. -/
def execScrubStormEnd (port : Fin 4) (s : State) : Host.Outcome State Fault Refusal := s.onHw fun h => h.stormEnd port

/-- BANK_SLEEP_ENTRY: the bank has had no access for the idle time. -/
def execBankSleepEntry (bank : Fin 16) (s : State) : Host.Outcome State Fault Refusal := s.onHw fun h => h.sleepEntry bank

/-- BANK_WAKE_AHEAD. -/
def execBankWakeAhead (bank : Fin 16) (s : State) : Host.Outcome State Fault Refusal :=
  s.onHw fun h => if h.on 21 then h.wakeAhead bank else h

/-- BANK_WAKE_DONE: the bank is ACTIVE and serves what waits. -/
def execBankWakeDone (bank : Fin 16) (s : State) : Host.Outcome State Fault Refusal :=
  s.onHw fun h => if h.mtx.waking.contains bank then h.touchBank (bank * 0x100000) else h

/-- RETENTION_REFRESH (06 R221): the bank keeps its contents and its state; what it takes is time. -/
def execRetentionRefresh (bank : Fin 16) (s : State) : Host.Outcome State Fault Refusal :=
  s.onHw fun h => if h.bankSleep bank = 2 then { h with ldg := { h.ldg with refreshes := h.ldg.refreshes.modify bank (· + 1) } } else h

/-- PATROL_SCRUB of a bank, with what the granule shows. -/
def execPatrolScrub (bank : Fin 16) (ecc : Ecc) (s : State) : Host.Outcome State Fault Refusal :=
  s.onHw fun h => h.patrol bank ecc

/-- ECC_WRITEBACK at a port. -/
def execEccWriteback (port : Fin 4) (ecc : Ecc) (s : State) : Host.Outcome State Fault Refusal :=
  s.onHw fun h => h.writeBack port ecc

/-- PHY_CALIBRATION_STEP (06 R223): one step of the replica driver, in a vertical blanking line outside a seam. -/
def execPhyCalibrationStep (s : State) : Host.Outcome State Fault Refusal :=
  s.onHw fun h => if h.on 32 && h.timState = 2 then { h with ldg := { h.ldg with phySteps := h.ldg.phySteps + 1 } } else h

end Sys2Proof.Machine
end

