-- ==== Sys2Proof/Machine/Link.lean ====
section
/-! DEFINITION. The burgee link (17): ports, superframes, enumeration, system time, bunting, packets and their retries. -/

namespace Sys2Proof.Machine

open Sys2Proof

/-- The link's record changed. -/
def Hw.modBrg (s : Hw) (f : Brg → Brg) : Hw := { s with brg := f s.brg }

/-- A port's record. -/
def Hw.bport (s : Hw) (p : Nat) : BPort := s.brg.ports.getD p BPort.reset

/-- A port's record changed. -/
def Hw.modPort (s : Hw) (p : Nat) (f : BPort → BPort) : Hw := s.modBrg (fun b => { b with ports := modAt b.ports p f })

/-- A port's domain is on: PD41, PD42. -/
def Hw.portOn (s : Hw) (p : Nat) : Bool := s.on (41 + p) && s.on 21

/-- The other port. -/
def other (p : Nat) : Nat := 1 - p

/-! ## Timing ports (17 R582, R583) -/

/-- The timing port: of the UP ports whose superframes have TV = 1 the one with fewer HOPS, port 1 between equals. -/
def Hw.timingPort (s : Hw) : Option Nat :=
  let tv := fun p => s.portUp p && s.rdB F.BRG_P_STAT_TV p
  match tv 0, tv 1 with
  | false, false => none
  | true, false => some 0
  | false, true => some 1
  | true, true => if (s.bport 0).hops < (s.bport 1).hops then some 0 else some 1

/-- The timing port as it stands now; a follower that has lost every one loses SYNC. `before` is the state before the
change. -/
def Hw.retime (s : Hw) (before : Hw) : Hw :=
  match s.timingPort with
  | some p => s.wr F.BRG_STAT_TPORT p
  | none =>
    if !s.brg.lead && before.timingPort.isSome then
      ((s.wr F.BRG_STAT_SYNC 0).modBrg (fun b => { b with slew := 0 })).raiseBit bBRG 7
    else s

/-! ## Ports (17 R567 to R570) -/

/-- A port may train: its domain on, PLL_LNK locked, TXEN = 1. -/
def Hw.portTrains (s : Hw) (p : Nat) : Bool :=
  s.portOn p && s.rdB F.SYS_CLKSTAT_LNK_LOCK && s.rdB F.BRG_P_CTRL_TXEN p

/-- What a port that carries superframes loses when it leaves UP. -/
def Hw.portSilent (s : Hw) (p state : Nat) : Hw :=
  let before := s
  let s := (s.wr F.BRG_P_STAT_STATE state p).wr F.BRG_P_STAT_TV 0 p
  let s := s.modBrg (fun b => { b with
    rx := b.rx.filter (fun e => e.2.1 ≠ p)
    rxLast := b.rxLast.set p (List.replicate 32 none)
    sent := b.sent.set p none
    bq := (b.bq.map (fun e => (e.1, e.2.1, e.2.2.filter (· ≠ p)))).filter (fun e => e.2.2 ≠ []) })
  s.retime before

/-- A port goes to a state; a departure from UP sets DOWNn and is counted, and breaks a ring (R569, R578). -/
def Hw.portLeave (s : Hw) (p state : Nat) : Hw :=
  if s.portUp p then
    let s := ((s.portSilent p state).inc F.BRG_P_ERR_RESYNC 1 p).raiseBit bBRG (2 + p)
    if s.rd F.BRG_STAT_TOPO = 2 then (s.wr F.BRG_STAT_TOPO 3).raiseBit bBRG 12 else s
  else s.wr F.BRG_P_STAT_STATE state p

/-- A port starts or stops training as its domain, PLL_LNK and TXEN say (R568, R570). An UP port leaves UP under R569
alone, and a port under test at the test's end. -/
def Hw.portEnable (s : Hw) (p : Nat) : Hw :=
  let st := s.rd F.BRG_P_STAT_STATE p
  if s.portTrains p then (if st = 0 then s.wr F.BRG_P_STAT_STATE 1 p else s)
  else if st = 3 || st = 4 then s
  else s.wr F.BRG_P_STAT_STATE 0 p

/-- An UP port sends: with TXEN = 0 its lane is held low (R570). -/
def Hw.portSends (s : Hw) (p : Nat) : Bool := s.portUp p && s.rdB F.BRG_P_CTRL_TXEN p

/-- A port hears its partner: it trains; a miswired port and one with two leads train again when their partner changes. -/
def Hw.signalDetect (s : Hw) (p : Nat) : Hw :=
  let st := s.rd F.BRG_P_STAT_STATE p
  if s.portTrains p && (st = 1 || st = 5 || st = 6) then s.wr F.BRG_P_STAT_STATE 2 p else s

/-- Training ends, with the partner's port number, LEAD state and node ID (R567, R568, R576). -/
def Hw.portTrained (s : Hw) (p partner : Nat) (lead : Bool) (node : Nat) : Hw :=
  if s.rd F.BRG_P_STAT_STATE p ≠ 2 || !s.portTrains p then s
  else
    let s := (s.wr F.BRG_P_STAT_PPORT partner p).wr F.BRG_P_STAT_PARTNER node p
    let s := s.modPort p (fun b => { b with partnerLead := lead, exch := [], good := 0 })
    if partner = p then (s.wr F.BRG_P_STAT_STATE 5 p).raiseBit bBRG 9
    else if lead && s.brg.lead then (s.wr F.BRG_P_STAT_STATE 6 p).raiseBit bBRG 8
    else
      let s := ((s.wr F.BRG_P_STAT_STATE 3 p).wr F.BRG_P_DELAY_DELAY 0 p).raiseBit bBRG p
      if s.brg.lead then s.modBrg (fun b => { b with enumDue := true, enumWait := false, enumLeft := 0 }) else s

/-- An exchange of the hop delay measurement (R580): t4 − t1 and t3 − t2 in ps; after 16 the mean is held. -/
def Hw.delayExchange (s : Hw) (p : Nat) (out back : Int) : Hw :=
  if !s.portUp p || 16 ≤ (s.bport p).exch.length then s
  else
    let s := s.modPort p (fun b => { b with exch := b.exch ++ [out - back] })
    let e := (s.bport p).exch
    if e.length = 16 then s.wr F.BRG_P_DELAY_DELAY ((e.foldl (· + ·) 0) / 32).toNat p else s

/-! ## Enumeration (17 R576 to R579, R586, R603) -/

/-- LRXD and BLAT for a largest delay in ps (R586). -/
def linkTiming (dmax : Nat) : Nat × Nat :=
  (1 + cdiv (3 * (940000 + dmax)) 62500000, cdiv (125000000 + 3 * (1240000 + dmax)) 30000)

/-- The nodes of a system become reachable, as far as an UP port leads to them (R602, R603). -/
def Hw.reachAll (s : Hw) (nodes : Nat) : Hw :=
  let id := s.rd F.BRG_STAT_ID
  let ring := s.rd F.BRG_STAT_TOPO ≠ 1
  let ok := fun n => n < nodes && (n = id || (if ring then s.portUp 0 || s.portUp 1 else s.portUp (if id < n then 0 else 1)))
  foldUp (fun s i => s.wr F.BRG_REACH_BITS (ofBits ((List.range 32).filter (fun b => ok (32 * i + b)))) i) 0 4 s

/-- The result of an enumeration. -/
def Hw.enumResult (s : Hw) (nodes lrxd blat : Nat) (ring : Bool) : Hw :=
  let s := (s.wr F.BRG_STAT_NODES nodes).wr F.BRG_STAT_TOPO (if ring then 2 else 1)
  let s := ((s.wr F.BRG_TIMING_LRXD lrxd).wr F.BRG_TIMING_BLAT blat).reachAll nodes
  (s.modBrg (fun b => { b with enumDue := false, enumWait := false, enumCount := b.enumCount + 1 })).raiseBit bBRG 4

/-- The lead node has the result: the node count and the delay, in ps, from the farthest node. -/
def Hw.leadResult (s : Hw) (nodes dmax : Nat) (ring : Bool) : Hw :=
  let t := linkTiming dmax
  (s.wr F.BRG_STAT_ID 0).enumResult nodes t.1 t.2 ring

/-! ## Packets (17 R591, R592) -/

/-- The port by which a packet goes to a node. -/
def Hw.route (s : Hw) (n : Nat) : Nat :=
  let id := s.nodeId
  let count := s.rd F.BRG_STAT_NODES
  match s.rd F.BRG_STAT_TOPO with
  | 2 => if (n + count - id) % count ≤ (id + count - n) % count then 0 else 1
  | 3 => if s.portUp 0 != s.portUp 1 then (if s.portUp 0 then 0 else 1) else if id < n then 0 else 1
  | _ => if id < n then 0 else 1

/-- Q: payload and header bytes of its own that a node inserts in a superframe. -/
def Hw.linkQuota (s : Hw) : Nat :=
  let n := max 1 (s.rd F.BRG_STAT_NODES)
  max 64 (16 * (4864 / (16 * n)))

/-- Own packets that a superframe takes on a port, and those left. -/
def takePackets (mine : LPkt → Bool) : Nat → List LPkt → List LPkt × List LPkt
  | _, [] => ([], [])
  | q, p :: l =>
    let n := p.payload.length + 6
    if mine p && n ≤ q then let r := takePackets mine (q - n) l; (p :: r.1, r.2)
    else if mine p then ([], p :: l)
    else let r := takePackets mine q l; (r.1, p :: r.2)

/-- A packet that arrives on a port is for this node and its CRC and type are good; what is discarded is counted (R591). -/
def Hw.packetIn (s : Hw) (p : Nat) (k : LPkt) : Hw × Bool :=
  if !s.portUp p then (s, false)
  else if !k.crcOk || k.kind = 0 || 9 ≤ k.kind then (s.inc F.BRG_P_ERR_CRC 1 p, false)
  else (s, k.dst = s.nodeId)

/-! ## Superframes (17 R571 to R575, R585, R587) -/

/-- The words this node puts on the system channels: BRG_ATX's bytes with EN = 1, in order; 0 while the tick is taken from
PLL_SYS (15 R526). -/
def Hw.atxWords (s : Hw) : List (Nat × Int) :=
  (List.range 8).filterMap (fun k =>
    let b := byteAt (leBytes 4 (s.reg (0x040D0070 + 4 * (k / 4))).toNat) (k % 4)
    if 128 ≤ b then some (b % 32, if s.rdB F.MIX_STAT_FALLBACK then 0 else s.mix.word.getD (11 + k) 0) else none)

/-- A superframe completed with this node's audio words, bunting requests and packets, and sent on a port. -/
def Hw.sendFrame (s : Hw) (p : Nat) (f : SFrame) : Hw :=
  let audio := s.atxWords.foldl (fun a w => a.set w.1 (some w.2)) f.audio
  if s.nodeId = 0xFF then s.modBrg (fun b => { b with sent := b.sent.set p (some { f with audio := audio }) })
  else
    let ready := s.brg.bq.filter (fun e => e.2.2.contains p)
    let room := ready.take (4 - f.bunt.length)
    let bq := s.brg.bq.map (fun e => if room.contains e then (e.1, e.2.1, e.2.2.filter (· ≠ p)) else e)
    let t := takePackets (fun k => s.route k.dst = p) s.linkQuota s.brg.out
    let g := { f with
      audio := audio
      bunt := f.bunt ++ room.map (fun e => (e.1, s.nodeId, e.2.1 % 2 ^ 48))
      packets := f.packets ++ t.1 }
    s.modBrg (fun b => { b with bq := bq.filter (fun e => e.2.2 ≠ []), out := t.2, sent := b.sent.set p (some g) })

/-- A superframe of this node's own, without its audio, requests and packets. -/
def Hw.ownFrame (s : Hw) : SFrame where
  sfn := s.brg.sfn
  tv := s.brg.lead
  bv := s.brg.lead && s.timState = 2
  enm := s.brg.lead && 0 < s.brg.enumLeft
  turn := !s.brg.lead
  ring := s.rd F.BRG_STAT_TOPO = 2
  hops := 0
  nodes := s.rd F.BRG_STAT_NODES
  srcId := s.nodeId
  sysTime := 16 * s.sysTime
  corr := 240000
  beam := s.brg.beam
  beamSeq := s.brg.beamSeq
  lrxd := s.rd F.BRG_TIMING_LRXD
  blat := s.rd F.BRG_TIMING_BLAT
  bunt := []
  audio := List.replicate 32 none
  hcrcOk := true
  acrcOk := true
  packets := []

/-- The lead node begins a due enumeration once the hop delay of every UP port is measured; each of its superframe periods
takes one of the four with ENUM set. -/
def Hw.enumStep (s : Hw) : Hw :=
  if !s.brg.lead then s
  else if s.brg.enumDue && (List.range 2).all (fun p => !s.portUp p || (s.bport p).exch.length = 16)
      && (List.range 2).any s.portUp then
    s.modBrg (fun b => { b with enumDue := false, enumLeft := 4, enumWait := false })
  else s

/-- LINK_BOUNDARY (R574): a period boundary of this node. The lead node originates on every UP port, a follower on an UP
port whose other port receives nothing. -/
def Hw.linkBoundary (s : Hw) : Hw :=
  if !s.on 21 then s
  else
    let s := s.enumStep
    let s := if s.brg.lead then s.modBrg (fun b => { b with sfn := (b.sfn + 1) % 65536 }) else s
    let s := foldUp (fun s p =>
      if !s.portSends p then s
      else if s.brg.lead then s.sendFrame p s.ownFrame
      else if s.nodeId ≠ 0xFF && !s.portUp (other p) then
        s.sendFrame p { s.ownFrame with srcId := s.nodeId + (if p = 1 then 128 else 0) }
      else s) 0 2 s
    let s := s.modBrg (fun b => { b with bq := b.bq.filter (fun e => e.2.2 ≠ []) })
    if s.brg.lead && 0 < s.brg.enumLeft then
      s.modBrg (fun b => { b with enumLeft := b.enumLeft - 1, enumWait := b.enumLeft = 1 || b.enumWait })
    else s

/-- System time corrected by an error in ps: a step above 100 ns, else slewed (R582). -/
def Hw.timeCorrect (s : Hw) (err : Int) : Hw :=
  let s := s.wr F.BRG_TSERR_ERR (ux 32 (satS 32 err))
  if 100000 < err.natAbs then
    let now := (s.sysTime : Int) * 10000 + s.brg.frac - err
    let s := s.setSysTime (ux 64 (now / 10000))
    (s.modBrg (fun b => { b with frac := now % 10000, slew := 0 })).raiseBit bBRG 6
  else s.modBrg (fun b => { b with slew := -err })

/-- A cycle of 10 ns of system time, with the slew of at most 100 ppm, 1 ps a tick (R581, R582). -/
def Hw.timeTick (s : Hw) : Hw :=
  let d : Int := if s.brg.slew < 0 then -1 else if 0 < s.brg.slew then 1 else 0
  let f := s.brg.frac + d
  let s := s.modBrg (fun b => { b with slew := b.slew - d, frac := f % 10000 })
  s.setSysTime (ux 64 ((s.sysTime : Int) + 1 + f / 10000))

/-- Timing from a superframe with TV = 1 on the timing port: `sub` ps past the tick of system time in which its SOS
arrived. -/
def Hw.superframeTime (s : Hw) (p : Nat) (f : SFrame) (sub : Nat) : Hw :=
  let s := s.wr F.BRG_SFCNT_COUNT (s.rd F.BRG_SFCNT_COUNT + 1)
  let own : Int := (s.sysTime : Int) * 10000 + s.brg.frac + (sub : Int) - (f.corr : Int) - (s.rd F.BRG_P_DELAY_DELAY p : Nat)
  let err := own - ((f.sysTime * 625 : Nat) : Int)
  let good := if err.natAbs ≤ 2000 then (s.bport p).good + 1 else 0
  let s := (s.timeCorrect err).modPort p (fun b => { b with good := good })
  let s := if 4 ≤ good then s.wr F.BRG_STAT_SYNC 1 else if good = 0 then s.wr F.BRG_STAT_SYNC 0 else s
  s.modBrg (fun b => { b with sfn := f.sfn })

/-- BEAM_MARKER (R587): a new BEAMSEQ is a reference frame start. -/
def Hw.beamMarker (s : Hw) (f : SFrame) : Hw :=
  if f.bv && s.rdB F.BRG_STAT_SYNC && s.lockSrc = 3 && f.beamSeq ≠ s.brg.beamSeq then
    let gap := f.beam - s.brg.beam
    (s.modBrg (fun b => { b with beam := f.beam, beamSeq := f.beamSeq })).reference gap
  else s

/-- The landing tick of which a superframe carries bits 47..0 (R572): the one nearest to system time. -/
def Hw.fullTick (s : Hw) (t : Nat) : Nat :=
  let d := (t + 2 ^ 48 - s.sysTime % 2 ^ 48) % 2 ^ 48
  if d < 2 ^ 47 || s.sysTime + d < 2 ^ 48 then s.sysTime + d else s.sysTime + d - 2 ^ 48

/-- Events of a superframe are taken: one already known merges, one past its tick is late (R588, R589). -/
def Hw.takeBunting (s : Hw) (f : SFrame) : Hw :=
  f.bunt.foldl (fun s e =>
    let line := e.1
    let tick := s.fullTick e.2.2
    if e.2.1 = s.nodeId || s.brg.landing.any (fun x => x.1 = line && x.2.1 = tick) || s.brg.landed.contains (line, tick) then s
    else s.modBrg (fun b => { b with landing := b.landing ++ [(line, tick, decide (tick < s.sysTime))] })) s

/-- What a follower takes of an enumeration from a superframe with TV = 1 on port `p` (R576, R578). -/
def Hw.followEnum (s : Hw) (p : Nat) (f : SFrame) : Hw :=
  if f.enm then
    if p = 1 then
      (if f.hops + 1 ≤ 127 then s.wr F.BRG_STAT_ID (f.hops + 1) else s).modBrg (fun b => { b with enumDue := true })
    else if s.rd F.BRG_STAT_TOPO = 3 && !f.ring && !s.rdB F.BRG_P_STAT_TV 1 then s.wr F.BRG_STAT_ID 0xFF
    else s
  else if f.nodes ≠ 0 && s.nodeId ≠ 0xFF && (s.brg.enumDue || f.nodes ≠ s.rd F.BRG_STAT_NODES
      || f.lrxd ≠ s.rd F.BRG_TIMING_LRXD || f.blat ≠ s.rd F.BRG_TIMING_BLAT) then
    s.enumResult f.nodes f.lrxd f.blat f.ring
  else if s.rd F.BRG_STAT_TOPO = 2 && !f.ring then (s.wr F.BRG_STAT_TOPO 3).raiseBit bBRG 12
  else s

/-- What the lead node takes of an enumeration: its own superframe come round a ring, or the end node's report (R576). -/
def Hw.leadEnum (s : Hw) (p : Nat) (f : SFrame) : Hw :=
  let far := f.corr - 240000
  if !f.turn then
    if p = 1 && s.brg.enumWait then s.leadResult (f.hops + 1) far true else s
  else
    let s := if s.rd F.BRG_STAT_TOPO = 2 && p = 1 then (s.wr F.BRG_STAT_TOPO 3).raiseBit bBRG 12 else s
    if p = 0 && 128 ≤ f.srcId then
      let e := f.srcId - 128
      let was := s.brg.endNode
      let s := s.modBrg (fun b => { b with endNode := e })
      if s.brg.enumWait then s.leadResult (e + 1) (far + s.rd F.BRG_P_DELAY_DELAY p) false
      else if e ≠ was && s.brg.enumLeft = 0 && e + 1 ≠ s.rd F.BRG_STAT_NODES then s.modBrg (fun b => { b with enumDue := true })
      else s
    else s

/-- A follower forwards a superframe out of its other port, `residence` ps after it came (R575, R583). -/
def Hw.forward (s : Hw) (p : Nat) (f : SFrame) (residence : Nat) : Hw :=
  let q := other p
  if s.brg.lead || !s.portSends q then s
  else
    let mine := s.timingPort = some p && s.rdB F.BRG_STAT_SYNC
    s.sendFrame q { f with
      hops := f.hops + 1
      corr := f.corr + s.rd F.BRG_P_DELAY_DELAY p + residence
      tv := f.tv && mine
      packets := f.packets.filter (fun k => k.dst ≠ s.nodeId) }

/-- SUPERFRAME_RECEIVED on a port: `sub` ps past the tick of its SOS's arrival, `residence` the time in ps until it is
forwarded. A superframe whose HCRC fails gives no timing, no beam marker and no bunting, here or further on; one whose
ACRC fails repeats each channel's previous word. -/
def Hw.superframe (s : Hw) (p : Nat) (f : SFrame) (sub residence : Nat) : Hw :=
  if !s.portUp p then s
  else
    let before := s
    let s := if f.hcrcOk then s else s.inc F.BRG_P_ERR_CRC 1 p
    let s := if f.acrcOk then s else s.inc F.BRG_P_ERR_CRC 1 p
    let f := if f.hcrcOk then f else { f with tv := false, bv := false, enm := false, bunt := [], hcrcOk := true }
    let last := s.brg.rxLast.getD p []
    let f := if f.acrcOk then f
      else { f with audio := f.audio.mapIdx (fun c w => if w.isSome then last.getD c none else none), acrcOk := true }
    let s := s.modBrg (fun b => { b with
      rx := ((f.sfn, p, f.audio) :: b.rx.filter (fun e => !(e.1 = f.sfn && e.2.1 = p))).take 64
      rxLast := b.rxLast.set p ((List.range 32).map (fun c => (f.audio.getD c none).or (last.getD c none))) })
    let s := if s.brg.lead then s.leadEnum p f
      else
        let s := (s.wr F.BRG_P_STAT_TV (b2n f.tv) p).modPort p (fun b => { b with hops := f.hops })
        let s := s.retime before
        let s := if f.tv && s.timingPort = some p then s.superframeTime p f sub else s
        let s := if f.tv then s.followEnum p f else s
        if s.timingPort = some p then s.beamMarker f else s
    (s.takeBunting f).forward p f residence

/-! ## Bunting (17 R588 to R590) -/

/-- BUNTING_LANDING: the late events land at once; otherwise the events of the smallest landing tick. -/
def Hw.buntLand (s : Hw) : Hw :=
  let late := s.brg.landing.filter (fun e => e.2.2)
  let first := (s.brg.landing.map (fun e => e.2.1)).foldl min (2 ^ 64)
  let now := if late.isEmpty then s.brg.landing.filter (fun e => e.2.1 = first) else late
  if now.isEmpty || !s.on 21 then s
  else
    let lines := ofBits (now.map (fun e => e.1))
    let s := s.modBrg (fun b => { b with
      landing := b.landing.filter (fun e => !now.contains e)
      landed := ((now.map (fun e => (e.1, e.2.1))) ++ b.landed).take 64 })
    let s := s.inc F.BRG_BCNT_LANDED now.length
    let s := if late.isEmpty then s else (s.inc F.BRG_BCNT_LATE late.length).raiseBit bBRG 11
    let s := if s.rdB F.BRG_BIO_OEN0 && bit lines (s.rd F.BRG_BIO_OLINE0) then s.trigDrive 0 4 else s
    let s := if s.rdB F.BRG_BIO_OEN1 && bit lines (s.rd F.BRG_BIO_OLINE1) then s.trigDrive 1 4 else s
    s.varBunting lines (if late.isEmpty then first else s.sysTime)

/-- A write of BRG_BREQ. -/
def Hw.breqWrite (s : Hw) (v : Word) : Hw :=
  let s := s.wr F.BRG_BREQ_LINE (getBits v 10 8)
  if getBits v 0 0 = 1 then (s.buntRequest (getBits v 10 8)).1 else s

/-! ## Meanings -/

/-- PLL_LNK_LOCK: with PD41 or PD42 on. -/
def execPllLnkLock (s : State) : Host.Outcome State Fault Refusal :=
  s.onHw fun h => if h.on 41 || h.on 42 then ((h.wr F.SYS_CLKSTAT_LNK_LOCK 1).portEnable 0).portEnable 1 else h

/-- PLL_LNK_UNLOCK (03 R81): ports that are not UP have no clock to train from. -/
def execPllLnkUnlock (s : State) : Host.Outcome State Fault Refusal :=
  s.onHw fun h =>
    if h.rdB F.SYS_CLKSTAT_LNK_LOCK then
      (((h.wr F.SYS_CLKSTAT_LNK_LOCK 0).raiseBit bSYS 6).portEnable 0).portEnable 1
    else h

/-- LINK_SIGNAL_DETECT. -/
def execLinkSignalDetect (port : Fin 2) (s : State) : Host.Outcome State Fault Refusal :=
  s.onHw fun h => h.signalDetect port

/-- PORT_UP: what training exchanged. -/
def execPortUp (port partnerPort : Fin 2) (partnerLead : Bool) (partnerNode : Nat) (s : State) :
    Host.Outcome State Fault Refusal :=
  s.onHw fun h => h.portTrained port partnerPort partnerLead partnerNode

/-- PORT_DOWN: with the code and disparity errors counted. -/
def execPortDown (port : Fin 2) (errors : Nat) (s : State) : Host.Outcome State Fault Refusal :=
  s.onHw fun h => if h.portUp port then (h.inc F.BRG_P_ERR_CODE errors port).portLeave port (if h.portTrains port then 1 else 0) else h

/-- DELAY_EXCHANGE. -/
def execDelayExchange (port : Fin 2) (out back : Int) (s : State) : Host.Outcome State Fault Refusal :=
  s.onHw fun h => h.delayExchange port out back

/-- SUPERFRAME_RECEIVED. -/
def execSuperframeReceived (port : Fin 2) (frame : SFrame) (sub residence : Nat) (s : State) :
    Host.Outcome State Fault Refusal :=
  s.onHw fun h => h.superframe port frame sub residence

/-- BUNTING_REQUEST: a write of BRG_BREQ. -/
def execBuntingRequest (value : Word) (s : State) : Host.Outcome State Fault Refusal :=
  s.onHw fun h => if h.on 21 then h.breqWrite value else h

/-- BUNTING_LANDING. -/
def execBuntingLanding (s : State) : Host.Outcome State Fault Refusal := s.onHw Hw.buntLand

/-- COPREQ_PACKET. -/
def execCopreqPacket (port : Fin 2) (packet : LPkt) (s : State) : Host.Outcome State Fault Refusal :=
  s.onHw fun h =>
    let r := h.packetIn port packet
    if r.2 && packet.kind = 6 then r.1.copServe packet.src packet.tag packet.payload else r.1

/-- COPRSP_PACKET. -/
def execCoprspPacket (port : Fin 2) (packet : LPkt) (s : State) : Host.Outcome State Fault Refusal :=
  s.onHw fun h =>
    let r := h.packetIn port packet
    if r.2 && packet.kind = 7 then r.1.copResponse packet.src packet.payload else r.1

/-- LINK_PACKET_RETRY: 100 µs without a response to a request to `node` with `tag`; at most three times. -/
def execLinkPacketRetry (node : Fin 128) (tag : Fin 256) (s : State) : Host.Outcome State Fault Refusal :=
  s.onHw fun h =>
    match h.brg.waiting.find? (fun e => e.1.dst = node.val && e.1.tag = tag.val && e.2 < 3) with
    | some e =>
      ((h.modBrg (fun b => { b with waiting := b.waiting.map (fun x => if x = e then (x.1, x.2 + 1) else x) })).linkSend
        e.1).inc F.BRG_WCNT_RETRY
    | none => h

end Sys2Proof.Machine
end

