-- ==== Sys2Proof/Machine/Sample.lean ====
section
/-! DEFINITION. The 48 kHz period boundary (15 R505). -/

namespace Sys2Proof.Machine

open Sys2Proof

/-- SAMPLE_PERIOD_BOUNDARY: superframes that start at the boundary carry the words of the last period; AVAS records, the
graph over the sums that the voices left, the voices of this period, and a sample for Varan's audio streams. -/
def Hw.sampleBoundary (s : Hw) : Hw := s.linkBoundary.avasRecords.mixBoundary.voiceBoundary.varAudio

/-- SAMPLE_PERIOD_BOUNDARY. -/
def execSamplePeriodBoundary (s : State) : Host.Outcome State Fault Refusal := s.onHw Hw.sampleBoundary

end Sys2Proof.Machine
end

