-- ==== Sys2Proof/Machine/Registers.lean ====
section
/-! DEFINITION. Registers as masters see them: live values that mirror the device's state, reads with their side effects,
and writes, with the behaviour of the registers that have one. -/

namespace Sys2Proof.Machine

open Sys2Proof

/-! ## Live values (02 R29, R50) -/

/-- Several fields put into a word: high bit, low bit, value. -/
def putFields (w : Word) (l : List (Nat × Nat × Nat)) : Word := l.foldl (fun w f => setBits w f.1 f.2.1 f.2.2) w

/-- What a bank's BANKSTAT field shows. -/
def Hw.bankCode (s : Hw) (b : Nat) : Nat :=
  if s.mtx.retired.contains b then 4
  else if s.pwr.filling.contains b then 5
  else match s.domState (4 + b) with
    | .retain => 6
    | .on => s.bankSleep b
    | _ => 3

/-- Reads or writes of a master outstanding, stalled ones counted (05 R173, R185). -/
def Hw.outCount (s : Hw) (m : Nat) (write : Bool) : Nat :=
  ((s.mtx.out ++ s.mtx.stalled.map (·.1)).filter (fun r => (r.master : Nat) = m && r.write = write)).length

/-- Efts that are in a state. -/
def Hw.eftsIn (s : Hw) (p : EftRun → Bool) : Nat := ofBits ((List.range 4).filter (fun e => p ((s.efts.toList.getD e Eft.reset).run)))

/-- The code of an eft's state (07 R226). -/
def EftRun.code : EftRun → Nat
  | .stopped => 0 | .ready => 1 | .stalled => 2 | .waiting => 3 | .halted => 4

/-- Blocks whose interrupt request is routed to an eft as an interrupt (07 R249). -/
def Hw.irqPend (s : Hw) (e : Nat) : Nat :=
  ofBits ((List.range 23).filter (fun b =>
    s.rdB F.EFT_IRQROUTE_IEN b && s.rd F.EFT_IRQROUTE_EFT b = e && s.irq (bSYS + 0x10000 * b)))

/-- COPSTATs.PEND (08 R291). -/
def Hw.copPend (s : Hw) (k : Nat) : Nat :=
  (List.range 4).foldl (fun n e => n + (s.cop.queues.getD (8 * e + k) []).length * 16 ^ e) 0

/-- A watchdog of an enabled cell runs, whether or not the raster scans (12 R431). -/
def Hw.penWatching (s : Hw) : Bool := s.on 20 && s.pen.cells.any (·.latEn)

/-- The live fields of the PEN registers (12). -/
def Hw.penLive (s : Hw) (off : Nat) (w : Word) : Word :=
  if off = 0x40 then
    putFields w [(30, 24, (s.pen.cells.filter (·.latEn)).length), (15, 8, s.pen.cause), (3, 3, b2n s.penWatching),
      (2, 2, b2n (s.pen.cells.any (fun c => !c.ready))), (1, 1, b2n s.pennAlarm), (0, 0, b2n s.pen.modeLat)]
  else if off = 0x48 || off = 0x4C then
    BitVec.ofNat 32 (ofBits ((List.range 32).filter (fun k => (s.cell (8 * (off - 0x48) + k)).latEn)))
  else if off = 0x5C then
    setBits w 15 0 (satU 16 ((s.pen.cells.filter (·.latEn)).foldl (fun n c => max n (s.cellGap c)) 0))
  else if 0x300 ≤ off && off < 0x400 then
    let c := s.cell ((off - 0x300) / 4)
    if c.latEn || !c.latRefs.isEmpty then BitVec.ofNat 32 (s.cellRef c) else 0
  else if 0x400 ≤ off && off < 0x800 then
    BitVec.ofNat 32 ((s.cell ((off - 0x400) / 16)).lat.getD ((off - 0x400) / 4 % 4) 0)
  else w

/-- The live fields of the GPI registers (18). -/
def Hw.gpiLive (s : Hw) (off : Nat) (w : Word) : Word :=
  if 0x60 ≤ off && off < 0x6C then s.gpiIn ((off - 0x60) / 4)
  else if off = 0x80 then
    putFields w [(11, 8, ofBits ((List.range 4).filter (fun k => s.gpi.bad.getD k false))),
      (3, 0, ofBits ((List.range 4).filter (fun k => s.gpi.volt.getD k 0 = 1)))]
  else if 0x100 ≤ off && off < 0x280 then
    let n := (off - 0x100) / 4
    putFields w [(30, 28, s.owner n), (16, 16, b2n (s.fnActive n))]
  else if off = 0x608 || off = 0x688 then
    let t := s.uartAt ((off - 0x608) / 0x80)
    putFields w [(14, 8, t.tx.length), (6, 0, t.rx.length)]
  else if off = 0x610 || off = 0x690 then
    let t := s.uartAt ((off - 0x610) / 0x80)
    putFields w [(8, 8, b2n (!t.rx.isEmpty)), (7, 0, byteAt t.rx 0)]
  else w

/-- The live fields of the EFT registers (07, 08). -/
def Hw.eftLive (s : Hw) (off : Nat) (w : Word) : Word :=
  let eft := fun (i : Nat) => s.efts.toList.getD i Eft.reset
  if off = 0x58 then
    putFields w [(11, 8, s.eftsIn (· == .halted)), (3, 0, s.eftsIn (· != .stopped))]
  else if 0x60 ≤ off && off < 0x70 then
    let e := eft ((off - 0x60) / 4)
    putFields w [(5, 5, b2n e.sr.exl), (4, 4, b2n e.sr.mode), (2, 0, e.run.code)]
  else if 0x70 ≤ off && off < 0x80 then
    let e := eft ((off - 0x70) / 4)
    if e.run == .waiting then e.wmask else 0#32
  else if 0xC0 ≤ off && off < 0xD0 then setBits w 22 0 (s.irqPend ((off - 0xC0) / 4))
  else if 0x1A0 ≤ off && off < 0x1C0 then setBits w 15 0 (s.copPend ((off - 0x1A0) / 4))
  else w

/-- The word of a register with its live fields. -/
def Hw.liveWord (s : Hw) (a : Nat) : Word :=
  let w := s.reg a
  let off := a % 0x10000
  match (a - 0x04000000) / 0x10000 with
  | 0 =>
    let ons := fun (lo n : Nat) => ofBits ((List.range n).filter (fun k => s.on (lo + k)))
    if off = 0x48 then BitVec.ofNat 32 (ons 0 32)
    else if off = 0x4C then setBits w 17 0 (ons 32 18)
    else if off = 0x50 then setBits w 31 16 (ofBits ((List.range 16).filter (fun b => s.domState (4 + b) == .retain)))
    else w
  | 1 =>
    if off = 0x44 then
      match s.mtx.lock with
      | some l => putFields w [(31, 31, 1), (27, 24, l.master), (19, 16, l.target), (15, 0, satU 16 (s.cycle - l.since))]
      | none => putFields w [(31, 31, 0), (27, 24, 0), (19, 16, 0), (15, 0, 0)]
    else if off = 0x60 || off = 0x64 then
      BitVec.ofNat 32 ((List.range 8).foldl (fun n k => n + s.bankCode (2 * (off - 0x60) + k) * 16 ^ k) 0)
    else if 0x140 ≤ off && off < 0x170 then
      let m := (off - 0x140) / 4
      putFields w [(23, 16, (s.mtx.held.filter (fun r => (r.master : Nat) = m)).length), (11, 8, s.outCount m true),
        (3, 0, s.outCount m false)]
    else w
  | 3 => if off = 0x64 then putFields w [(12, 12, b2n s.noPhy), (9, 9, b2n s.shSeam), (8, 8, b2n s.shBad)] else w
  | 6 =>
    if 0x208 ≤ off && off < 0x240 && off % 16 = 8 then
      let g := (off - 0x208) / 16
      putFields w [(7, 7, b2n (s.flipReady g)), (4, 0, s.flipMembers g)]
    else w
  | 8 => s.penLive off w
  | 10 =>
    if off = 0x44 then
      putFields w [(31, 24, satU 8 (s.voc.voices.filter (fun p => p.1 < 240 && p.2.state ≠ 0)).length), (23, 16, s.poolPFree),
        (10, 0, s.poolFree)]
    else if 0x1000 ≤ off && off < 0x3000 && off % 32 = 16 then
      let v := s.voice ((off - 0x1000) / 32)
      putFields w [(31, 16, v.env), (11, 8, v.bufs.length), (6, 4, v.ended), (2, 0, v.state)]
    else if 0x1000 ≤ off && off < 0x3000 && off % 32 = 20 then
      setBits w 23 0 ((s.voice ((off - 0x1000) / 32)).pos / 65536)
    else w
  | 11 => if off = 0x40 then setBits w 7 0 (s.rd F.BRG_TIMING_LRXD) else w
  | 12 =>
    if 0x200 ≤ off && off < 0x400 && off % 0x80 = 0x1C then setBits w 23 20 (s.varRed ((off - 0x200) / 0x80)) else w
  | 13 => if off = 0x40 then setBits w 31 31 (b2n s.brg.lead) else w
  | 14 => s.gpiLive off w
  | 19 => s.eftLive off w
  | 21 => if off = 0x64 then Config.devId.setWidth 32 else if off = 0x68 then (Config.devId >>> 32).setWidth 32 else w
  | _ => w

/-! ## Reads (02 R29, R31, R33) -/

/-- The lower registers of the values wider than 32 bits (02 R31). -/
def wideLow : List Nat := [0x04160040, 0x04160048, 0x04160050, 0x040D0050, 0x04150064]

/-- The active-value view of a register (02 R33): the active values of its SH fields, the register's own of the others. -/
def Hw.viewWord (s : Hw) (a : Nat) : Word :=
  let w := s.actReg a
  (fieldsOf a).foldl (fun v f => if f.acc = Acc.sh then setBits v f.hi f.lo (getBits w f.hi f.lo) else v) (s.liveWord a)

/-- The fields of a register that read as something: a WO field reads 0. -/
def readMask (a : Nat) (w : Word) : Word :=
  (fieldsOf a).foldl (fun v f => if f.acc = Acc.wo then v else setBits v f.hi f.lo (getBits w f.hi f.lo)) 0#32

/-- A read of a register: its word, and what the read does. -/
def Hw.readReg (s : Hw) (a : Nat) : Hw × Word :=
  let off := a % 0x10000
  match blockOf a with
  | none => (s, 0#32)
  | some b =>
    if 0x8000 ≤ off then (s, if b.view then readMask (a - 0x8000) (s.viewWord (a - 0x8000)) else 0#32)
    else if a = bPEN + 4 then (s, 0#32)
    else if wideLow.contains a then
      let up := s.liveWord (a + 4)
      ({ s with wideRead := Store.put (fun _ => 0#32) s.wideRead a up }, readMask a (s.liveWord a))
    else if wideLow.contains (a - 4) then (s, readMask a (Store.get (fun _ => 0#32) s.wideRead (a - 4)))
    else (s, readMask a (s.liveWord a))

/-! ## Writes -/

/-- Flags set (07 R248). -/
def Hw.setFlags (s : Hw) (mask : Nat) : Hw := s.wr F.EFT_FLAGS_FLAGS (s.rd F.EFT_FLAGS_FLAGS ||| mask)

/-- A write of a block's COMMIT (02 R57, R712): `c.xfer` says that the cycle is the block's transfer cycle. -/
def Hw.commitWrite (s : Hw) (base : Nat) (v : Word) (c : Cyc) : Hw :=
  let arm := v.getLsbD 0
  let disarm := v.getLsbD 1
  let s := s.swWrite (base + 16) v c
  let s := if disarm then s.wr (commitArm base) 0 else s
  s.collide base none (c.xfer && (arm || disarm)) false

/-- A write of EVT (02 R41): bits that hardware sets in the same cycle stay, and count (02 R37); the levels of the UARTs set
theirs in every cycle (18 R644). -/
def Hw.evtWrite (s : Hw) (base : Nat) (v : Word) (set : Nat) : Hw :=
  let set := if base = bGPI then set ||| s.uartHeld else set
  let s := s.swWrite base v { Cyc.quiet with set := BitVec.ofNat 32 set }
  if set = 0 then s else s.raise base set

/-- A write of the upper register of a wide value (02 R31): it takes effect with the lower value last written. -/
def Hw.wideUpper (s : Hw) (low : Nat) (v : Word) : Hw :=
  let lo := match s.wideWrite.find? (fun p => p.1 = low) with
    | some p => p.2
    | none => s.reg low
  let s := { s with wideWrite := s.wideWrite.filter (fun p => p.1 ≠ low) }
  (s.swWrite low lo Cyc.quiet).swWrite (low + 4) v Cyc.quiet

/-- A write of the lower register of a wide value: held until the upper one is written. -/
def Hw.wideLower (s : Hw) (low : Nat) (v : Word) : Hw :=
  { s with wideWrite := (s.wideWrite.filter (fun p => p.1 ≠ low)) ++ [(low, v)] }

/-- Whether a block takes register writes from a master (05 R189, 06 R224, 09 R341, 12 R435, R437). -/
def Hw.blockTakes (s : Hw) (m blk : Nat) : Bool :=
  match blk with
  | 1 => m ≠ 9
  | 2 => m ≠ 9
  | 3 => s.timTakes m
  | 8 => false
  | _ => true

/-- A write of MBX_CTRL (04 R151): SEND is a GO field, RFREE frees the reply buffer. -/
def Hw.mbxCtrl (s : Hw) (v : Word) (c : Cyc) : Hw :=
  let s := s.swWrite 0x04140040 v c
  if v.getLsbD 1 then s.wr F.MBX_STAT_RFULL 0 else s

/-- A write to the mailbox request buffer (04 R151). -/
def Hw.mbxRequestWrite (s : Hw) (a : Nat) (v : Word) : Hw :=
  if s.rdB F.MBX_CTRL_SEND then s.raiseBit bMBX 3 else s.swWrite a v Cyc.quiet

/-- ANO_CTRL: STOP, then GO and LGO as GO fields. -/
def Hw.anoCtrl (s : Hw) (v : Word) : Hw :=
  let s := if v.getLsbD 8 then s.anoStop false else s
  let s := if v.getLsbD 0 then s.anoGo false else s
  if v.getLsbD 1 then s.anoLgo false else s

/-- VAR_SCTRLs. -/
def Hw.varCtrl (s : Hw) (k : Nat) (v : Word) : Hw :=
  let s := if v.getLsbD 2 && s.streamRuns k then s.streamEnd k 0 else s
  let s := if v.getLsbD 0 then s.streamStart k false else s
  if v.getLsbD 1 then s.swTrigger k else s

/-- A master's write of a register of its own behaviour, or of none, in a cycle in which hardware does `c` to it. -/
def Hw.regStore (s : Hw) (m a : Nat) (v : Word) (c : Cyc) : Hw :=
  let off := a % 0x10000
  let blk := (a - 0x04000000) / 0x10000
  match blockOf a with
  | none => s
  | some b =>
    if 0x8000 ≤ off || !s.blockTakes m blk || !s.on (regDomain a) then s
    else if off = 0 then s.evtWrite b.base v c.set.toNat
    else if off = 16 then (if b.shadowed then s.commitWrite b.base v c else s)
    else if wideLow.contains a then s.wideLower a v
    else if wideLow.contains (a - 4) then s.wideUpper (a - 4) v
    else match blk with
      | 2 =>
        let s := s.swWrite a v c
        if off = 0x8C then foldUp Hw.stormCheck 0 4 s else s
      | 3 =>
        if off = 0x40 then (if v.getLsbD 0 then s.timRun m else s.timHalt m) else s.swWrite a v c
      | 6 => if off = 0x90 then s.fenceSet v else s.swWrite a v c
      | 9 => if off = 0x40 then s.anoCtrl v else s.swWrite a v c
      | 10 => if 0x2E00 ≤ off && off < 0x3000 then s else s.swWrite a v c
      | 11 => if 0x400 ≤ off && off < 0x580 && off % 16 = 0 then s.meterWrite ((off - 0x400) / 16) v else s.swWrite a v c
      | 12 => if 0x200 ≤ off && off < 0x400 && off % 0x80 = 0x18 then s.varCtrl ((off - 0x200) / 0x80) v else s.swWrite a v c
      | 13 =>
        if off = 0x80 then s.breqWrite v
        else if off = 0x100 || off = 0x140 then (s.swWrite a v c).portEnable ((off - 0x100) / 0x40)
        else s.swWrite a v c
      | 14 =>
        if 0x40 ≤ off && off < 0x4C then (s.pinWordWrite F.GPI_OUT_OUT m ((off - 0x40) / 4) v).varGpio
        else if 0x50 ≤ off && off < 0x5C then (s.pinWordWrite F.GPI_OE_OE m ((off - 0x50) / 4) v).varGpio
        else if 0x100 ≤ off && off < 0x280 then (s.pinCfgWrite m ((off - 0x100) / 4) v).varGpio
        else if off = 0x400 || off = 0x480 then s.i2cGo ((off - 0x400) / 0x80) v none
        else if off = 0x60C || off = 0x68C then s.uartPush ((off - 0x60C) / 0x80) (BitVec.ofNat 8 v.toNat)
        else if off = 0x614 || off = 0x694 then s.uartPop ((off - 0x614) / 0x80) v
        else if off = 0x604 || off = 0x684 then (s.swWrite a v c).uartEvents ((off - 0x604) / 0x80) false
        else if 0x800 ≤ off && off < 0x880 && off % 16 = 0 then (s.swWrite a v c).pwmDrive ((off - 0x800) / 16)
        else s.swWrite a v c
      | 15 =>
        if off = 0x5C || off = 0x64 then s.canAck ((off - 0x5C) / 8) v
        else if off = 0x70 then s.canRequest v true false
        else if off = 0x74 then s.canAbort v
        else s.swWrite a v c
      | 16 =>
        if off = 0x44 then s.xspGo v none
        else if off = 0x5C then (if v.getLsbD 0 then s.xspDmaGo none else s)
        else s.swWrite a v c
      | 17 =>
        let s := s.swWrite a v c
        if off = 0x100 && !v.getLsbD 31 then s.camUnlock else s
      | 19 => if off = 0x44 then s.setFlags v.toNat else s.swWrite a v c
      | 20 =>
        if off = 0x40 then s.mbxCtrl v c
        else if 0x1000 ≤ off && off < 0x200C then s.mbxRequestWrite a v
        else s.swWrite a v c
      | _ => s.swWrite a v c

/-- A watermark whose threshold, hysteresis or recorded extreme was written is compared again with its level (02 R59, R60;
log 25). -/
def Hw.rewatch (s : Hw) (a : Nat) : Hw :=
  let again := fun (blk stat rec cfg evt : Nat) => s.watermark blk stat rec cfg evt (s.rd ⟨stat, 0, 15, 0⟩)
  if a = 0x04020078 || a = 0x04020080 then again bLDG 0x0402007C 0x04020080 0x04020078 8
  else if a = 0x04030080 || a = 0x04030088 then again bTIM 0x04030084 0x04030088 0x04030080 3
  else if a = 0x040A0048 || a = 0x040A0050 then again bVOC 0x040A004C 0x040A0050 0x040A0048 2
  else if a = 0x0415004C || a = 0x04150054 then again bNVS 0x04150050 0x04150054 0x0415004C 2
  else s

/-- A register write with everything that it does. -/
def Hw.regWrite (s : Hw) (m a : Nat) (v : Word) (c : Cyc) : Hw :=
  let t := s.regStore m a v c
  if s.on (regDomain a) then t.rewatch a else t

/-! ## Meanings -/

/-- The base of a block by its number. -/
def blockBase (n : Fin 23) : Nat := bSYS + 0x10000 * (n : Nat)

/-- WIDE_UPPER_WRITE: alarm 1 of TMR is the wide value that software writes. -/
def execWideUpperWrite (value : Word) (s : State) : Host.Outcome State Fault Refusal :=
  s.onHw fun h => h.wideUpper 0x04160050 value

/-- WIDE_LOWER_READ: the lower register of TMR_CNT, TMR_ALM0, TMR_ALM1, BRG_STIME or NVS_DEVID. -/
def execWideLowerRead (which : Fin 5) (s : State) : Host.Outcome State Fault Refusal :=
  s.onHw fun h =>
    let a := wideLow.getD which 0
    if h.on (regDomain a) then (h.readReg a).1 else h

/-- EVT_WRITE: `set` is what hardware sets in the same cycle. -/
def execEvtWrite (master : Fin 12) (block : Fin 23) (value set : Word) (s : State) : Host.Outcome State Fault Refusal :=
  s.byMaster master fun h => h.regWrite master (blockBase block) value { Cyc.quiet with set := set }

/-- EVTEN_WRITE. -/
def execEvtenWrite (master : Fin 12) (block : Fin 23) (value : Word) (s : State) : Host.Outcome State Fault Refusal :=
  s.byMaster master fun h => h.regWrite master (blockBase block + 4) value Cyc.quiet

/-- COMMIT_ARM: a write of COMMIT with ARM = 1 and a value of XFERS; `transfer`: in the block's transfer cycle. -/
def execCommitArm (master : Fin 12) (block : Fin 23) (xfers : BitVec 16) (transfer : Bool) (s : State) :
    Host.Outcome State Fault Refusal :=
  s.byMaster master fun h =>
    h.regWrite master (blockBase block + 16) (BitVec.ofNat 32 (xfers.toNat * 65536 + 1)) { Cyc.quiet with xfer := transfer }

/-- COMMIT_DISARM: a write of COMMIT with DISARM = 1, and ARM = 1 or not. -/
def execCommitDisarm (master : Fin 12) (block : Fin 23) (xfers : BitVec 16) (arm transfer : Bool) (s : State) :
    Host.Outcome State Fault Refusal :=
  s.byMaster master fun h =>
    h.regWrite master (blockBase block + 16) (BitVec.ofNat 32 (xfers.toNat * 65536 + 2 + b2n arm))
      { Cyc.quiet with xfer := transfer }

/-- REGISTER_WRITE: a master's write, with what hardware does to the register in the same cycle. -/
def execRegisterWrite (master : Fin 12) (addr : Nat) (value : Word) (cycle : Cyc) (s : State) :
    Host.Outcome State Fault Refusal :=
  s.byMaster master fun h => h.regWrite master addr value cycle

end Sys2Proof.Machine
end

