-- ==== Sys2Proof/Machine/Bus.lean ====
section
/-! DEFINITION. The bus matrix: presentation, holding, stalling and locking of requests, what a target does with an access,
responses (05 R168 to R187, R714), and the remote windows (17 R596 to R600). -/

namespace Sys2Proof.Machine

open Sys2Proof

/-! ## Requests -/

/-- The bytes that a request moves. -/
def reqLen (r : MReq) : Nat := if r.beats ≤ 1 then r.size else 16 * r.beats

/-- The target that a request goes to; T10 where its address is unmapped. -/
def reqTarget (r : MReq) : Nat := (targetOf r.addr).getD 10

/-- The ledger's consumer that a master's ID belongs to (06 R193). -/
def consumerOf (m id : Nat) : Option Nat :=
  match m with
  | 3 => some (1 + id)
  | 4 => some 7
  | 5 => some (if id = 0 then 8 else 9)
  | 7 => some 10
  | 8 => some 11
  | 9 => some 12
  | _ => none

/-- The classes (05 R166, R169). -/
inductive Class where
  | urgent | guaranteed | normal | low
  deriving DecidableEq, Repr

/-- The class of a request (05 R166, R170; 06 R204): a consumer without a reservation issues at NORMAL. -/
def Hw.classOf (s : Hw) (r : MReq) : Class :=
  if s.mtx.promoted.contains r then .guaranteed
  else match consumerOf r.master r.id with
    | some k => if s.actLu k = 0 then .normal else .guaranteed
    | none => if (r.master : Nat) = 6 || (r.master : Nat) = 11 then .low else .normal

/-- A locked sequence's granule on a target (05 R178). -/
def granuleOf (t a : Nat) : Option Nat := if t < 4 || t = 5 then some (a / 64) else none

/-- Whether another master's lock holds a request back (05 R179). -/
def Hw.lockHolds (s : Hw) (r : MReq) : Bool :=
  match s.mtx.lock with
  | none => false
  | some l =>
    if l.master = (r.master : Nat) || l.target ≠ reqTarget r then false
    else if 6 ≤ l.target then true
    else l.granule = granuleOf (reqTarget r) r.addr || s.classOf r == .normal || s.classOf r == .low

/-- The cases in which the matrix holds a request back (05 R175); `before` are the requests held in front of it. -/
def Hw.heldBack (s : Hw) (before : List MReq) (r : MReq) : Bool :=
  let same := fun (q : MReq) => q.master = r.master && q.id = r.id
  s.mtx.out.any (fun q => same q && reqTarget q ≠ reqTarget r)
    || before.any same
    || 8 ≤ s.outCount r.master r.write
    || (match s.mtx.lock with
        | some l => l.master = (r.master : Nat) && l.id ≠ r.id && l.target ≠ reqTarget r
        | none => false)
    || s.lockHolds r
    || s.mtx.stalled.any (fun q => same q.1)

/-! ## Locks (05 R178, R180, R714) -/

/-- The open lock is broken: the rest of its sequence, up to its UNLOCK, is answered with errors. -/
def Hw.breakLock (s : Hw) : Hw :=
  match s.mtx.lock with
  | some l => s.modMtx (fun m => { m with lock := none, broken := m.broken ++ [(l.master, l.id, l.target)] })
  | none => s

/-- A locked access that opens no lawful sequence: UNLOCK without an open lock of its own, or with LOCK. -/
def Hw.strayUnlock (s : Hw) (r : MReq) : Bool :=
  r.unlock && (r.lock || (match s.mtx.lock with
    | some l => l.master ≠ (r.master : Nat) || l.id ≠ r.id
    | none => true))

/-- The first decode error of a request (05 R182). -/
def Hw.decodeErr (s : Hw) (r : MReq) : Option DErr :=
  match s.decode r with
  | some .retired | some .domain | some .absent | none => if s.strayUnlock r then some .lock else s.decode r
  | e => e

/-- What a request that ends with a LOCK error does to the locks: an open lock of its master is broken; its own UNLOCK ends
the sequence's aftermath. -/
def Hw.lockError (s : Hw) (r : MReq) : Hw :=
  let mine := match s.mtx.lock with | some l => l.master = (r.master : Nat) && (l.id = r.id || r.lock) | none => false
  let s := if mine then s.breakLock else s
  if r.unlock then
    s.modMtx (fun m => { m with broken := m.broken.filter (fun b => !(b.1 = (r.master : Nat) && b.2.1 = r.id)) })
  else s

/-- What a request that reaches its target does to the locks: LOCK opens one, each access of the sequence counts, UNLOCK
closes it; an access with LOCK or to another target ends the aftermath of a broken one. -/
def Hw.lockTake (s : Hw) (r : MReq) : Hw :=
  let m := s.mtx
  let broken := m.broken.filter (fun b => !(b.1 = (r.master : Nat) && b.2.1 = r.id && (r.lock || b.2.2 ≠ reqTarget r)))
  let lock :=
    if r.lock then some ⟨(r.master : Nat), r.id, reqTarget r, granuleOf (reqTarget r) r.addr, 1, s.cycle⟩
    else match m.lock with
      | some l =>
        if l.master = (r.master : Nat) && l.id = r.id then (if r.unlock then none else some { l with count := l.count + 1 })
        else some l
      | none => none
  s.modMtx (fun m => { m with lock := lock, broken := broken })

/-! ## What a target does with an access -/

/-- A read or write performed (05 R168): the bytes of a read (none for a write); not ready where an xSPI line has not come.
The secret window shows its words to M1 alone (19 R674). -/
def Hw.perform (s : Hw) (r : MReq) : Hw × Option (List Byte) :=
  match targetOf r.addr with
  | some 6 =>
    if r.write then (s.regWrite r.master r.addr (BitVec.ofNat 32 (leNat r.data)) Cyc.quiet, some [])
    else if 0x04151000 ≤ r.addr && r.addr < 0x04152000 && (r.master : Nat) ≠ 1 then (s, some (zeros 4))
    else let p := s.readReg r.addr; (p.1, some (leBytes 4 p.2.toNat))
  | some 8 =>
    (List.range (max 1 r.beats)).foldl (fun (p : Hw × Option (List Byte)) i =>
      let q := p.1.xspRead (r.addr + 16 * i) (min 16 (reqLen r))
      (q.1, match p.2, q.2 with | some a, some b => some (a ++ b) | _, _ => none)) (s, some [])
  | _ =>
    let s := s.touchBank r.addr
    if r.write then (if readOnlyRam r.addr then s else s.setBytes r.addr (fitBytes (reqLen r) r.data), some [])
    else (s, some (s.bytes r.addr (reqLen r)))

/-! ## Responses (05 R168, R174) -/

/-- A window response packet to another node (17 R598). -/
def Hw.windowAnswer (s : Hw) (p : LPkt) (status kind : Nat) (data : List Byte) : Hw :=
  s.linkAnswer p.src p.tag p.kind
    ⟨5, p.src, s.nodeId, p.tag, 0, true, leBytes 1 status ++ leBytes 1 kind ++ data, true⟩

/-- A response returns to its master: its data, or an error response with the kind it has. Window requests that M9 serves
are answered to their node; efts take theirs up at once or as soon as they wait for them. -/
def Hw.respond (s : Hw) (r : MReq) (data : Option (List Byte)) (kind : Nat) : Hw :=
  let keep := fun (q : MResp) => q.master ≤ 1 || q.master ≠ (r.master : Nat) || q.id ≠ r.id
  let s := s.modMtx (fun m => { m with resp := m.resp.filter keep ++ [⟨r.master, r.id, r.addr, r.write, data⟩] })
  match s.brg.serving.find? (fun w => w.req = r) with
  | some w =>
    let s := s.modBrg (fun b => { b with serving := b.serving.erase w })
    match data with
    | some d => s.windowAnswer w.pkt 0 0 d
    | none => s.windowAnswer w.pkt 3 kind []
  | none => s

/-! ## Presentation (05 R175 to R186) -/

/-- The STALL_LIMIT of the STALL region that an address lies in (05 R183, R184); none in ERROR mode. -/
def Hw.stallRegion (s : Hw) (a : Nat) : Option Nat :=
  match (List.range 8).find? (fun k =>
      s.rdB F.MTX_DR_CTRL_EN k && s.rd F.MTX_DR_BASE_ADDR k ≤ a / 4096 && a / 4096 ≤ s.rd F.MTX_DR_LIMIT_ADDR k) with
  | some k => if s.rdB F.MTX_DR_CTRL_MODE k then some (s.rd F.MTX_DR_CTRL_STALL_LIMIT k) else none
  | none => none

/-- A window access goes out as a packet (17 R596, R598). -/
def Hw.windowSend (s : Hw) (r : MReq) : Hw :=
  let node := (r.addr - 0x08000000) / 0x100000
  let size := match r.size with | 1 => 0 | 2 => 1 | 4 => 2 | 8 => 3 | _ => 4
  let pay := leBytes 4 (r.addr % 0x100000) ++ leBytes 1 size ++ leBytes 1 (b2n r.lock + 2 * b2n r.unlock)
  let p : LPkt := ⟨if r.write then 4 else 3, node, s.nodeId, s.brg.tag, 0, true, if r.write then pay ++ r.data else pay, true⟩
  let s := s.modBrg (fun b => { b with tag := (b.tag + 1) % 256, wins := b.wins ++ [⟨r, p, false⟩] })
  s.linkRequest p

/-- A request reaches its target: its credit is spent (06 R206), a sleeping bank starts to wake (05 R165), a window access
leaves as a packet. -/
def Hw.toTarget (s : Hw) (r : MReq) : Hw :=
  let s := match consumerOf r.master r.id with | some k => s.useCredit k (max 1 r.beats) | none => s
  let s := (s.lockTake r).modMtx (fun m => { m with out := m.out ++ [r] })
  if reqTarget r = 7 then s.windowSend r else if reqTarget r < 4 then s.wakeBank (bankOf r.addr) else s

/-- How a request stands after its presentation: at its target, waiting at the port or the decoder, or ended with an
error. -/
inductive Stand where
  | target | waits | error (kind : Nat)
  deriving DecidableEq, Repr

/-- A request decoded (05 R182 to R184). -/
def Hw.present (s : Hw) (r : MReq) : Hw × Stand :=
  match s.decodeErr r with
  | none => (s.toTarget r, .target)
  | some k =>
    match (if k = .domain || k = .absent then s.stallRegion r.addr else none) with
    | some limit => (s.modMtx (fun m => { m with stalled := m.stalled ++ [(r, limit)] }), .waits)
    | none =>
      let s := if k = .lock then s.lockError r else s
      (s.logDecode r k, .error k.code)

/-- A master presents a request (05 R175): held back at its port, or decoded. -/
def Hw.request (s : Hw) (r : MReq) : Hw × Stand :=
  if s.heldBack s.mtx.held r then (s.modMtx (fun m => { m with held := m.held ++ [r] }), .waits) else s.present r

/-- A request leaves the targets. -/
def Hw.dropOut (s : Hw) (r : MReq) : Hw :=
  s.modMtx (fun m => { m with out := m.out.erase r, promoted := m.promoted.erase r })

/-- Whether the target's arbitration can grant a request now: responses of one master and ID come in order (05 R174), a
bank that wakes serves nothing (05 R165), a register-mode Anole request gives way to every other (05 R171). -/
def Hw.servable (s : Hw) (r : MReq) : Bool :=
  s.mtx.out.find? (fun q => q.master = r.master && q.id = r.id) = some r
    && reqTarget r ≠ 7
    && !(reqTarget r < 4 && (s.mtx.waking.contains (bankOf r.addr) || s.pwr.filling.contains (bankOf r.addr)))
    && !((r.master : Nat) = 6 && s.regRuns && !s.mtx.promoted.contains r
        && s.mtx.out.any (fun q => reqTarget q = reqTarget r && (q.master : Nat) ≠ 6))

/-- An uncorrectable error met by an access: it returns an error response. A write of 8 bytes or more replaces its granules
without reading them (05 R160). -/
def meetsUe (r : MReq) (e : Ecc) : Bool := (match e with | .double _ => true | _ => false) && !(r.write && 8 ≤ r.size)

/-- What a request finds in its granule: nothing outside work memory, and nothing where it reads none (05 R158). -/
def eccFound (r : MReq) (e : Ecc) : Ecc := if reqTarget r < 4 && !(r.write && 8 ≤ r.size) then e else .clean

/-- What the master of an access made at once sees. -/
inductive BusAns where
  | ok (data : List Byte) | err (kind : Nat) | wait
  deriving DecidableEq, Repr

/-- An access that is performed at once where nothing holds it, with what its granule shows: its response; `wait` where it
is held, stalled, behind an earlier one of its master and ID, on its way to a remote window, or waits for a bank or the
flash. -/
def Hw.access (s : Hw) (r : MReq) (e : Ecc) : Hw × BusAns :=
  let p := s.request r
  match p.2 with
  | .waits => (p.1, .wait)
  | .error k => (p.1, .err k)
  | .target =>
    if !p.1.servable r then (p.1, .wait)
    else
      let e := eccFound r e
      let s := p.1.eccMeet r.addr r.master e
      if meetsUe r e then ((s.touchBank r.addr).dropOut r, .err 0)
      else
        let q := s.perform r
        match q.2 with
        | some d => (q.1.dropOut r, .ok d)
        | none => (q.1, .wait)

/-! ## Steps of the matrix -/

/-- MATRIX_RESPONSE for the `i`-th outstanding request, with what its granule shows in work memory. -/
def Hw.serve (s : Hw) (i : Nat) (e : Ecc) : Hw :=
  match s.mtx.out[i]? with
  | none => s
  | some r =>
    if !s.servable r then s
    else
      let e := eccFound r e
      let s := s.eccMeet r.addr r.master e
      if meetsUe r e then ((s.touchBank r.addr).dropOut r).respond r none 0
      else
        let q := s.perform r
        match q.2 with
        | some d => (q.1.dropOut r).respond r (some d) 0
        | none => q.1

/-- A held request whose holding case has ended is presented (05 R175). -/
def Hw.presentHeld (s : Hw) (i : Nat) : Hw :=
  match s.mtx.held[i]? with
  | none => s
  | some r =>
    if s.heldBack (s.mtx.held.take i) r then s
    else
      let p := (s.modMtx (fun m => { m with held := m.held.eraseIdx i })).present r
      match p.2 with
      | .error k => p.1.respond r none k
      | _ => p.1

/-- A stalled request whose cause is gone goes to its target (05 R184). -/
def Hw.stallRelease (s : Hw) (i : Nat) : Hw :=
  match s.mtx.stalled[i]? with
  | none => s
  | some (r, _) =>
    match s.decodeErr r with
    | none => (s.modMtx (fun m => { m with stalled := m.stalled.eraseIdx i })).toTarget r
    | some _ => s

/-- A stalled request reaches its limit (05 R185). -/
def Hw.stallTimeout (s : Hw) (i : Nat) : Hw :=
  match s.mtx.stalled[i]? with
  | none => s
  | some (r, limit) =>
    if limit = 0 then s
    else
      let s := s.modMtx (fun m => { m with stalled := m.stalled.eraseIdx i })
      ((s.logDecode r .stallto).raiseBit bMTX 5).respond r none 6

/-- A NORMAL or LOW request that has waited 1,024 cycles is promoted for one grant (05 R170). -/
def Hw.promote (s : Hw) (i : Nat) : Hw :=
  match s.mtx.out[i]? with
  | none => s
  | some r =>
    if s.classOf r == .normal || s.classOf r == .low then s.modMtx (fun m => { m with promoted := m.promoted ++ [r] }) else s

/-- What a path-hold timeout leaves behind: event, notice and recovery record (05 R181, 04 R148). -/
def Hw.pathTimeout (s : Hw) (master target : Nat) : Hw :=
  ((s.raiseBit bMTX 3).notice 8 master target).recover 2 0xFF master target (max 256 (s.rd F.MTX_LOCKTO_LIMIT))
    (s.errAddrOfMaster master)

/-- The path-hold timer of a burst (the `i`-th outstanding request, of which the target has accepted `beats` beats) or of the
open lock runs out (05 R181). -/
def Hw.pathHold (s : Hw) (burst : Option Nat) (beats : Nat) : Hw :=
  match burst with
  | none =>
    match s.mtx.lock with
    | some l => s.breakLock.pathTimeout l.master l.target
    | none => s
  | some i =>
    match s.mtx.out[i]? with
    | none => s
    | some r =>
      if r.beats ≤ 1 then s
      else
        let s := if r.write then s.setBytes r.addr (r.data.take (16 * min beats r.beats)) else s
        let mine : Bool := match s.mtx.lock with | some l => l.master = (r.master : Nat) | none => false
        let s := if mine then s.breakLock else s
        (s.pathTimeout r.master (reqTarget r)).dropOut r |>.respond r none 0

/-- Everything of a master's that is held, stalled or outstanding ends with RELEASED; its lock is broken (05 R187). Answers
how many transactions ended and whether a lock was broken. -/
def Hw.releaseAll (s : Hw) (m : Nat) : Hw × Nat × Bool :=
  let mine := fun (r : MReq) => decide ((r.master : Nat) = m)
  let all := s.mtx.out.filter mine ++ (s.mtx.stalled.map (·.1)).filter mine ++ s.mtx.held.filter mine
  let lock := match s.mtx.lock with | some l => l.master = m | none => false
  let s := if lock then s.breakLock else s
  let s := s.modMtx (fun x => { x with
    out := x.out.filter (fun r => !mine r), held := x.held.filter (fun r => !mine r)
    stalled := x.stalled.filter (fun r => !mine r.1), promoted := x.promoted.filter (fun r => !mine r) })
  let s := s.modBrg (fun b => { b with
    wins := b.wins.filter (fun w => !mine w.req)
    waiting := b.waiting.filter (fun e => !(b.wins.any (fun w => mine w.req && w.pkt = e.1))) })
  let s := all.foldl (fun s r => (s.logDecode r .released).respond r none 7) s
  (s, min 255 all.length, lock)

/-- MATRIX_RELEASE of a master, by a command (recovery kind 1) or under 03 R69 (kind 10, with the domain). A release of M6
ends what Anole runs with kind 7 (13 R467, R469); while it is paused or holds in an FWAIT it has nothing outstanding. -/
def Hw.release (s : Hw) (m kind port sub : Nat) : Hw × Nat × Bool :=
  let addr := s.errAddrOfMaster m
  let p := s.releaseAll m
  let s := (((((p.1.wr F.MTX_RELLOG_VALID 1).wr F.MTX_RELLOG_LOCK (b2n p.2.2)).wr F.MTX_RELLOG_COUNT p.2.1).wr
    F.MTX_RELLOG_MASTER m).raiseBit bMTX 4)
  let s := s.recover kind port m (if kind = 1 then b2n p.2.2 else sub) p.2.1 (if kind = 1 then addr else 0)
  let s := if m = 6 && (s.listRuns || s.regRuns) && s.ano.hold.isNone && !s.rdB F.ANO_STAT_PAUSED
    then s.anoFail 7 (if s.listRuns then s.rd F.ANO_LPTR_ADDR * 16 else 0) else s
  (s, p.2)

/-! ## Bank retirement (05 R162, R163) -/

/-- The domain's state set. -/
def Hw.setDom (s : Hw) (d : Nat) (x : Dom) : Hw := { s with pwr := { s.pwr with dom := s.pwr.dom.set d x } }

/-- A bank retires. -/
def Hw.retire (s : Hw) (b port : Nat) : Hw :=
  if s.mtx.retired.contains b then s
  else
    let here := fun (r : MReq) => decide (r.addr < 0x01000000) && bankOf r.addr = b
    let ended := s.mtx.out.filter here
    let addr := s.errAddrOfBank b
    let s := s.modMtx (fun m => { m with
      retired := m.retired ++ [b], out := m.out.filter (fun r => !here r), promoted := m.promoted.filter (fun r => !here r)
      sleep := m.sleep.set b 0, waking := m.waking.filter (· ≠ b) })
    let s := ended.foldl (fun s r => s.respond r none 4) s
    let s := ((s.setDom (4 + b) .off).zeroMem (b * 0x100000) ((b + 1) * 0x100000)).modLdg (fun l => { l with
      wbq := l.wbq.map (fun q => q.filter (fun a => bankOf a ≠ b)) })
    let s := { s with pwr := { s.pwr with filling := s.pwr.filling.filter (· ≠ b) } }
    let s := s.marginEntry b
    let s := ((s.raiseBit bMTX 6).notice 7 b 0).recover 3 port b 0 (s.rd F.MTX_ECCCNT_UE b) addr
    s.soundRetired b

/-! ## Remote windows (17 R596 to R600) -/

/-- The base that WSEL shows; none where the window is closed. -/
def windowBase (wsel : Nat) : Option Nat :=
  if wsel < 16 then some (0x100000 * wsel)
  else match wsel with
    | 0x10 => some 0x02000000
    | 0x11 => some 0x04000000
    | 0x12 => some 0x04100000
    | 0x13 => some 0x01000000
    | _ => none

/-- A window request of another node (17 R595 to R599). -/
def Hw.windowServe (s : Hw) (p : LPkt) : Hw :=
  let write := p.kind = 4
  match s.linkAnswered p.src p.tag p.kind with
  | some a => s.linkSend a
  | none =>
    if s.brg.serving.any (fun w => w.pkt.src = p.src && w.pkt.tag = p.tag && w.pkt.kind = p.kind) then s
    else if 16 ≤ s.brg.serving.length then
      s.linkSend ⟨5, p.src, s.nodeId, p.tag, 0, true, [4#8, 0#8], true⟩
    else
      let win := s.policyByte 2 % 4
      match (if win = 0 then none else windowBase (s.policyByte 3)) with
      | none => s.windowAnswer p 1 0 []
      | some base =>
        if write && (win = 1 || s.policyByte 3 = 0x13) then s.windowAnswer p 2 0 []
        else
          let size := 2 ^ min 4 (byteAt p.payload 4)
          let r : MReq := ⟨9, p.src % 4, base + fieldAt p.payload 0 4 % 0x100000, write, size, 1,
            if write then fitBytes size (p.payload.drop 6) else [], bit (byteAt p.payload 5) 0, bit (byteAt p.payload 5) 1⟩
          let q := s.access r .clean
          match q.2 with
          | .ok d => q.1.windowAnswer p 0 0 d
          | .err k => q.1.windowAnswer p 3 k []
          | .wait => q.1.modBrg (fun b => { b with serving := b.serving ++ [⟨p, r⟩] })

/-- A window access of this node ends: it leaves the target, and its packet is sent no more. -/
def Hw.windowEnd (s : Hw) (w : WinAcc) : Hw :=
  ((s.modBrg (fun b => { b with wins := b.wins.erase w })).linkDone [3, 4] w.pkt.dst w.pkt.tag).dropOut w.req

/-- A window access ends with an error response (17 R600). -/
def Hw.windowFail (s : Hw) (w : WinAcc) (status kind : Nat) : Hw :=
  let s := (((s.wr F.BRG_WERR_VALID 1).wr F.BRG_WERR_STATUS status).wr F.BRG_WERR_RKIND kind).wr F.BRG_WERR_NODE w.pkt.dst
  ((s.raiseBit bBRG 10).windowEnd w).respond w.req none kind

/-- A window response. -/
def Hw.windowResponse (s : Hw) (p : LPkt) : Hw :=
  match s.brg.wins.find? (fun w => w.pkt.dst = p.src && w.pkt.tag = p.tag) with
  | none => s.inc F.BRG_WCNT_LATE
  | some w =>
    match byteAt p.payload 0 with
    | 0 => (s.windowEnd w).respond w.req (some (if w.req.write then [] else fitBytes w.req.size (p.payload.drop 2))) 0
    | 4 => (s.linkDone [3, 4] w.pkt.dst w.pkt.tag).modBrg (fun b => { b with
        wins := b.wins.map (fun x => if x = w then { x with busy := true } else x) })
    | st => s.windowFail w st (byteAt p.payload 1)

/-- A window access of this node, by node and tag. -/
def Hw.window (s : Hw) (node tag : Nat) : Option WinAcc := s.brg.wins.find? (fun w => w.pkt.dst = node && w.pkt.tag = tag)

/-- 20 µs after a BUSY answer the request is sent again. -/
def Hw.busyRetry (s : Hw) (node tag : Nat) : Hw :=
  match s.window node tag with
  | some w =>
    if w.busy then
      let s := s.modBrg (fun b => { b with wins := b.wins.map (fun x => if x = w then { x with busy := false } else x) })
      (s.linkRequest w.pkt).inc F.BRG_WCNT_RETRY
    else s
  | none => s

/-- TIMEOUT µs after its first sending a window access ends. -/
def Hw.windowTimeout (s : Hw) (node tag : Nat) : Hw :=
  match s.window node tag with
  | some w => if s.rd F.BRG_WCFG_TIMEOUT = 0 then s else s.windowFail w 5 0
  | none => s

end Sys2Proof.Machine
end

