-- ==== Sys2Proof/Machine/Flags.lean ====
section
/-! DEFINITION. The data arithmetic of the efts and its flags (07 R229, R234): every flag computation and every ACC
operation, shared by A-mode and T-mode. -/

namespace Sys2Proof.Machine

open Sys2Proof

/-- A result with the flags it may set. -/
structure AluOut where
  value : Word
  n : Bool
  z : Bool
  c : Bool
  v : Bool
  deriving DecidableEq, Repr

/-- N and Z of a result. -/
def aluNZ (r : Word) (c v : Bool) : AluOut := ⟨r, r.msb, r == 0#32, c, v⟩

/-- Addition with a carry in: C is the carry out, V the signed overflow (07 R234). -/
def aluAdd (x y : Word) (cin : Bool) : AluOut :=
  let t := x.toNat + y.toNat + b2n cin
  let i := x.toInt + y.toInt + (b2n cin : Nat)
  let r := BitVec.ofNat 32 t
  aluNZ r (decide (2 ^ 32 ≤ t)) (decide (r.toInt ≠ i))

/-- Subtraction with a borrow in: C is the borrow, 1 when the unsigned subtrahend (with the borrow) exceeds the minuend
(07 R234). -/
def aluSub (x y : Word) (bin : Bool) : AluOut :=
  let i := x.toInt - y.toInt - (b2n bin : Nat)
  let r := x - y - BitVec.ofNat 32 (b2n bin)
  aluNZ r (decide (x.toNat < y.toNat + b2n bin)) (decide (r.toInt ≠ i))

/-- Logic: N and Z of the result, C and V cleared. -/
def aluLogic (r : Word) : AluOut := aluNZ r false false

/-- The kinds of shift, in the order of SHI's codes (07 R234). -/
inductive ShiftKind where
  | shl | shr | sar | ror
  deriving DecidableEq, Repr

/-- A shift by 0..31: C is the last bit out (for a rotate bit 31 of the result), 0 for a count of 0; V is 0
(07 R234). -/
def aluShift (k : ShiftKind) (x : Word) (n : Nat) : AluOut :=
  let n := n % 32
  match k with
  | .shl => aluNZ (x <<< n) (n != 0 && bit x.toNat (32 - n)) false
  | .shr => aluNZ (x >>> n) (n != 0 && bit x.toNat (n - 1)) false
  | .sar => aluNZ (x.sshiftRight n) (n != 0 && bit x.toNat (n - 1)) false
  | .ror => let r := x.rotateRight n
            aluNZ r (n != 0 && r.msb) false

/-- All four flags from the result. -/
def SR.nzcv (f : SR) (o : AluOut) : SR := { f with n := o.n, z := o.z, c := o.c, v := o.v }

/-- N and Z from the result, C and V as they were. -/
def SR.nz (f : SR) (o : AluOut) : SR := { f with n := o.n, z := o.z }

/-- The signed minimum and maximum. -/
def sMin (x y : Word) : Word := if x.toInt ≤ y.toInt then x else y
def sMax (x y : Word) : Word := if x.toInt ≤ y.toInt then y else x

/-- The number of leading zeros, 0..32 (CLZ). -/
def clz (x : Word) : Nat := ((List.range 32).takeWhile (fun i => !bit x.toNat (31 - i))).length

/-! ## Accumulators: 48 bits, with sat48 (07 R234) -/

/-- An accumulator's value. -/
def accInt (x : BitVec 48) : Int := x.toInt

/-- sat48: the clamped value, and whether it was clamped. -/
def sat48 (i : Int) : BitVec 48 × Bool :=
  let c := satS 48 i
  (BitVec.ofInt 48 c, decide (c ≠ i))

/-- The halfword product sext(x[15:0]) × sext(y[15:0]). -/
def mulH (x y : Word) : Int := sx 16 x.toNat * sx 16 y.toNat

/-- The Q16.16 product (x × y) >> 16, signed 64-bit, arithmetic shift. -/
def mulW (x y : Word) : Int := sarI (x.toInt * y.toInt) 16

/-- SHA.ACC: a signed shift of an accumulator, k in −32..31. -/
def shaAcc (x : BitVec 48) (k : Int) : BitVec 48 × Bool :=
  if 0 ≤ k then sat48 (accInt x * (2 ^ k.toNat : Nat))
  else (BitVec.ofInt 48 (sarI (accInt x) (-k).toNat), false)

/-- RD.ACC: sat32(acc >> k) and whether it was clamped. -/
def rdAcc (x : BitVec 48) (k : Nat) : Word × Bool :=
  let i := sarI (accInt x) k
  let c := satS 32 i
  (BitVec.ofInt 32 c, decide (c ≠ i))

/-- WR.ACC: sext48(d) << k, for k in 0..16. -/
def wrAcc (x : Word) (k : Nat) : BitVec 48 := BitVec.ofInt 48 (x.toInt * (2 ^ k : Nat))

/-- Whether a condition code of Bcc holds (07 R234); code 15 is reserved and never reaches here. -/
def condHolds (f : SR) (cc : Nat) : Bool :=
  match cc with
  | 0 => f.z
  | 1 => !f.z
  | 2 => f.c
  | 3 => !f.c
  | 4 => f.n
  | 5 => !f.n
  | 6 => f.v
  | 7 => !f.v
  | 8 => !f.c && !f.z
  | 9 => f.c || f.z
  | 10 => f.n == f.v
  | 11 => f.n != f.v
  | 12 => !f.z && f.n == f.v
  | 13 => f.z || f.n != f.v
  | 14 => true
  | _ => false

/-! ## SR as a word (07 R229) -/

/-- SR of eft `e` as MFSR reads it. -/
def SR.word (f : SR) (e : Nat) : Word :=
  BitVec.ofNat 32 (b2n f.c + 2 * b2n f.v + 4 * b2n f.z + 8 * b2n f.n + 16 * b2n f.av0 + 32 * b2n f.av1
    + 256 * b2n f.ie + 512 * b2n f.exl + 4096 * b2n f.mode + 65536 * e)

/-- MTSR: C, V, Z, N, AV0, AV1 and IE take the written word's bits; the rest stays. -/
def SR.write (f : SR) (w : Word) : SR :=
  { f with c := w.getLsbD 0, v := w.getLsbD 1, z := w.getLsbD 2, n := w.getLsbD 3, av0 := w.getLsbD 4,
           av1 := w.getLsbD 5, ie := w.getLsbD 8 }

/-- RTE: SR from ESR, apart from EFT and BD (07 R262). -/
def SR.ofEsr (w : Word) : SR :=
  ⟨w.getLsbD 0, w.getLsbD 1, w.getLsbD 2, w.getLsbD 3, w.getLsbD 4, w.getLsbD 5, w.getLsbD 8, w.getLsbD 9,
    w.getLsbD 12⟩

/-- AVn set if a clamp happened (07 R234). -/
def SR.av (f : SR) (n : Fin 2) (clamped : Bool) : SR :=
  if clamped then (if n = 0 then { f with av0 := true } else { f with av1 := true }) else f

end Sys2Proof.Machine
end

