-- ==== Sys2Proof/Machine/EftCore.lean ====
section
/-! DEFINITION. How an eft executes one instruction: its memory accesses through the local RAM, the caches and the matrix
(07 R263 to R270), fetches (07 R241, R243), exception entry (07 R256 to R261), issue and the delay slots (07 R235 to R240),
and the event flags (07 R245 to R255). -/

namespace Sys2Proof.Machine

open Sys2Proof

/-- Eft `e`. -/
def Hw.eft (s : Hw) (e : Fin 4) : Eft := s.efts[e]

/-- Eft `e` set. -/
def Hw.setEft (s : Hw) (e : Fin 4) (t : Eft) : Hw := { s with efts := s.efts.set e t }

/-- Eft `e` changed. -/
def Hw.modEft (s : Hw) (e : Fin 4) (f : Eft → Eft) : Hw := s.setEft e (f (s.eft e))

/-- A D register written. -/
def Eft.putD (t : Eft) (r : Fin 8) (v : Word) : Eft := { t with d := t.d.set r v }

/-- An A register written. -/
def Eft.putA (t : Eft) (r : Fin 8) (v : Word) : Eft := { t with a := t.a.set r v }

/-- An accumulator written, AVn set where it clamped. -/
def Eft.putAcc (t : Eft) (n : Fin 2) (o : BitVec 48 × Bool) : Eft :=
  { t with acc := t.acc.set n o.1, sr := t.sr.av n o.2 }

/-! ## Caches (07 R265, R266) -/

/-- The local RAM byte an address names for eft `e`, as a key of memory: eft k's RAM lies at 0xE0010000 + 0x4000 k
(07 R263). -/
def lramKey (e : Nat) (a : Nat) : Option Nat :=
  if 0xE0000000 ≤ a && a < 0xE0004000 then some (0xE0010000 + 0x4000 * e + (a - 0xE0000000))
  else if 0xE0010000 ≤ a && a < 0xE0020000 then some a
  else none

/-- An address of work memory in an enabled uncached region (07 R266). -/
def Hw.uncached (s : Hw) (a : Nat) : Bool :=
  (List.range 2).any (fun k =>
    s.rdB F.EFT_UNC_BASE_EN k && decide (s.rd F.EFT_UNC_BASE_ADDR k * 4096 ≤ a)
      && decide (a < (s.rd F.EFT_UNC_LIMIT_ADDR k + 1) * 4096))

/-- Whether an address is cacheable for data (07 R266). A granule that a lock of the eft covers is not (07 R270). -/
def Hw.cacheable (s : Hw) (e a : Nat) (write : Bool) : Bool :=
  if s.lockCovers 1 e a then false
  else if a < 0x01000000 then !s.uncached a
  else if 0x10000000 ≤ a && a < 0x20000000 then !write
  else false

/-- The address of the line that an address lies in, and the set it falls in: 128 sets of 32-byte lines. -/
def lineOf (a : Nat) : Nat := a / 32 * 32
def setOf (a : Nat) : Nat := a / 32 % 128

/-- The way a pseudo-LRU tree of three bits names as victim: bit 0 the half, bits 1 and 2 the way in each half. -/
def plruVictim (b : Nat) : Nat := if bit b 0 then (if bit b 2 then 3 else 2) else (if bit b 1 then 1 else 0)

/-- The tree bits after a use of a way: they point away from it. -/
def plruUse (b w : Nat) : Nat :=
  match w with
  | 0 => (b ||| 3)
  | 1 => (b ||| 1) - (if bit b 1 then 2 else 0)
  | 2 => (b ||| 4) - (if bit b 0 then 1 else 0)
  | _ => b - (if bit b 0 then 1 else 0) - (if bit b 2 then 4 else 0)

/-- The place, set × 4 + way, that a new line takes: a free way of its set, else the victim. -/
def placeFor {α : Type} (lines : List (Nat × α)) (lru : List (Nat × Nat)) (a : Nat) : Nat :=
  let st := setOf a
  let free := (List.range 4).find? (fun w => !(lines.any (fun p => p.1 == st * 4 + w)))
  st * 4 + free.getD (plruVictim (Store.get (fun _ => 0) lru st))

/-- The tree bits after a use of the line at place `i`. -/
def lruTouch (lru : List (Nat × Nat)) (i : Nat) : List (Nat × Nat) :=
  Store.put (fun _ => 0) lru (i / 4) (plruUse (Store.get (fun _ => 0) lru (i / 4)) (i % 4))

/-- The valid data line of an address: its place and the line. -/
def Caches.find (c : Caches) (a : Nat) : Option (Nat × DLine) :=
  c.dlines.find? (fun p => p.1 / 4 == setOf a && p.2.base == lineOf a)

/-- The place of the valid instruction line of an address. -/
def Caches.findI (c : Caches) (a : Nat) : Option Nat :=
  (c.ilines.find? (fun p => p.1 / 4 == setOf a && p.2 == lineOf a)).map (·.1)

/-- The data line at place `i` set. -/
def Caches.put (c : Caches) (i : Nat) (l : DLine) : Caches :=
  { c with dlines := (c.dlines.filter (fun p => p.1 != i)) ++ [(i, l)] }

/-- The data line at place `i` made invalid. -/
def Caches.kill (c : Caches) (i : Nat) : Caches := { c with dlines := c.dlines.filter (fun p => p.1 != i) }

/-- The instruction line of an address made valid, and used. -/
def Caches.putI (c : Caches) (a : Nat) : Caches :=
  let i := (c.findI a).getD (placeFor c.ilines c.ilru a)
  { c with ilines := (c.ilines.filter (fun p => p.1 != i)) ++ [(i, lineOf a)], ilru := lruTouch c.ilru i }

/-! ## Accesses on M0 and M1 -/

/-- An access of eft `e`: where its answer does not come at once, the eft keeps what it is for. -/
def Hw.eftAccess (s : Hw) (e : Fin 4) (use : EftUse) (r : MReq) (ecc : Ecc) : Hw × BusAns :=
  let p := s.access r ecc
  match p.2 with
  | .wait => (p.1.modEft e (fun t => { t with out := t.out ++ [(use, r.addr)] }), .wait)
  | _ => p

/-- A dirty line written back on M1 as a two-beat burst (07 R265); a clean one is left. An error response loses the data. -/
def Hw.cleanLine (s : Hw) (e : Fin 4) (i : Nat) (l : DLine) : Hw :=
  if l.dirty then
    let s := (s.eftAccess e .clean (writeReq 1 e l.base l.data) .clean).1
    { s with caches := s.caches.put i { l with dirty := false } }
  else s

/-- The line that an address's line is to replace is written back and made invalid. -/
def Hw.evict (s : Hw) (e : Fin 4) (a : Nat) : Hw :=
  let i := placeFor s.caches.dlines s.caches.dlru a
  match s.caches.dlines.find? (fun p => p.1 == i) with
  | some (_, l) =>
    let s := s.cleanLine e i l
    { s with caches := s.caches.kill i }
  | none => s

/-- A line filled: it becomes valid and clean, unless another fill was first. -/
def Hw.install (s : Hw) (e : Fin 4) (a : Nat) (data : List Byte) : Hw :=
  match s.caches.find a with
  | some _ => s
  | none =>
    let s := s.evict e a
    let i := placeFor s.caches.dlines s.caches.dlru a
    { s with caches := { s.caches.put i ⟨lineOf a, fitBytes 32 data, false⟩ with dlru := lruTouch s.caches.dlru i } }

/-- A line brought into the data cache. -/
inductive LineAns where
  | line (i : Nat) (l : DLine) | bad | wait
  deriving DecidableEq, Repr

/-- The line of an address for eft `e`: a hit, or a fill after the victim was written back (07 R265). -/
def Hw.fillLine (s : Hw) (e : Fin 4) (a : Nat) (ecc : Ecc) : Hw × LineAns :=
  match s.caches.find a with
  | some (i, l) => ({ s with caches := { s.caches with dlru := lruTouch s.caches.dlru i } }, .line i l)
  | none =>
    if (s.eft e).out.contains (.fill, lineOf a) then (s, .wait)
    else
      let p := (s.evict e a).eftAccess e .fill (readReq 1 e (lineOf a) 32) ecc
      match p.2 with
      | .wait => (p.1, .wait)
      | .err _ => (p.1, .bad)
      | .ok d =>
        let s := p.1.install e a d
        match s.caches.find a with
        | some (i, l) => (s, .line i l)
        | none => (s, .bad)

/-- A load's register value from the bytes it read. -/
def loadWord (signed : Bool) (k : Nat) (n : Nat) : Word := if signed then BitVec.ofInt 32 (sx (8 * k) n) else BitVec.ofNat 32 n

/-! ## Answers that came late -/

/-- A value for the oldest load that waits for the data of `a` (by line where it is a fill): `f` gives its data. -/
def Eft.giveLoad (t : Eft) (fill : Bool) (a : Nat) (f : PendLoad → LoadVal) : Eft :=
  let hit := fun (l : PendLoad) => l.value == .wait && l.fill == fill && (if fill then lineOf l.addr == a else l.addr == a)
  let give := fun (l : PendLoad) => { l with value := f l }
  match t.late, t.pend with
  | some l, p =>
    if hit l then { t with late := some (give l), pend := if fill then p.map (fun q => if hit q then give q else q) else p }
    else { t with pend := p.map (fun q => if hit q then give q else q) }
  | none, some q => if hit q then { t with pend := some (give q) } else t
  | none, none => t

/-- The number that a load of `l` finds in the bytes of its line or access. -/
def PendLoad.take (l : PendLoad) (d : List Byte) : LoadVal :=
  .got (loadWord l.signed l.size (fieldAt d (if l.fill then l.addr % 32 else 0) l.size))

/-- An answer to a request of eft `e` taken up. -/
def Hw.answered (s : Hw) (e : Fin 4) (use : EftUse) (a : Nat) (data : Option (List Byte)) : Hw :=
  match use, data with
  | .clean, _ => s
  | .lost _ _, _ => s
  | .store, some _ => s
  | .store, none => s.modEft e (fun t => { t with storeErrs := t.storeErrs ++ [BitVec.ofNat 32 a] })
  | .fill, some d => (s.install e a d).modEft e (fun t => t.giveLoad true a (fun l => l.take d))
  | .fill, none =>
    s.modEft e (fun t => { t.giveLoad true a (fun _ => .bad) with fillBad := some a })
  | .load, some d => s.modEft e (fun t => t.giveLoad false a (fun l => l.take d))
  | .load, none => s.modEft e (fun t => t.giveLoad false a (fun _ => .bad))
  | .word, d => s.modEft e (fun t => { t with wordData := some (a, d) })
  | .fetch, some _ => { s with caches := s.caches.putI a }
  | .fetch, none => s.modEft e (fun t => { t with fetchBad := some a })

/-- A request is a fetch, on M0; it is a write. -/
def EftUse.isFetch (u : EftUse) : Bool := match u with | .fetch => true | .lost f _ => f | _ => false
def EftUse.isWrite (u : EftUse) : Bool := match u with | .store => true | .clean => true | .lost _ w => w | _ => false

/-- Whether a response answers a request of eft `e`. -/
def answers (e : Fin 4) (q : EftUse × Nat) (r : MResp) : Bool :=
  r.master = (if q.1.isFetch then 0 else 1) && r.id = (e : Nat) && r.addr = q.2 && r.write = q.1.isWrite

/-- The responses to eft `e`'s requests that have come, taken up in order. -/
def Hw.takeUp (s : Hw) (e : Fin 4) : Hw :=
  (s.eft e).out.foldl (fun s q =>
    match s.mtx.resp.find? (answers e q) with
    | some r => ((s.modMtx (fun m => { m with resp := m.resp.erase r })).modEft e (fun t =>
        { t with out := t.out.erase q })).answered e q.1 q.2 r.data
    | none => s) s

/-! ## Data accesses -/

/-- The local RAM's check bits (07 R264): true where the word is uncorrectable. -/
def Hw.lramEcc (s : Hw) (e : Ecc) : Hw × Bool :=
  match e with
  | .clean => (s, false)
  | .single _ => (s.inc F.EFT_LRAMERR_CE, false)
  | .double _ => (s.inc F.EFT_LRAMERR_UE, true)

/-- How a data read stands. -/
inductive ReadAns where
  | got (n : Nat) | bad | wait (fill : Bool)
  deriving DecidableEq, Repr

/-- A data read of `k` bytes by eft `e`; `use` says how a late answer is kept, `lock` opens a locked sequence. -/
def Hw.eftRead (s : Hw) (e : Fin 4) (use : EftUse) (a k : Nat) (lock : Bool) (ecc : Ecc) : Hw × ReadAns :=
  match lramKey e a with
  | some key =>
    let p := s.lramEcc ecc
    (p.1, if p.2 then .bad else .got (s.mem32 key k))
  | none =>
    if !lock && s.cacheable e a false then
      let p := s.fillLine e a ecc
      match p.2 with
      | .line _ l => (p.1, .got (fieldAt l.data (a % 32) k))
      | .bad => (p.1, .bad)
      | .wait => (p.1, .wait true)
    else
      let p := s.eftAccess e use { readReq 1 e a k with lock := lock } ecc
      match p.2 with
      | .ok d => (p.1, .got (leNat d))
      | .err _ => (p.1, .bad)
      | .wait => (p.1, .wait false)

/-- How a store stands: done or posted, not begun for want of its line or of room in the store buffer, an uncorrectable
local RAM error. -/
inductive StoreAns where
  | done | wait (why : Stall) | bad
  deriving DecidableEq, Repr

/-- Stores of an eft without an answer (07 R269). -/
def Eft.posted (t : Eft) : Nat := (t.out.filter (fun q => q.1 == .store)).length

/-- A store whose error is to be reported (07 R260). -/
def Eft.storeErr (t : Eft) (a : Nat) : Eft := { t with storeErrs := t.storeErrs ++ [BitVec.ofNat 32 a] }

/-- A store of the low `k` bytes of `v` by eft `e`; `unlock` closes a locked sequence. -/
def Hw.eftWrite (s : Hw) (e : Fin 4) (a k v : Nat) (unlock : Bool) (ecc : Ecc) : Hw × StoreAns :=
  match lramKey e a with
  | some key =>
    let p := if k < 4 then s.lramEcc ecc else (s, false)
    if p.2 then (p.1, .bad) else (p.1.setBytes key (leBytes k v), .done)
  | none =>
    if !unlock && s.cacheable e a true then
      if (s.eft e).fillBad = some (lineOf a) then
        (s.modEft e (fun t => { t.storeErr a with fillBad := none }), .done)
      else
        let p := s.fillLine e a ecc
        match p.2 with
        | .wait => (p.1, .wait .data)
        | .bad => (p.1.modEft e (fun t => t.storeErr a), .done)
        | .line i l =>
          let d := l.data.take (a % 32) ++ leBytes k v ++ l.data.drop (a % 32 + k)
          ({ p.1 with caches := p.1.caches.put i ⟨l.base, d, true⟩ }, .done)
    else if 4 ≤ (s.eft e).posted then (s, .wait .buffer)
    else
      let p := s.eftAccess e .store { writeReq 1 e a (leBytes k v) with unlock := unlock } ecc
      match p.2 with
      | .err _ => (p.1.modEft e (fun t => t.storeErr a), .done)
      | _ => (p.1, .done)

/-- Whether earlier stores or cache operations of an eft have no answer yet (07 R245). -/
def Eft.draining (t : Eft) : Bool := t.out.any (fun q => q.1 == .store || q.1 == .clean)

/-! ## Exceptions -/

/-- An exception (07 R256): vector, EPC, and EFA where the table gives one. -/
structure Exc where
  v : Nat
  epc : Word
  efa : Option Word
  deriving DecidableEq, Repr

/-- The vector word of vector `v` (07 R256). -/
def Hw.vector (s : Hw) (v : Nat) : Nat := s.mem32 (s.rd F.EFT_VBAR_BASE * 64 + 4 * v)

/-- A value landed where a T-mode result goes. -/
def Eft.land (t : Eft) (f : Fly) : Eft :=
  match f.dest with
  | .acc n => { t with acc := t.acc.set n f.value }
  | .lsu false => { t with bank0 := { t.bank0 with lsuR := f.value.setWidth 32 } }
  | .lsu true => { t with bank1 := { t.bank1 with lsuR := f.value.setWidth 32 } }

/-- A T-mode word ends: the results in flight are one word nearer, and those due are in place before the next word
(08 R279 to R281). -/
def Eft.nextWord (t : Eft) : Eft :=
  let due := t.fly.filter (fun f => f.age ≤ 1)
  { due.foldl Eft.land t with fly := (t.fly.filter (fun f => 1 < f.age)).map (fun f => { f with age := f.age - 1 }) }

/-- Every result in flight becomes visible, in trigger order (08 R287, R289). -/
def Eft.landAll (t : Eft) : Eft := { t.fly.foldl Eft.land t with fly := [] }

/-- Exception entry (07 R259), in one cycle: ESR takes SR, with BD if the instruction stood in a branch delay slot; EPC and
EFA as R256 lays down; EBT where execution would have gone on after the slot; EXL set and IE cleared; the mode and the pc
from the vector word. The load before it has completed already. -/
def Hw.enterExc (s : Hw) (e : Fin 4) (t : Eft) (x : Exc) : Hw :=
  let w := s.vector x.v
  let t := t.landAll
  let sr := t.sr.word e
  let ebt := match t.slot with
    | some sl => sl.target
    | none => t.pc + 4#32
  s.setEft e { t with
    run := .ready
    esr := if t.slot.isSome then sr ||| 0x400#32 else sr
    epc := x.epc
    efa := x.efa.getD t.efa
    ebt := ebt
    sr := { t.sr with exl := true, ie := false, mode := bit w 0 }
    pc := BitVec.ofNat 32 (w / 4 * 4)
    pend := none
    slot := none
    wmask := 0#32 }

/-- A double fault (07 R261): the eft is HALTED, EFT_EVT.DFAULT sets, and a recovery record (kind 4) holds the eft number,
EPC and the vector number. -/
def Hw.doubleFault (s : Hw) (e : Fin 4) (t : Eft) (x : Exc) : Hw :=
  ((s.setEft e { t with run := .halted }).raiseBit bEFT 2).recover 4 0xFF e x.v x.epc.toNat (x.efa.getD 0#32).toNat

/-- A synchronous exception: a double fault while SR.EXL is 1, entry otherwise (07 R259, R261). -/
def Hw.syncExc (s : Hw) (e : Fin 4) (t : Eft) (x : Exc) : Hw :=
  if t.sr.exl then s.doubleFault e t x else s.enterExc e t x

/-! ## Fetch (07 R241, R243, R265) -/

/-- An address that can be executed: work memory or the xSPI window. -/
def executable (a : Nat) : Bool := a < 0x01000000 || (0x10000000 ≤ a && a < 0x20000000)

/-- The mode of the page of an address: true for T-mode. -/
def Hw.pageMode (s : Hw) (a : Nat) : Bool :=
  a < 0x01000000 && bit (s.rd F.EFT_CPMODE_MODE (a / 65536 / 32)) (a / 65536 % 32)

/-- How a fetch ends. -/
inductive FetchAns where
  | ok | raise (x : Exc) | wait
  deriving DecidableEq, Repr

/-- The fetch of the instruction at the pc of eft `e`: from the instruction cache, which a miss fills on M0, or from an
uncached region word by word. -/
def Hw.fetchAt (s : Hw) (e : Fin 4) : Hw × FetchAns :=
  let t := s.eft e
  let a := t.pc.toNat
  let cached := !s.uncached a
  let r := if cached then readReq 0 e (lineOf a) 32 else readReq 0 e a 4
  let refuse := FetchAns.raise ⟨3, t.pc, some t.pc⟩
  let ibus := FetchAns.raise ⟨4, t.pc, some t.pc⟩
  if !executable a then (s, ibus)
  else match (if cached then s.caches.findI a else none) with
    | some i =>
      if s.pageMode a ≠ t.sr.mode then (s, refuse)
      else ({ s with caches := { s.caches with ilru := lruTouch s.caches.ilru i } }, .ok)
    | none =>
      if t.fetchBad = some r.addr then (s.modEft e (fun t => { t with fetchBad := none }), ibus)
      else if s.pageMode a ≠ t.sr.mode && (s.decodeErr r).isNone then (s, refuse)
      else if t.out.contains (.fetch, r.addr) then (s, .wait)
      else
        let p := s.eftAccess e .fetch r .clean
        match p.2 with
        | .wait => (p.1, .wait)
        | .err _ => (p.1, ibus)
        | .ok _ => (if cached then { p.1 with caches := p.1.caches.putI a } else p.1, .ok)

/-! ## Issue -/

/-- A load that completes with data: the loaded value replaces what the slot instruction wrote (07 R236). -/
def Eft.settle (t : Eft) (p : Option PendLoad) : Eft :=
  match p with
  | some l =>
    match l.value with
    | .got w => if l.toA then t.putA l.reg w else t.putD l.reg w
    | _ => t
  | none => t

/-- A load whose data has not come. -/
def loadWaits (p : Option PendLoad) : Bool := match p with | some l => l.value == .wait | none => false

/-- The load before an eft's next instruction that ended with an error response. -/
def Eft.badLoad (t : Eft) : Option PendLoad :=
  match t.pend with
  | some l => if l.value == LoadVal.bad then some l else none
  | none => none

/-- A load that ended with an error response: DBUS at the load, which stood where `l` says (07 R256). -/
def Hw.loadFailed (s : Hw) (e : Fin 4) (l : PendLoad) : Hw :=
  let t := s.eft e
  s.syncExc e { t with pc := l.pc, slot := l.slot, sr := { t.sr with mode := l.mode }, pend := none, late := none }
    ⟨5, l.pc, some (BitVec.ofNat 32 l.addr)⟩

/-- What an instruction does: the device, the eft's registers, a load begun, a branch, where execution goes on at once (a
return), the mask and destination of a wait, an exception, or why it cannot have its effect yet. -/
structure IRes where
  hw : Hw
  eft : Eft
  load : Option PendLoad := none
  branch : Option Slot := none
  goto : Option (Word × Option Slot) := none
  wait : Option (Word × WaitDest) := none
  exc : Option Exc := none
  stall : Option Stall := none


/-- The eft after an instruction that had its effect: the load it stood behind completes, or holds the eft until its data is
back (07 R237); the pc goes to the slot's target if the instruction stood in a branch delay slot, else to the next word. A
change of mode waits for the results in flight (08 R289). -/
def Eft.advance (u : Eft) (load : Option PendLoad) (branch : Option Slot) : Eft :=
  let waits := loadWaits u.pend
  let u := if waits then { u with late := u.pend, run := .stalled, stall := .load } else u.settle u.pend
  let u := { u with pend := load }
  match u.slot with
  | some sl =>
    let u := if sl.tmode ≠ u.sr.mode then u.landAll else u
    { u with pc := sl.target, sr := { u.sr with mode := sl.tmode }, slot := none }
  | none => { u with pc := u.pc + 4#32, slot := branch }

/-- An instruction of eft `e` in mode `tmode` issues (07 R225, R226, R238, R239). An eft that is not READY, or executes in
the other mode, issues none. An annulled slot has no effect. `illegal`: a field holds a reserved value; `ctl`: one of the
instructions that must not stand in a branch delay slot. A synchronous exception leaves the instruction without effect,
after the load before it has completed (07 R259). -/
def Hw.issue (s : Hw) (e : Fin 4) (tmode illegal ctl : Bool) (body : Hw → Eft → IRes) : Hw :=
  let s := s.takeUp e
  let t := s.eft e
  let raise := fun (s : Hw) (x : Exc) =>
    if loadWaits t.pend then s.modEft e (fun t => { t with run := .stalled, stall := .data })
    else s.syncExc e { (s.eft e).settle t.pend with pend := none } x
  if t.run ≠ .ready || t.sr.mode ≠ tmode then s
  else
    let s := { s.wr F.EFT_AWSTAT_LEN 0 with awArmed := false }
    let s := if tmode then s else s.modEft e Eft.landAll
    let t := s.eft e
    match t.slot, t.pend with
    | some ⟨target, m, true⟩, p =>
      if loadWaits p then s.modEft e (fun t => { t with run := .stalled, stall := .data })
      else s.setEft e ({ t with pc := target, sr := { t.sr with mode := m }, slot := none, pend := none }.settle p)
    | sl, _ =>
      match t.badLoad with
      | some l => s.loadFailed e l
      | none =>
        let f := s.fetchAt e
        match f.2 with
        | .wait => f.1.modEft e (fun t => { t with run := .stalled, stall := .fetch })
        | .raise x => raise f.1 x
        | .ok =>
          if illegal then raise f.1 ⟨1, t.pc, none⟩
          else if ctl && sl.isSome then raise f.1 ⟨2, t.pc, none⟩
          else
            let r := body f.1 (f.1.eft e)
            match r.exc, r.stall, r.wait with
            | some x, _, _ => raise r.hw x
            | none, some w, _ => r.hw.modEft e (fun t => { t with run := .stalled, stall := w })
            | none, none, some (m, d) => r.hw.setEft e { r.eft with run := .waiting, wmask := m, waitTo := d }
            | none, none, none =>
              let u := r.eft.advance r.load r.branch
              r.hw.setEft e (match r.goto with | some g => { u with pc := g.1, slot := g.2 } | none => u)

/-- An instruction that changes only the eft's own registers. -/
def Hw.issueReg (s : Hw) (e : Fin 4) (f : Eft → Eft) : Hw :=
  s.issue e false false false (fun h t => { hw := h, eft := f t })

/-! ## Event flags (07 R245 to R248) -/

/-- The flags now. -/
def Hw.flags (s : Hw) : Nat := s.rd F.EFT_FLAGS_FLAGS

/-- Flags taken by a consumer: cleared (07 R246). -/
def Hw.clearFlags (s : Hw) (m : Nat) : Hw := s.wr F.EFT_FLAGS_FLAGS (s.flags &&& (m ^^^ 0xFFFFFFFF))

/-- Whether a flag of a WAITING eft's mask is set. -/
def Hw.waitOver (s : Hw) (t : Eft) : Bool := t.run == .waiting && s.flags &&& t.wmask.toNat != 0

/-- EV.R of the bank in use. -/
def Eft.putEvR (t : Eft) (v : Word) : Eft :=
  if t.sr.exl then { t with bank1 := { t.bank1 with evR := v } } else { t with bank0 := { t.bank0 with evR := v } }

/-- A WAITING eft takes the flags of its mask: it writes and clears them and is READY in the next cycle (07 R246). -/
def Hw.waitTake (s : Hw) (e : Fin 4) : Hw :=
  let s := s.takeUp e
  let t := s.eft e
  if t.run == .waiting && t.badLoad.isSome then (match t.badLoad with | some l => s.loadFailed e l | none => s)
  else if s.waitOver t then
    let got := s.flags &&& t.wmask.toNat
    let v := BitVec.ofNat 32 got
    let t := match t.waitTo with
      | .d r => t.putD r v
      | .evR => t.putEvR v
    let t : Eft := { (if t.sr.mode then t.nextWord else t) with run := .ready, wmask := 0#32 }
    ({ (s.clearFlags got).wr F.EFT_AWSTAT_LEN 0 with awArmed := false } : Hw).setEft e (t.advance none none)
  else s

/-- WAIT and EV.WAIT (07 R246, 08 R285): flags of the mask are taken at once, else the eft is WAITING at this instruction. -/
def Hw.waitBody (h : Hw) (t : Eft) (mask : Word) (dest : WaitDest) : IRes :=
  let got := h.flags &&& mask.toNat
  let v := BitVec.ofNat 32 got
  if got = 0 then { hw := h, eft := t, wait := some (mask, dest) }
  else { hw := h.clearFlags got, eft := match dest with | .d r => t.putD r v | .evR => t.putEvR v }

/-- POLL and EV.POLL: what they take, and the device after it. -/
def Hw.poll (h : Hw) (mask : Word) : Hw × Word :=
  let got := h.flags &&& mask.toNat
  (h.clearFlags got, BitVec.ofNat 32 got)

/-- RTE (07 R262): SR from ESR; on at EPC, as a branch delay slot before EBT where ESR.BD is 1. -/
def Hw.rteBody (h : Hw) (t : Eft) : IRes :=
  let sr := SR.ofEsr t.esr
  { hw := h, eft := { t with sr := sr }
    goto := some (t.epc, if t.esr.getLsbD 10 then some ⟨t.ebt, sr.mode, false⟩ else none) }

/-- SYNC and SIGNAL: held while an earlier store or cache operation of the eft has no answer (07 R245). -/
def Hw.syncBody (h : Hw) (t : Eft) (f : Hw → Hw) : IRes :=
  if t.draining then { hw := h, eft := t, stall := some .drain } else { hw := f h, eft := t }

/-! ## Interrupts and ALLWAIT (07 R249 to R255) -/

/-- Whether an external event source is armed (07 R252). -/
def Hw.waitArmed (s : Hw) : Bool :=
  (List.range 23).any (fun b =>
    (s.rdB F.EFT_IRQROUTE_FEN b
      && s.efts.toList.any (fun t => t.run == .waiting && bit t.wmask.toNat (s.rd F.EFT_IRQROUTE_FLAG b)))
    || (s.rdB F.EFT_IRQROUTE_IEN b
      && (let t := s.efts.toList.getD (s.rd F.EFT_IRQROUTE_EFT b) Eft.reset
          t.run == .waiting && t.sr.ie)))

/-- The all-wait condition (07 R253). -/
def Hw.allWait (s : Hw) : Bool :=
  s.efts.toList.any (fun t => t.run != .stopped) && s.efts.toList.all (fun t => t.run == .stopped || t.run == .waiting)
    && !s.waitArmed

/-- The boundary before an eft's next instruction is one at which an asynchronous exception may be taken (07 R257, 08 R288):
EXL is 0; not after a branch or a load, nor before a bank-0 result is visible; a WAITING eft, and one that waits in a read of
a coprocessor result (08 R292), stand at their instruction, after the load before it has completed. -/
def Eft.atBoundary (t : Eft) : Bool :=
  !t.sr.exl && !loadWaits t.pend && t.badLoad.isNone && t.late.isNone
    && (match t.run with
        | .ready => t.slot.isNone && t.pend.isNone && t.fly.isEmpty
        | .waiting => true
        | .stalled => (match t.stall with | .copRead _ => true | _ => false)
        | _ => false)

/-- An asynchronous exception taken: EPC holds the next instruction, or the WAIT or read that waits. -/
def Hw.asyncExc (s : Hw) (e : Fin 4) (v : Nat) (efa : Option Word) : Hw :=
  let t := s.eft e
  s.enterExc e { t.settle t.pend with pend := none } ⟨v, t.pc, efa⟩

/-- What an eft that is STALLED waits for has come (07 R226). -/
def Hw.stallOver (s : Hw) (e : Fin 4) : Bool :=
  let t := s.eft e
  match t.stall with
  | .fetch => !t.out.any (fun q => q.1 == .fetch)
  | .load => !loadWaits t.late
  | .data => !t.out.any (fun q => q.1 == .fill || q.1 == .word) && !loadWaits t.pend
  | .buffer => t.posted < 4
  | .drain => !t.draining
  | .cacheOp => !t.out.any (fun q => q.1 == .clean)
  | .copIssue k => decide ((s.copQueue e k).length < 4) || (s.copFailure e k).isSome
  | .copRead k => match (s.copRead e k).2 with | .wait => false | _ => true

/-- EFT_STALL_END: what eft `e` waits for has arrived; a load that held it completes or raises DBUS. -/
def Hw.stallEnd (s : Hw) (e : Fin 4) : Hw :=
  let s := s.takeUp e
  let t := s.eft e
  if t.run ≠ .stalled || !s.stallOver e then s
  else match t.late with
    | some l => if l.value == LoadVal.bad then s.loadFailed e l
                else s.setEft e { t.settle t.late with late := none, run := .ready }
    | none => s.setEft e { t with run := .ready }

/-! ## Start and stop (07 R271, R272) -/

/-- What an eft still has outstanding, abandoned: the responses are discarded when they arrive (R272). -/
def Eft.abandoned (t : Eft) : List (EftUse × Nat) := t.out.map (fun q => (.lost q.1.isFetch q.1.isWrite, q.2))

/-- An eft starts at EFT_RSTVEC with the register values of R228; its coprocessor queues are emptied (08 R303). -/
def Hw.startEft (s : Hw) (e : Fin 4) : Hw :=
  let v := s.rd F.EFT_RSTVEC_VEC
  (s.copClear e).setEft e { Eft.start (BitVec.ofNat 32 (v / 4 * 4)) (bit v 0) with out := (s.eft e).abandoned }

/-- An eft stops. -/
def Hw.stopEft (s : Hw) (e : Fin 4) : Hw := (s.copClear e).setEft e { Eft.reset with out := (s.eft e).abandoned }

end Sys2Proof.Machine
end

