-- ==== Sys2Proof/Machine/EftA.lean ====
section
/-! DEFINITION. The A-mode instruction set (07 R234 to R273) and the steps of the efts that are no instruction: interrupts,
store errors, releases, ALLWAIT. A command names the eft that issues the instruction and its operand fields. -/

namespace Sys2Proof.Machine

open Sys2Proof

/-! ## Shapes -/

/-- A D operation that writes a result and the flags that `g` takes from it. -/
def Eft.alu (t : Eft) (rd : Fin 8) (o : AluOut) (g : SR → AluOut → SR) : Eft := { t.putD rd o.value with sr := g t.sr o }

/-- A D operation of two registers. -/
def Hw.dOp (s : Hw) (e : Fin 4) (rd rs rt : Fin 8) (f : SR → Word → Word → AluOut) (g : SR → AluOut → SR) : Hw :=
  s.issueReg e (fun t => t.alu rd (f t.sr t.d[rs] t.d[rt]) g)

/-- A D operation of one register, or of a register and an immediate. -/
def Hw.dOp1 (s : Hw) (e : Fin 4) (rd rs : Fin 8) (f : SR → Word → AluOut) (g : SR → AluOut → SR) : Hw :=
  s.issueReg e (fun t => t.alu rd (f t.sr t.d[rs]) g)

/-- Immediates: s16 sign-extended, u16 zero-extended (07 R234). -/
def sImm (i : BitVec 16) : Word := i.signExtend 32
def uImm (i : BitVec 16) : Word := i.setWidth 32

/-- The result without flags of its own. -/
def plain (r : Word) : AluOut := aluNZ r false false

/-- The flags left as they are. -/
def noFlags (f : SR) (_ : AluOut) : SR := f

/-- CLZ's flags: Z alone. -/
def SR.zOnly (f : SR) (o : AluOut) : SR := { f with z := o.z }

/-- The kinds of shift, by SHI's codes. -/
def shiftKind (k : Fin 4) : ShiftKind := match k with | 0 => .shl | 1 => .shr | 2 => .sar | 3 => .ror

/-! ## D operations -/

/-- ADD. -/
def execAdd (e : Fin 4) (rd rs rt : Fin 8) (s : State) : Host.Outcome State Fault Refusal :=
  s.onHw fun h => h.dOp e rd rs rt (fun _ x y => aluAdd x y false) SR.nzcv
/-- ADDC. -/
def execAddc (e : Fin 4) (rd rs rt : Fin 8) (s : State) : Host.Outcome State Fault Refusal :=
  s.onHw fun h => h.dOp e rd rs rt (fun f x y => aluAdd x y f.c) SR.nzcv
/-- SUB. -/
def execSub (e : Fin 4) (rd rs rt : Fin 8) (s : State) : Host.Outcome State Fault Refusal :=
  s.onHw fun h => h.dOp e rd rs rt (fun _ x y => aluSub x y false) SR.nzcv
/-- SUBB. -/
def execSubb (e : Fin 4) (rd rs rt : Fin 8) (s : State) : Host.Outcome State Fault Refusal :=
  s.onHw fun h => h.dOp e rd rs rt (fun f x y => aluSub x y f.c) SR.nzcv
/-- AND. -/
def execAndCmd (e : Fin 4) (rd rs rt : Fin 8) (s : State) : Host.Outcome State Fault Refusal :=
  s.onHw fun h => h.dOp e rd rs rt (fun _ x y => aluLogic (x &&& y)) SR.nzcv
/-- OR. -/
def execOrCmd (e : Fin 4) (rd rs rt : Fin 8) (s : State) : Host.Outcome State Fault Refusal :=
  s.onHw fun h => h.dOp e rd rs rt (fun _ x y => aluLogic (x ||| y)) SR.nzcv
/-- XOR. -/
def execXorCmd (e : Fin 4) (rd rs rt : Fin 8) (s : State) : Host.Outcome State Fault Refusal :=
  s.onHw fun h => h.dOp e rd rs rt (fun _ x y => aluLogic (x ^^^ y)) SR.nzcv
/-- SHL, by Dt[4:0]. -/
def execShl (e : Fin 4) (rd rs rt : Fin 8) (s : State) : Host.Outcome State Fault Refusal :=
  s.onHw fun h => h.dOp e rd rs rt (fun _ x y => aluShift .shl x y.toNat) SR.nzcv
/-- SHR. -/
def execShr (e : Fin 4) (rd rs rt : Fin 8) (s : State) : Host.Outcome State Fault Refusal :=
  s.onHw fun h => h.dOp e rd rs rt (fun _ x y => aluShift .shr x y.toNat) SR.nzcv
/-- SAR. -/
def execSar (e : Fin 4) (rd rs rt : Fin 8) (s : State) : Host.Outcome State Fault Refusal :=
  s.onHw fun h => h.dOp e rd rs rt (fun _ x y => aluShift .sar x y.toNat) SR.nzcv
/-- ROR. -/
def execRor (e : Fin 4) (rd rs rt : Fin 8) (s : State) : Host.Outcome State Fault Refusal :=
  s.onHw fun h => h.dOp e rd rs rt (fun _ x y => aluShift .ror x y.toNat) SR.nzcv
/-- CMP. -/
def execCmp (e : Fin 4) (rs rt : Fin 8) (s : State) : Host.Outcome State Fault Refusal :=
  s.onHw fun h => h.issueReg e (fun t => { t with sr := t.sr.nzcv (aluSub t.d[rs] t.d[rt] false) })
/-- TST. -/
def execTst (e : Fin 4) (rs rt : Fin 8) (s : State) : Host.Outcome State Fault Refusal :=
  s.onHw fun h => h.issueReg e (fun t => { t with sr := t.sr.nzcv (aluLogic (t.d[rs] &&& t.d[rt])) })
/-- MOV. -/
def execMov (e : Fin 4) (rd rs : Fin 8) (s : State) : Host.Outcome State Fault Refusal :=
  s.onHw fun h => h.dOp1 e rd rs (fun _ x => plain x) SR.nz
/-- NOT. -/
def execNotCmd (e : Fin 4) (rd rs : Fin 8) (s : State) : Host.Outcome State Fault Refusal :=
  s.onHw fun h => h.dOp1 e rd rs (fun _ x => plain (~~~x)) SR.nz
/-- NEG. -/
def execNeg (e : Fin 4) (rd rs : Fin 8) (s : State) : Host.Outcome State Fault Refusal :=
  s.onHw fun h => h.dOp1 e rd rs (fun _ x => aluSub 0#32 x false) SR.nzcv
/-- EXT.B. -/
def execExtB (e : Fin 4) (rd rs : Fin 8) (s : State) : Host.Outcome State Fault Refusal :=
  s.onHw fun h => h.dOp1 e rd rs (fun _ x => plain ((x.setWidth 8).signExtend 32)) SR.nz
/-- EXT.H. -/
def execExtH (e : Fin 4) (rd rs : Fin 8) (s : State) : Host.Outcome State Fault Refusal :=
  s.onHw fun h => h.dOp1 e rd rs (fun _ x => plain ((x.setWidth 16).signExtend 32)) SR.nz
/-- ZX.B. -/
def execZxB (e : Fin 4) (rd rs : Fin 8) (s : State) : Host.Outcome State Fault Refusal :=
  s.onHw fun h => h.dOp1 e rd rs (fun _ x => plain ((x.setWidth 8).setWidth 32)) SR.nz
/-- ZX.H. -/
def execZxH (e : Fin 4) (rd rs : Fin 8) (s : State) : Host.Outcome State Fault Refusal :=
  s.onHw fun h => h.dOp1 e rd rs (fun _ x => plain ((x.setWidth 16).setWidth 32)) SR.nz
/-- MIN. -/
def execMinCmd (e : Fin 4) (rd rs rt : Fin 8) (s : State) : Host.Outcome State Fault Refusal :=
  s.onHw fun h => h.dOp e rd rs rt (fun _ x y => plain (sMin x y)) SR.nz
/-- MAX. -/
def execMaxCmd (e : Fin 4) (rd rs rt : Fin 8) (s : State) : Host.Outcome State Fault Refusal :=
  s.onHw fun h => h.dOp e rd rs rt (fun _ x y => plain (sMax x y)) SR.nz
/-- CLZ. -/
def execClz (e : Fin 4) (rd rs : Fin 8) (s : State) : Host.Outcome State Fault Refusal :=
  s.onHw fun h => h.dOp1 e rd rs (fun _ x => plain (BitVec.ofNat 32 (clz x))) SR.zOnly

/-! ## Immediates -/

/-- ADDI. -/
def execAddi (e : Fin 4) (rd rs : Fin 8) (imm : BitVec 16) (s : State) : Host.Outcome State Fault Refusal :=
  s.onHw fun h => h.dOp1 e rd rs (fun _ x => aluAdd x (sImm imm) false) SR.nzcv
/-- ANDI. -/
def execAndi (e : Fin 4) (rd rs : Fin 8) (imm : BitVec 16) (s : State) : Host.Outcome State Fault Refusal :=
  s.onHw fun h => h.dOp1 e rd rs (fun _ x => aluLogic (x &&& uImm imm)) SR.nzcv
/-- ORI. -/
def execOri (e : Fin 4) (rd rs : Fin 8) (imm : BitVec 16) (s : State) : Host.Outcome State Fault Refusal :=
  s.onHw fun h => h.dOp1 e rd rs (fun _ x => aluLogic (x ||| uImm imm)) SR.nzcv
/-- XORI. -/
def execXori (e : Fin 4) (rd rs : Fin 8) (imm : BitVec 16) (s : State) : Host.Outcome State Fault Refusal :=
  s.onHw fun h => h.dOp1 e rd rs (fun _ x => aluLogic (x ^^^ uImm imm)) SR.nzcv
/-- CMPI. -/
def execCmpi (e : Fin 4) (rs : Fin 8) (imm : BitVec 16) (s : State) : Host.Outcome State Fault Refusal :=
  s.onHw fun h => h.issueReg e (fun t => { t with sr := t.sr.nzcv (aluSub t.d[rs] (sImm imm) false) })
/-- MOVI. -/
def execMovi (e : Fin 4) (rd : Fin 8) (imm : BitVec 16) (s : State) : Host.Outcome State Fault Refusal :=
  s.onHw fun h => h.dOp1 e rd rd (fun _ _ => plain (sImm imm)) SR.nz
/-- LUI. -/
def execLui (e : Fin 4) (rd : Fin 8) (imm : BitVec 16) (s : State) : Host.Outcome State Fault Refusal :=
  s.onHw fun h => h.issueReg e (fun t => t.putD rd (uImm imm <<< 16))
/-- SHI: `high` are the bits 15..7 of the immediate, reserved at zero. -/
def execShi (e : Fin 4) (rd rs : Fin 8) (kind : Fin 4) (n : Fin 32) (high : BitVec 9) (s : State) :
    Host.Outcome State Fault Refusal :=
  s.onHw fun h => h.issue e false (high != 0#9) false (fun h t =>
    { hw := h, eft := t.alu rd (aluShift (shiftKind kind) t.d[rs] n) SR.nzcv })

/-! ## A operations -/

/-- ADDI.A. -/
def execAddiA (e : Fin 4) (rd rs : Fin 8) (imm : BitVec 16) (s : State) : Host.Outcome State Fault Refusal :=
  s.onHw fun h => h.issueReg e (fun t => t.putA rd (t.a[rs] + sImm imm))
/-- LUI.A. -/
def execLuiA (e : Fin 4) (rd : Fin 8) (imm : BitVec 16) (s : State) : Host.Outcome State Fault Refusal :=
  s.onHw fun h => h.issueReg e (fun t => t.putA rd (uImm imm <<< 16))
/-- ADD.A. -/
def execAddA (e : Fin 4) (rd rs rt : Fin 8) (s : State) : Host.Outcome State Fault Refusal :=
  s.onHw fun h => h.issueReg e (fun t => t.putA rd (t.a[rs] + t.a[rt]))
/-- SUB.A. -/
def execSubA (e : Fin 4) (rd rs rt : Fin 8) (s : State) : Host.Outcome State Fault Refusal :=
  s.onHw fun h => h.issueReg e (fun t => t.putA rd (t.a[rs] - t.a[rt]))
/-- MOV.A. -/
def execMovA (e : Fin 4) (rd rs : Fin 8) (s : State) : Host.Outcome State Fault Refusal :=
  s.onHw fun h => h.issueReg e (fun t => t.putA rd t.a[rs])
/-- CMP.A. -/
def execCmpA (e : Fin 4) (rs rt : Fin 8) (s : State) : Host.Outcome State Fault Refusal :=
  s.onHw fun h => h.issueReg e (fun t => { t with sr := t.sr.nzcv (aluSub t.a[rs] t.a[rt] false) })

/-! ## ACC operations -/

/-- A multiply into an accumulator: `f` gives the exact value. -/
def Hw.mulOp (s : Hw) (e : Fin 4) (n : Fin 2) (rs rt : Fin 8) (f : Int → Word → Word → Int) : Hw :=
  s.issueReg e (fun t => t.putAcc n (sat48 (f (accInt t.acc[n]) t.d[rs] t.d[rt])))

/-- MUL.H: a halfword product never clamps. -/
def execMulH (e : Fin 4) (n : Fin 2) (rs rt : Fin 8) (s : State) : Host.Outcome State Fault Refusal :=
  s.onHw fun h => h.mulOp e n rs rt (fun _ x y => mulH x y)
/-- MAC.H. -/
def execMacH (e : Fin 4) (n : Fin 2) (rs rt : Fin 8) (s : State) : Host.Outcome State Fault Refusal :=
  s.onHw fun h => h.mulOp e n rs rt (fun a x y => a + mulH x y)
/-- MSU.H. -/
def execMsuH (e : Fin 4) (n : Fin 2) (rs rt : Fin 8) (s : State) : Host.Outcome State Fault Refusal :=
  s.onHw fun h => h.mulOp e n rs rt (fun a x y => a - mulH x y)
/-- MUL.W. -/
def execMulW (e : Fin 4) (n : Fin 2) (rs rt : Fin 8) (s : State) : Host.Outcome State Fault Refusal :=
  s.onHw fun h => h.mulOp e n rs rt (fun _ x y => mulW x y)
/-- MAC.W. -/
def execMacW (e : Fin 4) (n : Fin 2) (rs rt : Fin 8) (s : State) : Host.Outcome State Fault Refusal :=
  s.onHw fun h => h.mulOp e n rs rt (fun a x y => a + mulW x y)
/-- MSU.W. -/
def execMsuW (e : Fin 4) (n : Fin 2) (rs rt : Fin 8) (s : State) : Host.Outcome State Fault Refusal :=
  s.onHw fun h => h.mulOp e n rs rt (fun a x y => a - mulW x y)
/-- CLR.ACC. -/
def execClrAcc (e : Fin 4) (n : Fin 2) (s : State) : Host.Outcome State Fault Refusal :=
  s.onHw fun h => h.issueReg e (fun t => { t with acc := t.acc.set n 0#48 })
/-- ADD.ACC. -/
def execAddAcc (e : Fin 4) (n m : Fin 2) (s : State) : Host.Outcome State Fault Refusal :=
  s.onHw fun h => h.issueReg e (fun t => t.putAcc n (sat48 (accInt t.acc[n] + accInt t.acc[m])))
/-- SHA.ACC, k a signed 6-bit value. -/
def execShaAcc (e : Fin 4) (n : Fin 2) (k : BitVec 6) (s : State) : Host.Outcome State Fault Refusal :=
  s.onHw fun h => h.issueReg e (fun t => t.putAcc n (shaAcc t.acc[n] k.toInt))

/-! ## Class-crossing moves -/

/-- MOV.DA. -/
def execMovDa (e : Fin 4) (rd rs : Fin 8) (s : State) : Host.Outcome State Fault Refusal :=
  s.onHw fun h => h.issueReg e (fun t => t.putA rd t.d[rs])
/-- MOV.AD. -/
def execMovAd (e : Fin 4) (rd rs : Fin 8) (s : State) : Host.Outcome State Fault Refusal :=
  s.onHw fun h => h.issueReg e (fun t => t.alu rd (plain t.a[rs]) SR.nz)
/-- RD.ACC: k above 47 is reserved. -/
def execRdAcc (e : Fin 4) (rd : Fin 8) (n : Fin 2) (k : Fin 64) (s : State) : Host.Outcome State Fault Refusal :=
  s.onHw fun h => h.issue e false (decide (47 < k.val)) false (fun h t =>
    let o := rdAcc t.acc[n] k
    { hw := h, eft := { t.putD rd o.1 with sr := { t.sr.nz (plain o.1) with v := o.2 } } })
/-- WR.ACC: k above 16 is reserved. -/
def execWrAcc (e : Fin 4) (n : Fin 2) (rs : Fin 8) (k : Fin 64) (s : State) : Host.Outcome State Fault Refusal :=
  s.onHw fun h => h.issue e false (decide (16 < k.val)) false (fun h t =>
    { hw := h, eft := { t with acc := t.acc.set n (wrAcc t.d[rs] k) } })

/-! ## Memory -/

/-- The effective address and the base after it, for an addressing code 0..2 (07 R234). -/
def effAddr (t : Eft) (an : Fin 8) (addr : Fin 4) (disp : BitVec 16) : Word × Word :=
  let sum := t.a[an] + sImm disp
  match addr with
  | 0 => (sum, t.a[an])
  | 1 => (sum, sum)
  | _ => (t.a[an], sum)

/-- A load's body. -/
def Hw.loadBody (h : Hw) (e : Fin 4) (t : Eft) (toA signed lock : Bool) (rv an : Fin 8) (size : Nat) (addr : Fin 4)
    (disp : BitVec 16) (ecc : Ecc) : IRes :=
  let ea := effAddr t an addr disp
  let a := ea.1.toNat
  if a % size ≠ 0 then { hw := h, eft := t, exc := some ⟨6, t.pc, some ea.1⟩ }
  else
    let p := h.eftRead e .load a size lock ecc
    let ld := fun (fill : Bool) (v : LoadVal) => PendLoad.mk toA rv size signed a fill v t.pc t.slot t.sr.mode
    let u := (p.1.eft e).putA an ea.2
    match p.2 with
    | .got n => { hw := p.1, eft := u, load := some (ld false (.got (loadWord signed size n))) }
    | .bad => { hw := p.1, eft := t, exc := some ⟨5, t.pc, some ea.1⟩ }
    | .wait fill => { hw := p.1, eft := u, load := some (ld fill .wait) }

/-- A store's body. -/
def Hw.storeBody (h : Hw) (e : Fin 4) (t : Eft) (v : Word) (unlock : Bool) (an : Fin 8) (size : Nat) (addr : Fin 4)
    (disp : BitVec 16) (ecc : Ecc) : IRes :=
  let ea := effAddr t an addr disp
  let a := ea.1.toNat
  if a % size ≠ 0 then { hw := h, eft := t, exc := some ⟨6, t.pc, some ea.1⟩ }
  else
    let p := h.eftWrite e a size v.toNat unlock ecc
    match p.2 with
    | .done => { hw := p.1, eft := (p.1.eft e).putA an ea.2 }
    | .wait w => { hw := p.1, eft := t, stall := some w }
    | .bad => { hw := p.1, eft := t, exc := some ⟨5, t.pc, some ea.1⟩ }

/-- LD: size code 3 and addressing code 3 are reserved. -/
def execLd (e : Fin 4) (rv an : Fin 8) (size addr : Fin 4) (disp : BitVec 16) (ecc : Ecc) (s : State) :
    Host.Outcome State Fault Refusal :=
  s.onHw fun h => h.issue e false (size == 3 || addr == 3) false (fun h t =>
    h.loadBody e t false true false rv an (2 ^ size.val) addr disp ecc)
/-- LDU: size codes 2 and 3 are reserved. -/
def execLdu (e : Fin 4) (rv an : Fin 8) (size addr : Fin 4) (disp : BitVec 16) (ecc : Ecc) (s : State) :
    Host.Outcome State Fault Refusal :=
  s.onHw fun h => h.issue e false (decide (1 < size.val) || addr == 3) false (fun h t =>
    h.loadBody e t false false false rv an (2 ^ size.val) addr disp ecc)
/-- ST. -/
def execSt (e : Fin 4) (rv an : Fin 8) (size addr : Fin 4) (disp : BitVec 16) (ecc : Ecc) (s : State) :
    Host.Outcome State Fault Refusal :=
  s.onHw fun h => h.issue e false (size == 3 || addr == 3) false (fun h t =>
    h.storeBody e t t.d[rv] false an (2 ^ size.val) addr disp ecc)
/-- LD.A: word only; the base loaded with an update is reserved. -/
def execLdA (e : Fin 4) (rv an : Fin 8) (size addr : Fin 4) (disp : BitVec 16) (ecc : Ecc) (s : State) :
    Host.Outcome State Fault Refusal :=
  s.onHw fun h => h.issue e false (size != 2 || addr == 3 || (rv == an && addr != 0)) false (fun h t =>
    h.loadBody e t true true false rv an 4 addr disp ecc)
/-- ST.A. -/
def execStA (e : Fin 4) (rv an : Fin 8) (size addr : Fin 4) (disp : BitVec 16) (ecc : Ecc) (s : State) :
    Host.Outcome State Fault Refusal :=
  s.onHw fun h => h.issue e false (size != 2 || addr == 3) false (fun h t =>
    h.storeBody e t t.a[rv] false an 4 addr disp ecc)

/-- The cache lines of a 64-byte granule cleaned and made invalid (07 R270). -/
def Hw.flushGranule (h : Hw) (e : Fin 4) (a : Nat) : Hw :=
  [a / 64 * 64, a / 64 * 64 + 32].foldl (fun h l =>
    match h.caches.find l with
    | some (i, d) =>
      let h := h.cleanLine e i d
      { h with caches := h.caches.kill i }
    | none => h) h

/-- LDL: word, offset addressing. -/
def execLdl (e : Fin 4) (rv an : Fin 8) (size addr : Fin 4) (disp : BitVec 16) (ecc : Ecc) (s : State) :
    Host.Outcome State Fault Refusal :=
  s.onHw fun h => h.issue e false (size != 2 || addr != 0) false (fun h t =>
    let ea := (effAddr t an addr disp).1.toNat
    let h := if ea % 4 = 0 then h.flushGranule e ea else h
    h.loadBody e (h.eft e) false true true rv an 4 addr disp ecc)
/-- STUL: word, offset addressing. -/
def execStul (e : Fin 4) (rv an : Fin 8) (size addr : Fin 4) (disp : BitVec 16) (ecc : Ecc) (s : State) :
    Host.Outcome State Fault Refusal :=
  s.onHw fun h => h.issue e false (size != 2 || addr != 0) false (fun h t =>
    h.storeBody e t t.d[rv] true an 4 addr disp ecc)

/-! ## Branches and jumps -/

/-- The address plus 4 × disp21. -/
def branchTarget (pc : Word) (disp : BitVec 21) : Word := pc + (disp.signExtend 32 <<< 2)

/-- The delay slot of a branch: to its target, to the fall-through, or annulled (07 R238). -/
def delaySlot (t : Eft) (taken annul : Bool) (target : Word) : Slot :=
  ⟨if taken then target else t.pc + 8#32, t.sr.mode, annul && !taken⟩

/-- BCC: condition code 15 is reserved. -/
def execBcc (e : Fin 4) (annul : Bool) (cond : Fin 16) (disp : BitVec 21) (s : State) : Host.Outcome State Fault Refusal :=
  s.onHw fun h => h.issue e false (cond == 15) true (fun h t =>
    { hw := h, eft := t, branch := some (delaySlot t (condHolds t.sr cond) annul (branchTarget t.pc disp)) })
/-- BSR: annul and cond are zero. -/
def execBsr (e : Fin 4) (annul : Bool) (cond : Fin 16) (disp : BitVec 21) (s : State) : Host.Outcome State Fault Refusal :=
  s.onHw fun h => h.issue e false (annul || cond != 0) true (fun h t =>
    { hw := h, eft := t.putA 6 (t.pc + 8#32), branch := some (delaySlot t true false (branchTarget t.pc disp)) })
/-- DBNZ. -/
def execDbnz (e : Fin 4) (annul : Bool) (rd : Fin 8) (disp : BitVec 21) (s : State) : Host.Outcome State Fault Refusal :=
  s.onHw fun h => h.issue e false false true (fun h t =>
    let v := t.d[rd] - 1#32
    { hw := h, eft := t.putD rd v, branch := some (delaySlot t (v != 0#32) annul (branchTarget t.pc disp)) })

/-- A jump to an A register in a mode; with link, A6 takes the address after the slot. -/
def Hw.jump (h : Hw) (t : Eft) (tmode link : Bool) (an : Fin 8) : IRes :=
  let target := t.a[an]
  if target.toNat % 4 ≠ 0 then { hw := h, eft := t, exc := some ⟨6, t.pc, some target⟩ }
  else { hw := h, eft := if link then t.putA 6 (t.pc + 8#32) else t, branch := some ⟨target, tmode, false⟩ }

/-- JMP.A. -/
def execJmpA (e : Fin 4) (link : Bool) (an : Fin 8) (s : State) : Host.Outcome State Fault Refusal :=
  s.onHw fun h => h.issue e false false true (fun h t => h.jump t false link an)
/-- JMP.T. -/
def execJmpT (e : Fin 4) (link : Bool) (an : Fin 8) (s : State) : Host.Outcome State Fault Refusal :=
  s.onHw fun h => h.issue e false false true (fun h t => h.jump t true link an)

/-! ## System instructions -/

/-- NOP. -/
def execNop (e : Fin 4) (s : State) : Host.Outcome State Fault Refusal := s.onHw fun h => h.issueReg e (fun t => t)

/-- SYNC. -/
def execSync (e : Fin 4) (s : State) : Host.Outcome State Fault Refusal :=
  s.onHw fun h => h.issue e false false false (fun h t => h.syncBody t id)

/-- WAIT: it takes flags at once, or waits. -/
def execWait (e : Fin 4) (rd rs : Fin 8) (s : State) : Host.Outcome State Fault Refusal :=
  s.onHw fun h => h.issue e false false true (fun h t => h.waitBody t t.d[rs] (.d rd))

/-- POLL: Z tells that it took none. -/
def execPoll (e : Fin 4) (rd rs : Fin 8) (s : State) : Host.Outcome State Fault Refusal :=
  s.onHw fun h => h.issue e false false false (fun h t =>
    let p := h.poll t.d[rs]
    { hw := p.1, eft := { t.putD rd p.2 with sr := { t.sr with z := p.2 == 0#32 } } })

/-- SIGNAL: a flag number above 31 is reserved. -/
def execSignal (e : Fin 4) (f : Fin 256) (s : State) : Host.Outcome State Fault Refusal :=
  s.onHw fun h => h.issue e false (decide (31 < f.val)) false (fun h t => h.syncBody t (fun h => h.setFlags (2 ^ f.val)))

/-- SIGNAL.D. -/
def execSignalD (e : Fin 4) (rs : Fin 8) (s : State) : Host.Outcome State Fault Refusal :=
  s.onHw fun h => h.issue e false false false (fun h t => h.syncBody t (fun h => h.setFlags t.d[rs].toNat))

/-- TRAP: EPC is the instruction after it, EFA its number. -/
def execTrap (e : Fin 4) (n : Fin 256) (s : State) : Host.Outcome State Fault Refusal :=
  s.onHw fun h => h.issue e false false true (fun h t =>
    { hw := h, eft := t, exc := some ⟨7, t.pc + 4#32, some (BitVec.ofNat 32 n)⟩ })

/-- BRK. -/
def execBrk (e : Fin 4) (s : State) : Host.Outcome State Fault Refusal :=
  s.onHw fun h => h.issue e false false true (fun h t => { hw := h, eft := t, exc := some ⟨8, t.pc, none⟩ })

/-- RTE. -/
def execRte (e : Fin 4) (s : State) : Host.Outcome State Fault Refusal :=
  s.onHw fun h => h.issue e false false true (fun h t => h.rteBody t)

/-- MFSR. -/
def execMfsr (e : Fin 4) (rd : Fin 8) (s : State) : Host.Outcome State Fault Refusal :=
  s.onHw fun h => h.issueReg e (fun t => t.putD rd (t.sr.word e))
/-- MTSR. -/
def execMtsr (e : Fin 4) (rs : Fin 8) (s : State) : Host.Outcome State Fault Refusal :=
  s.onHw fun h => h.issueReg e (fun t => { t with sr := t.sr.write t.d[rs] })

/-- EPC, ESR, EBT or EFA, for 0..3. -/
def Eft.xreg (t : Eft) (k : Fin 4) : Word := match k with | 0 => t.epc | 1 => t.esr | 2 => t.ebt | 3 => t.efa
/-- EPC, ESR, EBT or EFA set. -/
def Eft.putX (t : Eft) (k : Fin 4) (v : Word) : Eft :=
  match k with
  | 0 => { t with epc := v }
  | 1 => { t with esr := v }
  | 2 => { t with ebt := v }
  | 3 => { t with efa := v }

/-- MFX. -/
def execMfx (e : Fin 4) (rd : Fin 8) (sel : Fin 4) (s : State) : Host.Outcome State Fault Refusal :=
  s.onHw fun h => h.issueReg e (fun t => t.putD rd (t.xreg sel))
/-- MTX. -/
def execMtx (e : Fin 4) (rs : Fin 8) (sel : Fin 4) (s : State) : Host.Outcome State Fault Refusal :=
  s.onHw fun h => h.issueReg e (fun t => t.putX sel t.d[rs])

/-- EI. -/
def execEi (e : Fin 4) (s : State) : Host.Outcome State Fault Refusal :=
  s.onHw fun h => h.issueReg e (fun t => { t with sr := { t.sr with ie := true } })
/-- DI. -/
def execDi (e : Fin 4) (s : State) : Host.Outcome State Fault Refusal :=
  s.onHw fun h => h.issueReg e (fun t => { t with sr := { t.sr with ie := false } })

/-! ## Cache instructions (07 R267): the effect at once, the eft STALLED until EFT_STALL_END -/

/-- The eft STALLED by its cache operation. -/
def Eft.inCacheOp (t : Eft) : Eft := { t with run := .stalled, stall := .cacheOp }

/-- A data line cleaned, made invalid, or both. -/
def Hw.lineOp (h : Hw) (e : Fin 4) (a : Nat) (clean kill : Bool) : Hw :=
  match h.caches.find a with
  | some (i, l) =>
    let h := if clean then h.cleanLine e i l else h
    if kill then { h with caches := h.caches.kill i } else h
  | none => h

/-- The instruction line of an address made invalid. -/
def Hw.iLineOp (h : Hw) (a : Nat) : Hw :=
  match h.caches.findI a with
  | some i => { h with caches := { h.caches with ilines := h.caches.ilines.filter (fun p => p.1 != i) } }
  | none => h

/-- Every dirty line of the data cache written back. -/
def Hw.cleanAll (h : Hw) (e : Fin 4) : Hw := h.caches.dlines.foldl (fun h p => h.cleanLine e p.1 p.2) h

/-- The instruction cache emptied. -/
def Hw.dropICache (h : Hw) : Hw := { h with caches := { h.caches with ilines := [] } }

/-- A cache operation by its op; none where the op is undefined. -/
def Hw.cacheOp (h : Hw) (e : Fin 4) (op : Nat) (a : Nat) : Option Hw :=
  match op with
  | 0 => some (h.lineOp e a true false)
  | 1 => some (h.lineOp e a false true)
  | 2 => some (h.lineOp e a true true)
  | 3 => some (h.iLineOp a)
  | 4 => some (h.cleanAll e)
  | 5 => some h.dropICache
  | _ => none

/-- A CACHE instruction. -/
def Hw.cacheInstr (h : Hw) (e : Fin 4) (f : Hw → Eft → Hw) : Hw :=
  h.issue e false false false (fun h t =>
    let h := f h t
    { hw := h, eft := (h.eft e).inCacheOp })

/-- CACHE #0. -/
def execCacheCleanLine (e : Fin 4) (ra : Fin 8) (s : State) : Host.Outcome State Fault Refusal :=
  s.onHw fun h => h.cacheInstr e (fun h t => h.lineOp e t.a[ra].toNat true false)
/-- CACHE #1. -/
def execCacheInvalidateLine (e : Fin 4) (ra : Fin 8) (s : State) : Host.Outcome State Fault Refusal :=
  s.onHw fun h => h.cacheInstr e (fun h t => h.lineOp e t.a[ra].toNat false true)
/-- CACHE #2. -/
def execCacheCleanInvalidateLine (e : Fin 4) (ra : Fin 8) (s : State) : Host.Outcome State Fault Refusal :=
  s.onHw fun h => h.cacheInstr e (fun h t => h.lineOp e t.a[ra].toNat true true)
/-- CACHE #3. -/
def execCacheInvalidateIline (e : Fin 4) (ra : Fin 8) (s : State) : Host.Outcome State Fault Refusal :=
  s.onHw fun h => h.cacheInstr e (fun h t => h.iLineOp t.a[ra].toNat)
/-- CACHE #4. -/
def execCacheCleanAll (e : Fin 4) (s : State) : Host.Outcome State Fault Refusal :=
  s.onHw fun h => h.cacheInstr e (fun h _ => h.cleanAll e)
/-- CACHE #5. -/
def execCacheInvalidateIcache (e : Fin 4) (s : State) : Host.Outcome State Fault Refusal :=
  s.onHw fun h => h.cacheInstr e (fun h _ => h.dropICache)

/-! ## Coprocessor instructions (08 R291 to R293) -/

/-- A COP exception: what raised it is kept (a freed entry), the instruction has no effect. -/
def copExc (h : Hw) (t : Eft) (efa : Word) : IRes := { hw := h, eft := t, exc := some ⟨9, t.pc, some efa⟩ }

/-- COP. -/
def execCop (e : Fin 4) (slot : Fin 8) (op : Fin 256) (rs rt : Fin 8) (s : State) : Host.Outcome State Fault Refusal :=
  s.onHw fun h => h.issue e false false false (fun h t =>
    let p := h.copIssue e slot op t.d[rs] t.d[rt]
    match p.2 with
    | .taken => { hw := p.1, eft := t }
    | .stall => { hw := h, eft := t, stall := some (.copIssue slot) }
    | .raise efa => copExc p.1 t efa)

/-- COPR. -/
def execCopr (e : Fin 4) (rd slot : Fin 8) (s : State) : Host.Outcome State Fault Refusal :=
  s.onHw fun h => h.issue e false false false (fun h t =>
    let p := h.copRead e slot
    match p.2 with
    | .word w => { hw := p.1, eft := t.putD rd w }
    | .wait => { hw := h, eft := t, stall := some (.copRead slot) }
    | .raise efa => copExc p.1 t efa)

/-- COPR.P: it never waits, and does not raise NORESULT. -/
def execCoprP (e : Fin 4) (rd slot : Fin 8) (s : State) : Host.Outcome State Fault Refusal :=
  s.onHw fun h => h.issue e false false false (fun h t =>
    match h.copFailure e slot with
    | some f => copExc f.1 t f.2
    | none =>
      let p := h.copRead e slot
      match p.2 with
      | .word w => { hw := p.1, eft := { t.putD rd w with sr := { t.sr with z := false } } }
      | _ => { hw := h, eft := { t with sr := { t.sr with z := true } } })

/-! ## What is no instruction of a program -/

/-- UNDEFINED_INSTRUCTION: an A-mode word that no table defines. -/
def execUndefinedInstruction (e : Fin 4) (s : State) : Host.Outcome State Fault Refusal :=
  s.onHw fun h => h.issue e false true false (fun h t => { hw := h, eft := t })

/-- INSTRUCTION_FETCH_REFUSED: eft `e` fetches at its pc, in either mode; where nothing refuses the fetch nothing else
happens. -/
def execInstructionFetchRefused (e : Fin 4) (s : State) : Host.Outcome State Fault Refusal :=
  s.onHw fun h =>
    let t := h.eft e
    let f := (h.takeUp e).fetchAt e
    match f.2 with
    | .raise _ => h.issue e t.sr.mode false false (fun h t => { hw := h, eft := t })
    | _ => h

/-- INTERRUPT_ENTRY (07 R251, R258). -/
def execInterruptEntry (e : Fin 4) (s : State) : Host.Outcome State Fault Refusal :=
  s.onHw fun h =>
    let h := h.takeUp e
    let t := h.eft e
    if t.atBoundary && t.sr.ie && h.irqPend e ≠ 0 && t.storeErrs.isEmpty then h.asyncExc e 11 none else h

/-- STORE_ERROR_DBUS (07 R260). -/
def execStoreErrorDbus (e : Fin 4) (s : State) : Host.Outcome State Fault Refusal :=
  s.onHw fun h =>
    let h := h.takeUp e
    let t := h.eft e
    match t.storeErrs with
    | a :: l =>
      if t.atBoundary then
        ((h.modEft e (fun t => { t with storeErrs := l })).asyncExc e 5 (some a)).raiseBit bEFT 3
      else h
    | [] => h

/-- WAIT_RELEASE: the flags that are set release WAITING efts, the lowest-numbered first (07 R247). -/
def execWaitRelease (s : State) : Host.Outcome State Fault Refusal :=
  s.onHw fun h => (((h.waitTake 0).waitTake 1).waitTake 2).waitTake 3

/-- EFT_STALL_END. -/
def execEftStallEnd (e : Fin 4) (s : State) : Host.Outcome State Fault Refusal := s.onHw fun h => h.stallEnd e

/-- ALLWAIT_FIRE (07 R253 to R255): the end of the 256th cycle of the all-wait condition. -/
def execAllwaitFire (s : State) : Host.Outcome State Fault Refusal :=
  s.onHw fun h =>
    let freed := fun (e : Fin 4) =>
      let t := h.eft e
      h.waitOver t || (t.run == .waiting && t.sr.ie && !t.sr.exl && h.irqPend e != 0)
    if !h.allWait || [0, 1, 2, 3].any freed then h
    else
      let able := fun (e : Fin 4) =>
        let t := h.eft e
        t.run == .waiting && t.atBoundary && t.storeErrs.isEmpty && bit (h.rd F.EFT_AWEN_EN) e
      match ([0, 1, 2, 3] : List (Fin 4)).find? able with
      | some e =>
        ((((h.asyncExc e 10 none).raiseBit bEFT 0).inc F.EFT_AWSTAT_COUNT).wr F.EFT_AWSTAT_TARGET e).wr F.EFT_AWSTAT_LEN 0
      | none =>
        if h.awArmed then h
        else
          let h := { (h.raiseBit bEFT 1).notice 5 0 0 with awArmed := true }
          h.recover 5 0xFF (h.eftsIn (· == .waiting)) 0 0 0

/-- EFT_FLAGSET_WRITE (07 R248). -/
def execEftFlagsetWrite (master : Fin 12) (value : Word) (s : State) : Host.Outcome State Fault Refusal :=
  s.byMaster master fun h => h.regWrite master 0x04130044 value Cyc.quiet

/-- BLOCK_IRQ_RISE: a block's request rises (07 R249); the command engine sees it whatever the route (07 R250). -/
def execBlockIrqRise (block : Fin 23) (s : State) : Host.Outcome State Fault Refusal :=
  s.onHw fun h =>
    if h.on 2 && h.irq (blockBase block) && h.rdB F.EFT_IRQROUTE_FEN block then
      h.setFlags (2 ^ h.rd F.EFT_IRQROUTE_FLAG block)
    else h

end Sys2Proof.Machine
end

