-- ==== Sys2Proof/Machine/EftT.lean ====
section
/-! DEFINITION. T-mode: the move-pair word, its ports and triggers (08 R274 to R289, R294). -/

namespace Sys2Proof.Machine

open Sys2Proof

/-! ## Ports (08 R277) -/

/-- What a port is. -/
inductive PortKind where
  | reg | operand | trigger (unit : Nat) | result | source | reserved
  deriving DecidableEq, Repr

/-- The kind of a port; the units: 1 ALU, 2 SHF, 3 MUL, 4 LSU, 5 BR, 6 EV, 7 SYS, 8 CACHE, 16 + s slot s. -/
def portKind (p : Nat) : PortKind :=
  if p ≤ 0x18 || p = 0x1F then .reg
  else if p = 0x20 || p = 0x30 || p = 0x38 || p = 0x48 || p = 0x49 || p = 0x58 || p = 0x6C then .operand
  else if p = 0x2A || p = 0x35 || p = 0x52 || p = 0x63 then .result
  else if 0x21 ≤ p && p ≤ 0x2C then .trigger 1
  else if 0x31 ≤ p && p ≤ 0x34 then .trigger 2
  else if (0x39 ≤ p && p ≤ 0x3E) || (0x40 ≤ p && p ≤ 0x45) then .trigger 3
  else if 0x4A ≤ p && p ≤ 0x51 then .trigger 4
  else if 0x59 ≤ p && p ≤ 0x5E then .trigger 5
  else if 0x60 ≤ p && p ≤ 0x62 then .trigger 6
  else if 0x68 ≤ p && p ≤ 0x6B then .trigger 7
  else if p = 0x6D then .trigger 8
  else if 0x80 ≤ p && p ≤ 0xA1 then .source
  else if 0xE0 ≤ p && p ≤ 0xFF then
    (match p % 4 with | 0 => .operand | 1 => .operand | 2 => .trigger (16 + (p - 0xE0) / 4) | _ => .result)
  else .reserved

/-- A port that a move may read, and one that it may write (08 R276). -/
def canRead (p : Nat) : Bool := match portKind p with | .reg | .operand | .result | .source => true | _ => false
def canWrite (p : Nat) : Bool := match portKind p with | .reg | .operand | .trigger _ => true | _ => false

/-- The coprocessor slot that a port belongs to. -/
def portSlot (p : Nat) : Option Nat := if 0xE0 ≤ p && p ≤ 0xFF then some ((p - 0xE0) / 4) else none

/-- The RES port of a slot. -/
def resSlot (p : Nat) : Option Nat := if 0xE0 ≤ p && p ≤ 0xFF && p % 4 = 3 then some ((p - 0xE0) / 4) else none

/-- A move: its destination and its source. -/
structure Move where
  dst : Nat
  src : Nat
  deriving DecidableEq, Repr

/-- The move of 16 bits. -/
def moveOf (n : Nat) : Move := ⟨n / 256 % 256, n % 256⟩

/-- The moves of a word that are executed: move 1 is not where move 0 takes it as its immediate. -/
def movesOf (w : Word) : List Move :=
  let m0 := moveOf (w.toNat % 65536)
  if m0.src = 0xA0 || m0.src = 0xA1 then [m0] else [m0, moveOf (w.toNat / 65536)]

/-- The rules of R276 that the word alone breaks. -/
def wordIllegal (w : Word) : Bool :=
  let ms := movesOf w
  ms.any (fun m => !canRead m.src || !canWrite m.dst)
    || (match ms with
        | [m0, m1] =>
          (m0.dst = m1.dst && m0.dst ≠ 0x1F)
            || (match portKind m0.dst, portKind m1.dst with | .trigger a, .trigger b => a = b | _, _ => false)
            || ((resSlot m0.src).isSome && resSlot m0.src = resSlot m1.src)
            || m1.src = 0xA0 || m1.src = 0xA1
            || ((m0.dst = 0x60 || m0.dst = 0x6B) && m1 ≠ ⟨0x1F, 0x1F⟩)
            || ((m1.dst = 0x60 || m1.dst = 0x6B) && m0 ≠ ⟨0x1F, 0x1F⟩)
        | _ => false)

/-- What must not stand in a delay word (08 R284): a branch, EV.WAIT, TRAP, BRK, RTE. -/
def slotBreaks (m : Move) : Bool := (0x59 ≤ m.dst && m.dst ≤ 0x5E) || m.dst = 0x60 || (0x69 ≤ m.dst && m.dst ≤ 0x6B)

/-! ## Banks (08 R286) -/

/-- The bank in use. -/
def Eft.bank (t : Eft) : TBank := if t.sr.exl then t.bank1 else t.bank0

/-- The bank in use changed. -/
def Eft.modBank (t : Eft) (f : TBank → TBank) : Eft :=
  if t.sr.exl then { t with bank1 := f t.bank1 } else { t with bank0 := f t.bank0 }

/-- ACCnL and ACCnH as they read. -/
def accL (x : BitVec 48) : Word := x.setWidth 32
def accH (x : BitVec 48) : Word := BitVec.ofInt 32 (sarI x.toInt 32)
/-- ACCnL and ACCnH written. -/
def putAccL (x : BitVec 48) (v : Word) : BitVec 48 := BitVec.ofNat 48 (x.toNat / 2 ^ 32 * 2 ^ 32 + v.toNat)
def putAccH (x : BitVec 48) (v : Word) : BitVec 48 := BitVec.ofNat 48 (v.toNat % 2 ^ 16 * 2 ^ 32 + x.toNat % 2 ^ 32)

/-- A source port read; RES ports apart. `hi` are bits 31..16 of the word. -/
def Eft.readPort (t : Eft) (e : Nat) (hi : BitVec 16) (p : Nat) : Word :=
  let b := t.bank
  if p < 8 then t.d.toList.getD p 0#32
  else if p < 16 then t.a.toList.getD (p - 8) 0#32
  else if 0x80 ≤ p && p < 0xA0 then BitVec.ofInt 32 ((p : Int) - 0x90)
  else if 0xE0 ≤ p && p % 4 = 0 then b.opA.toList.getD ((p - 0xE0) / 4) 0#32
  else if 0xE0 ≤ p && p % 4 = 1 then b.opB.toList.getD ((p - 0xE0) / 4) 0#32
  else match p with
    | 0x10 => accL t.acc[0]
    | 0x11 => accH t.acc[0]
    | 0x12 => accL t.acc[1]
    | 0x13 => accH t.acc[1]
    | 0x14 => t.sr.word e
    | 0x15 => t.epc
    | 0x16 => t.esr
    | 0x17 => t.ebt
    | 0x18 => t.efa
    | 0x20 => b.alu
    | 0x2A => b.aluR
    | 0x30 => b.shf
    | 0x35 => b.shfR
    | 0x38 => b.mul
    | 0x48 => b.lsuB
    | 0x49 => b.lsuD
    | 0x52 => b.lsuR
    | 0x58 => b.brC
    | 0x63 => b.evR
    | 0x6C => b.cacheA
    | 0xA0 => hi.signExtend 32
    | 0xA1 => hi.setWidth 32 <<< 16
    | _ => 0#32

/-- A register or operand port written; SR's flags are set with the triggers'. -/
def Eft.writePort (t : Eft) (p : Nat) (v : Word) : Eft :=
  if p < 8 then { t with d := t.d.setIfInBounds p v }
  else if p < 16 then { t with a := t.a.setIfInBounds (p - 8) v }
  else if 0xE0 ≤ p && p % 4 = 0 then t.modBank (fun b => { b with opA := b.opA.setIfInBounds ((p - 0xE0) / 4) v })
  else if 0xE0 ≤ p && p % 4 = 1 then t.modBank (fun b => { b with opB := b.opB.setIfInBounds ((p - 0xE0) / 4) v })
  else match p with
    | 0x10 => { t with acc := t.acc.set 0 (putAccL t.acc[0] v) }
    | 0x11 => { t with acc := t.acc.set 0 (putAccH t.acc[0] v) }
    | 0x12 => { t with acc := t.acc.set 1 (putAccL t.acc[1] v) }
    | 0x13 => { t with acc := t.acc.set 1 (putAccH t.acc[1] v) }
    | 0x15 => t.putX 0 v
    | 0x16 => t.putX 1 v
    | 0x17 => t.putX 2 v
    | 0x18 => t.putX 3 v
    | 0x20 => t.modBank (fun b => { b with alu := v })
    | 0x30 => t.modBank (fun b => { b with shf := v })
    | 0x38 => t.modBank (fun b => { b with mul := v })
    | 0x48 => t.modBank (fun b => { b with lsuB := v })
    | 0x49 => t.modBank (fun b => { b with lsuD := v })
    | 0x58 => t.modBank (fun b => { b with brC := v })
    | 0x6C => t.modBank (fun b => { b with cacheA := v })
    | _ => t

/-! ## Triggers -/

/-- A move with the value of its source. -/
structure Fire where
  dst : Nat
  v : Word
  deriving DecidableEq, Repr

/-- ALU and CMP/TST triggers: the result (none for CMP and TST) and the flags; `f` are the flags at the start of the word. -/
def aluTrigger (p : Nat) (f : SR) (o v : Word) : Option (Option Word × (SR → SR)) :=
  let both := fun (r : AluOut) => some (some r.value, fun (g : SR) => g.nzcv r)
  match p with
  | 0x21 => both (aluAdd o v false)
  | 0x22 => both (aluAdd o v f.c)
  | 0x23 => both (aluSub o v false)
  | 0x24 => both (aluSub o v f.c)
  | 0x25 => both (aluLogic (o &&& v))
  | 0x26 => both (aluLogic (o ||| v))
  | 0x27 => both (aluLogic (o ^^^ v))
  | 0x28 => some (some (sMin o v), fun g => g.nz (plain (sMin o v)))
  | 0x29 => some (some (sMax o v), fun g => g.nz (plain (sMax o v)))
  | 0x2B => some (none, fun g => g.nzcv (aluSub o v false))
  | 0x2C => some (none, fun g => g.nzcv (aluLogic (o &&& v)))
  | _ => none

/-- Multiply triggers: the accumulator and the exact value, from the accumulators at the start of the word (08 R281). -/
def mulTrigger (p : Nat) (acc : Vector (BitVec 48) 2) (o v : Word) : Option (Fin 2 × Int) :=
  let h := mulH o v
  let w := mulW o v
  match p with
  | 0x39 => some (0, h)
  | 0x3A => some (0, accInt acc[0] + h)
  | 0x3B => some (0, accInt acc[0] - h)
  | 0x3C => some (1, h)
  | 0x3D => some (1, accInt acc[1] + h)
  | 0x3E => some (1, accInt acc[1] - h)
  | 0x40 => some (0, w)
  | 0x41 => some (0, accInt acc[0] + w)
  | 0x42 => some (0, accInt acc[0] - w)
  | 0x43 => some (1, w)
  | 0x44 => some (1, accInt acc[1] + w)
  | 0x45 => some (1, accInt acc[1] - w)
  | _ => none

/-- Load triggers: size in bytes and extension; store triggers: size. -/
def loadTrigger (p : Nat) : Option (Nat × Bool) :=
  match p with
  | 0x4A => some (4, true) | 0x4B => some (2, true) | 0x4C => some (2, false) | 0x4D => some (1, true)
  | 0x4E => some (1, false) | _ => none
def storeTrigger (p : Nat) : Option Nat := match p with | 0x4F => some 4 | 0x50 => some 2 | 0x51 => some 1 | _ => none

/-- The target and mode of a branch trigger, where it is taken: `sr` the flags at the start of the word. -/
def branchTrigger (p : Nat) (pc : Word) (sr : SR) (brC v : Word) : Option (Word × Bool) :=
  let rel := pc + (v <<< 2)
  match p with
  | 0x59 => some (rel, sr.mode)
  | 0x5A => if condHolds sr (brC.toNat % 16) then some (rel, sr.mode) else none
  | 0x5B => some (v, true)
  | 0x5C => some (v, false)
  | 0x5D => some (v, true)
  | 0x5E => some (v, false)
  | _ => none

/-- A misaligned data address or target of a trigger (07 R256, 08 R283). -/
def fireMisaligned (u : Eft) (t : Eft) (f : Fire) : Option Word :=
  let ea := u.bank.lsuB + f.v
  match loadTrigger f.dst, storeTrigger f.dst, branchTrigger f.dst t.pc t.sr u.bank.brC f.v with
  | some (k, _), _, _ => if ea.toNat % k ≠ 0 then some ea else none
  | none, some k, _ => if ea.toNat % k ≠ 0 then some ea else none
  | none, none, some (a, _) => if a.toNat % 4 ≠ 0 then some a else none
  | none, none, none => none

/-- The register effects of a trigger or of a write of SR, in the order of the moves: later flags stand (08 R278). `t` is the
eft at the start of the word, `u` after step 2 of R275 and the earlier triggers. -/
def Eft.fire (t u : Eft) (f : Fire) : Eft :=
  let b := u.bank
  if f.dst = 0x14 then { u with sr := u.sr.write f.v }
  else match aluTrigger f.dst t.sr b.alu f.v with
    | some (r, g) => { (match r with | some x => u.modBank (fun b => { b with aluR := x }) | none => u) with sr := g u.sr }
    | none =>
      if 0x31 ≤ f.dst && f.dst ≤ 0x34 then
        let o := aluShift (match f.dst with | 0x31 => .shl | 0x32 => .shr | 0x33 => .sar | _ => .ror) b.shf f.v.toNat
        { u.modBank (fun b => { b with shfR := o.value }) with sr := u.sr.nzcv o }
      else match mulTrigger f.dst t.acc b.mul f.v with
        | some (n, x) =>
          let o := sat48 x
          { u with fly := u.fly ++ [⟨.acc n, o.1, 2⟩], sr := u.sr.av n o.2 }
        | none => if f.dst = 0x5D || f.dst = 0x5E then u.putA 6 (t.pc + 8#32) else u

/-! ## The word (08 R275) -/

/-- A source read with its slot's result (08 R292, R294). -/
def Hw.readRes (h : Hw) (e : Fin 4) (t : Eft) (hi : BitVec 16) (m : Move) : Hw × Word × CopRead :=
  match resSlot m.src with
  | some k =>
    let p := h.copRead e k
    match p.2 with
    | .word w => (p.1, w, .word w)
    | r => (p.1, 0#32, r)
  | none => (h, t.readPort e hi m.src, .word 0#32)

/-- The first failed entry of a slot that the ports of a word name (08 R299). -/
def Hw.portFailure (h : Hw) (e : Fin 4) (ms : List Move) : Option (Hw × Word) :=
  (ms.flatMap (fun m => [portSlot m.src, portSlot m.dst])).findSome? (fun k => k.bind (fun k => h.copFailure e k))

/-- A command issued by a Cs.CMD trigger (08 R294). -/
def Hw.fireCmd (h : Hw) (e : Fin 4) (u : Eft) (f : Fire) : Hw × CopIssue :=
  match portSlot f.dst with
  | some k =>
    if f.dst % 4 ≠ 2 then (h, .taken)
    else if 256 ≤ f.v.toNat then (h, .raise (copEfa 0 (f.v.toNat % 256) k 1))
    else h.copIssue e k f.v.toNat (u.bank.opA.toList.getD k 0#32) (u.bank.opB.toList.getD k 0#32)
  | none => (h, .taken)

/-- The load that a word triggers (08 R282): its value, an error response, or it holds the word. -/
def Hw.fireLoad (h : Hw) (e : Fin 4) (a k : Nat) (ecc : Ecc) : Hw × ReadAns :=
  let t := h.eft e
  match t.wordData with
  | some (b, d) =>
    let h := h.modEft e (fun t => { t with wordData := none })
    if a = b then (h, match d with | some l => .got (fieldAt l 0 k) | none => .bad) else h.eftRead e .word a k false ecc
  | none =>
    if t.fillBad = some (lineOf a) then (h.modEft e (fun t => { t with fillBad := none }), .bad)
    else h.eftRead e .word a k false ecc

/-- The triggers that act on the device, after the checks: flags, caches. -/
def Hw.fireDevice (h : Hw) (e : Fin 4) (u : Eft) (f : Fire) : Hw × Eft :=
  if f.dst = 0x61 then
    let p := h.poll f.v
    (p.1, { u.putEvR p.2 with sr := { u.sr with z := p.2 == 0#32 } })
  else if f.dst = 0x62 then (h.setFlags f.v.toNat, u)
  else if f.dst = 0x6D then ((h.cacheOp e f.v.toNat u.bank.cacheA.toNat).getD h, u.inCacheOp)
  else (h, u)

/-- What of an eft its memory accesses keep in the device, carried over to the registers of `u`. -/
def Eft.withBus (u v : Eft) : Eft :=
  { u with out := v.out, storeErrs := v.storeErrs, fillBad := v.fillBad, fetchBad := v.fetchBad, wordData := v.wordData }

/-- One T-mode word: sources, register and operand ports, triggers; the exceptions in the order of R258. -/
def Hw.wordBody (h : Hw) (e : Fin 4) (t : Eft) (w : Word) (ecc : Ecc) : IRes :=
  let same : IRes := { hw := h, eft := t }
  let ms := movesOf w
  let hi := BitVec.ofNat 16 (w.toNat / 65536)
  let slotted := t.slot.isSome && ms.any slotBreaks
  let m0 := ms.getD 0 ⟨0x1F, 0x1F⟩
  let m1 := ms.getD 1 ⟨0x1F, 0x1F⟩
  let r0 := h.readRes e t hi m0
  let r1 := r0.1.readRes e t hi m1
  let waits := if r0.2.2 = .wait then resSlot m0.src else if r1.2.2 = .wait then resSlot m1.src else none
  let f0 : Fire := ⟨m0.dst, r0.2.1⟩
  let f1 : Fire := ⟨m1.dst, r1.2.1⟩
  let fires := [f0, f1]
  let u := (t.writePort f0.dst f0.v).writePort f1.dst f1.v
  let badOp := fires.any (fun f => (f.dst = 0x5A && u.bank.brC.toNat % 16 = 15) || (f.dst = 0x6D && 5 < f.v.toNat))
  match waits with
  | some k => if slotted then { same with exc := some ⟨2, t.pc, none⟩ } else { same with stall := some (.copRead k) }
  | none =>
    if badOp then { same with exc := some ⟨1, t.pc, none⟩ }
    else if slotted then { same with exc := some ⟨2, t.pc, none⟩ }
    else match fires.findSome? (fireMisaligned u t) with
    | some a => { same with exc := some ⟨6, t.pc, some a⟩ }
    | none =>
      let c0 := r1.1.fireCmd e u f0
      let c1 := c0.1.fireCmd e u f1
      let full := if c0.2 = .stall then portSlot f0.dst else if c1.2 = .stall then portSlot f1.dst else none
      if t.draining && fires.any (fun f => f.dst = 0x62 || f.dst = 0x68) then { same with stall := some .drain }
      else match full with
      | some k => { same with stall := some (.copIssue k) }
      | none =>
        let ld := fires.findSome? (fun f => (loadTrigger f.dst).map (fun k => ((u.bank.lsuB + f.v).toNat, k)))
        let l := match ld with
          | some (a, k, _) => h.fireLoad e a k ecc
          | none => (h, .got 0)
        let failed := l.1.portFailure e ms
        let efa := match failed, r0.2.2, r1.2.2, c0.2, c1.2 with
          | some f, _, _, _, _ => some f.2
          | none, .raise x, _, _, _ => some x
          | none, _, .raise x, _, _ => some x
          | none, _, _, .raise x, _ => some x
          | none, _, _, _, .raise x => some x
          | none, _, _, _, _ => none
        match l.2, efa with
        | .wait _, _ => { hw := l.1, eft := t, stall := some .data }
        | .bad, _ => { hw := l.1, eft := t, exc := some ⟨5, t.pc, ld.map (fun x => BitVec.ofNat 32 x.1)⟩ }
        | .got _, some x => { hw := (match failed with | some f => f.1 | none => l.1), eft := t, exc := some ⟨9, t.pc, some x⟩ }
        | .got n, none =>
          match fires.find? (fun f => f.dst = 0x69 || f.dst = 0x6A) with
          | some f =>
            if f.dst = 0x69 then
              { hw := l.1, eft := t, exc := some ⟨7, t.pc + 4#32, some (BitVec.ofNat 32 (f.v.toNat % 256))⟩ }
            else { hw := l.1, eft := t, exc := some ⟨8, t.pc, none⟩ }
          | none =>
            let st := fires.findSome? (fun f => (storeTrigger f.dst).map (fun k => ((u.bank.lsuB + f.v).toNat, k)))
            let p := match st with
              | some (a, k) => l.1.eftWrite e a k u.bank.lsuD.toNat false ecc
              | none => (l.1, .done)
            match p.2 with
            | .wait why => { hw := p.1, eft := t, stall := some why }
            | .bad => { hw := p.1, eft := t, exc := some ⟨5, t.pc, st.map (fun x => BitVec.ofNat 32 x.1)⟩ }
            | .done =>
              let g := (((p.1.readRes e t hi m0).1.readRes e t hi m1).1.fireCmd e u f0).1.fireCmd e u f1
              let u := t.fire (t.fire (u.withBus (g.1.eft e)) f0) f1
              let u := match ld with
                | some (_, k, sg) =>
                  { u with fly := u.fly ++ [⟨.lsu u.sr.exl, (loadWord sg k n).setWidth 48, 2⟩] }
                | none => u
              let d0 := g.1.fireDevice e u f0
              let d1 := d0.1.fireDevice e (d0.2.withBus (d0.1.eft e)) f1
              let u := d1.2.withBus (d1.1.eft e)
              match fires.find? (fun f => f.dst = 0x60), fires.find? (fun f => f.dst = 0x6B) with
              | some f, _ =>
                let b := d1.1.waitBody u f.v .evR
                if b.wait.isSome then b else { b with eft := b.eft.nextWord }
              | none, some _ => let b := d1.1.rteBody u; { b with eft := b.eft.nextWord }
              | none, none =>
                let br := fires.findSome? (fun f =>
                  if 0x59 ≤ f.dst && f.dst ≤ 0x5E then
                    some (match branchTrigger f.dst t.pc t.sr u.bank.brC f.v with
                      | some (a, m) => (⟨a, m, false⟩ : Slot)
                      | none => ⟨t.pc + 8#32, t.sr.mode, false⟩)
                  else none)
                { hw := d1.1, eft := u.nextWord, branch := br }
/-- A T-mode word of eft `e` issues. -/
def Hw.tIssue (h : Hw) (e : Fin 4) (w : Word) (ecc : Ecc) : Hw :=
  h.issue e true (wordIllegal w) false (fun h t => h.wordBody e t w ecc)

/-- The word whose move 0 is `dst` ← `src` and whose bits 31..16 are `other`. -/
def tWord (dst src : Nat) (other : BitVec 16) : Word := BitVec.ofNat 32 (src % 256 + dst % 256 * 256 + other.toNat * 65536)

/-! ## Meanings: a command names the eft and its word; those of one trigger, the source of move 0 and bits 31..16 -/

/-- TMODE_WORD: `ecc`: what a granule or local RAM word that it reads shows. -/
def execTmodeWord (e : Fin 4) (word : Word) (ecc : Ecc) (s : State) : Host.Outcome State Fault Refusal :=
  s.onHw fun h => h.tIssue e word ecc

/-- T_ADD. -/
def execTAdd (e : Fin 4) (src : Fin 256) (other : BitVec 16) (s : State) : Host.Outcome State Fault Refusal :=
  s.onHw fun h => h.tIssue e (tWord 0x21 src other) .clean
/-- T_ADDC. -/
def execTAddc (e : Fin 4) (src : Fin 256) (other : BitVec 16) (s : State) : Host.Outcome State Fault Refusal :=
  s.onHw fun h => h.tIssue e (tWord 0x22 src other) .clean
/-- T_SUB. -/
def execTSub (e : Fin 4) (src : Fin 256) (other : BitVec 16) (s : State) : Host.Outcome State Fault Refusal :=
  s.onHw fun h => h.tIssue e (tWord 0x23 src other) .clean
/-- T_SUBB. -/
def execTSubb (e : Fin 4) (src : Fin 256) (other : BitVec 16) (s : State) : Host.Outcome State Fault Refusal :=
  s.onHw fun h => h.tIssue e (tWord 0x24 src other) .clean
/-- T_AND. -/
def execTAnd (e : Fin 4) (src : Fin 256) (other : BitVec 16) (s : State) : Host.Outcome State Fault Refusal :=
  s.onHw fun h => h.tIssue e (tWord 0x25 src other) .clean
/-- T_OR. -/
def execTOr (e : Fin 4) (src : Fin 256) (other : BitVec 16) (s : State) : Host.Outcome State Fault Refusal :=
  s.onHw fun h => h.tIssue e (tWord 0x26 src other) .clean
/-- T_XOR. -/
def execTXor (e : Fin 4) (src : Fin 256) (other : BitVec 16) (s : State) : Host.Outcome State Fault Refusal :=
  s.onHw fun h => h.tIssue e (tWord 0x27 src other) .clean
/-- T_MIN. -/
def execTMin (e : Fin 4) (src : Fin 256) (other : BitVec 16) (s : State) : Host.Outcome State Fault Refusal :=
  s.onHw fun h => h.tIssue e (tWord 0x28 src other) .clean
/-- T_MAX. -/
def execTMax (e : Fin 4) (src : Fin 256) (other : BitVec 16) (s : State) : Host.Outcome State Fault Refusal :=
  s.onHw fun h => h.tIssue e (tWord 0x29 src other) .clean
/-- T_CMP. -/
def execTCmp (e : Fin 4) (src : Fin 256) (other : BitVec 16) (s : State) : Host.Outcome State Fault Refusal :=
  s.onHw fun h => h.tIssue e (tWord 0x2B src other) .clean
/-- T_TST. -/
def execTTst (e : Fin 4) (src : Fin 256) (other : BitVec 16) (s : State) : Host.Outcome State Fault Refusal :=
  s.onHw fun h => h.tIssue e (tWord 0x2C src other) .clean
/-- T_SHL. -/
def execTShl (e : Fin 4) (src : Fin 256) (other : BitVec 16) (s : State) : Host.Outcome State Fault Refusal :=
  s.onHw fun h => h.tIssue e (tWord 0x31 src other) .clean
/-- T_SHR. -/
def execTShr (e : Fin 4) (src : Fin 256) (other : BitVec 16) (s : State) : Host.Outcome State Fault Refusal :=
  s.onHw fun h => h.tIssue e (tWord 0x32 src other) .clean
/-- T_SAR. -/
def execTSar (e : Fin 4) (src : Fin 256) (other : BitVec 16) (s : State) : Host.Outcome State Fault Refusal :=
  s.onHw fun h => h.tIssue e (tWord 0x33 src other) .clean
/-- T_ROR. -/
def execTRor (e : Fin 4) (src : Fin 256) (other : BitVec 16) (s : State) : Host.Outcome State Fault Refusal :=
  s.onHw fun h => h.tIssue e (tWord 0x34 src other) .clean
/-- T_MUL_H, into ACC0 or ACC1. -/
def execTMulH (e : Fin 4) (n : Fin 2) (src : Fin 256) (other : BitVec 16) (s : State) : Host.Outcome State Fault Refusal :=
  s.onHw fun h => h.tIssue e (tWord (0x39 + 3 * n.val) src other) .clean
/-- T_MAC_H, into ACC0 or ACC1. -/
def execTMacH (e : Fin 4) (n : Fin 2) (src : Fin 256) (other : BitVec 16) (s : State) : Host.Outcome State Fault Refusal :=
  s.onHw fun h => h.tIssue e (tWord (0x3A + 3 * n.val) src other) .clean
/-- T_MSU_H, into ACC0 or ACC1. -/
def execTMsuH (e : Fin 4) (n : Fin 2) (src : Fin 256) (other : BitVec 16) (s : State) : Host.Outcome State Fault Refusal :=
  s.onHw fun h => h.tIssue e (tWord (0x3B + 3 * n.val) src other) .clean
/-- T_MUL_W, into ACC0 or ACC1. -/
def execTMulW (e : Fin 4) (n : Fin 2) (src : Fin 256) (other : BitVec 16) (s : State) : Host.Outcome State Fault Refusal :=
  s.onHw fun h => h.tIssue e (tWord (0x40 + 3 * n.val) src other) .clean
/-- T_MAC_W, into ACC0 or ACC1. -/
def execTMacW (e : Fin 4) (n : Fin 2) (src : Fin 256) (other : BitVec 16) (s : State) : Host.Outcome State Fault Refusal :=
  s.onHw fun h => h.tIssue e (tWord (0x41 + 3 * n.val) src other) .clean
/-- T_MSU_W, into ACC0 or ACC1. -/
def execTMsuW (e : Fin 4) (n : Fin 2) (src : Fin 256) (other : BitVec 16) (s : State) : Host.Outcome State Fault Refusal :=
  s.onHw fun h => h.tIssue e (tWord (0x42 + 3 * n.val) src other) .clean
/-- T_LOAD: LD.W, LD.H, LDU.H, LD.B or LDU.B. -/
def execTLoad (e : Fin 4) (kind : Fin 5) (src : Fin 256) (other : BitVec 16) (ecc : Ecc) (s : State) : Host.Outcome State Fault Refusal :=
  s.onHw fun h => h.tIssue e (tWord (0x4A + kind.val) src other) ecc
/-- T_STORE: ST.W, ST.H or ST.B. -/
def execTStore (e : Fin 4) (kind : Fin 3) (src : Fin 256) (other : BitVec 16) (ecc : Ecc) (s : State) : Host.Outcome State Fault Refusal :=
  s.onHw fun h => h.tIssue e (tWord (0x4F + kind.val) src other) ecc
/-- T_BRA. -/
def execTBra (e : Fin 4) (src : Fin 256) (other : BitVec 16) (s : State) : Host.Outcome State Fault Refusal :=
  s.onHw fun h => h.tIssue e (tWord 0x59 src other) .clean
/-- T_BRC. -/
def execTBrc (e : Fin 4) (src : Fin 256) (other : BitVec 16) (s : State) : Host.Outcome State Fault Refusal :=
  s.onHw fun h => h.tIssue e (tWord 0x5A src other) .clean
/-- T_JMPT. -/
def execTJmpt (e : Fin 4) (src : Fin 256) (other : BitVec 16) (s : State) : Host.Outcome State Fault Refusal :=
  s.onHw fun h => h.tIssue e (tWord 0x5B src other) .clean
/-- T_JMPA. -/
def execTJmpa (e : Fin 4) (src : Fin 256) (other : BitVec 16) (s : State) : Host.Outcome State Fault Refusal :=
  s.onHw fun h => h.tIssue e (tWord 0x5C src other) .clean
/-- T_JSRT. -/
def execTJsrt (e : Fin 4) (src : Fin 256) (other : BitVec 16) (s : State) : Host.Outcome State Fault Refusal :=
  s.onHw fun h => h.tIssue e (tWord 0x5D src other) .clean
/-- T_JSRA. -/
def execTJsra (e : Fin 4) (src : Fin 256) (other : BitVec 16) (s : State) : Host.Outcome State Fault Refusal :=
  s.onHw fun h => h.tIssue e (tWord 0x5E src other) .clean
/-- T_EV_WAIT. -/
def execTEvWait (e : Fin 4) (src : Fin 256) (other : BitVec 16) (s : State) : Host.Outcome State Fault Refusal :=
  s.onHw fun h => h.tIssue e (tWord 0x60 src other) .clean
/-- T_EV_POLL. -/
def execTEvPoll (e : Fin 4) (src : Fin 256) (other : BitVec 16) (s : State) : Host.Outcome State Fault Refusal :=
  s.onHw fun h => h.tIssue e (tWord 0x61 src other) .clean
/-- T_EV_SIG. -/
def execTEvSig (e : Fin 4) (src : Fin 256) (other : BitVec 16) (s : State) : Host.Outcome State Fault Refusal :=
  s.onHw fun h => h.tIssue e (tWord 0x62 src other) .clean
/-- T_SYNC. -/
def execTSync (e : Fin 4) (src : Fin 256) (other : BitVec 16) (s : State) : Host.Outcome State Fault Refusal :=
  s.onHw fun h => h.tIssue e (tWord 0x68 src other) .clean
/-- T_TRAP. -/
def execTTrap (e : Fin 4) (src : Fin 256) (other : BitVec 16) (s : State) : Host.Outcome State Fault Refusal :=
  s.onHw fun h => h.tIssue e (tWord 0x69 src other) .clean
/-- T_BRK. -/
def execTBrk (e : Fin 4) (src : Fin 256) (other : BitVec 16) (s : State) : Host.Outcome State Fault Refusal :=
  s.onHw fun h => h.tIssue e (tWord 0x6A src other) .clean
/-- T_RTE. -/
def execTRte (e : Fin 4) (src : Fin 256) (other : BitVec 16) (s : State) : Host.Outcome State Fault Refusal :=
  s.onHw fun h => h.tIssue e (tWord 0x6B src other) .clean
/-- T_CACHE. -/
def execTCache (e : Fin 4) (src : Fin 256) (other : BitVec 16) (s : State) : Host.Outcome State Fault Refusal :=
  s.onHw fun h => h.tIssue e (tWord 0x6D src other) .clean
/-- T_CS_CMD. -/
def execTCsCmd (e : Fin 4) (slot : Fin 8) (src : Fin 256) (other : BitVec 16) (s : State) : Host.Outcome State Fault Refusal :=
  s.onHw fun h => h.tIssue e (tWord (0xE2 + 4 * slot.val) src other) .clean
/-- T_CS_RES_READ. -/
def execTCsResRead (e : Fin 4) (slot : Fin 8) (dst : Fin 256) (other : BitVec 16) (s : State) : Host.Outcome State Fault Refusal :=
  s.onHw fun h => h.tIssue e (tWord dst (0xE3 + 4 * slot.val) other) .clean

end Sys2Proof.Machine
end

