-- ==== Sys2Proof/Machine/PenCmds.lean ====
section
/-! DEFINITION. What the commands of protected content do (12 R409 to R436, 14 R495 to R502, 18 R621), and the records of an
image's pennant section, which act as they do (19 R671). -/

namespace Sys2Proof.Machine

open Sys2Proof

/-! ## Pennant commands -/

/-- PEN_CELL_SET (12 R414, R420, R421). -/
def Hw.penCellSet (s : Hw) (cell : Nat) (desc : List Byte) : Hw × Answer :=
  if 63 < cell then (s, badParam 0)
  else match penCellBad desc with
    | some i => (s, badParam (1 + i))
    | none =>
      let d := (List.range 4).map (fun i => fieldAt desc (4 * i) 4)
      ((s.modCell cell (fun c => { c with pend := d })).startRefs cell, okWith [])

/-- PEN_CELL_ENABLE: the pending enable mask. -/
def Hw.penCellEnable (s : Hw) (mask : Nat) : Hw :=
  { s with pen := { s.pen with cells := s.pen.cells.mapIdx (fun k c => { c with penEn := bit mask k }) } }

/-- The references of the cells that `p` picks are computed again. -/
def Hw.startRefsOf (s : Hw) (p : PenCell → Bool) : Hw :=
  { s with pen := { s.pen with cells := s.pen.cells.map (fun c => if p c then { c with ready := false } else c) } }

/-- PEN_STORE_WRITE (12 R420, R421): store bytes change at once. -/
def Hw.penStoreWrite (s : Hw) (off : Nat) (data : List Byte) : Hw × Answer :=
  if 0x80000 < off + data.length then (s, badParam 0)
  else
    let hit := fun (c : PenCell) => dTouches c.pend off (off + data.length) || dTouches c.lat off (off + data.length)
    ((s.setBytes (0x01000000 + off) data).startRefsOf hit, okWith [])

/-- PEN_PALETTE_WRITE (12 R409, R421): entries of the pending palette. -/
def Hw.penPalette (s : Hw) (first : Nat) (entries : List Byte) : Hw × Answer :=
  let n := entries.length / 4
  if n = 0 || 256 < first + n then (s, badParam 1)
  else
    let pal := foldUp (fun p i => Store.put (fun _ => 0) p (first + i) (fieldAt entries (4 * i) 3)) 0 n s.pen.palPend
    (({ s with pen := { s.pen with palPend := pal } } : Hw).startRefsOf (fun c => c.penEn || c.latEn), okWith [])

/-- PEN_MODE (12 R435): pennant-only mode starts a raster that is stopped. -/
def Hw.penMode (s : Hw) (mode : Nat) : Hw × Answer :=
  if 1 < mode then (s, badParam 0)
  else
    let s := { s with pen := { s.pen with modePend := mode = 1 } }
    (if mode = 1 && s.on 31 && s.timState = 0 then s.runStart else s, okWith [])

/-- PEN_ALARM_CLEAR (12 R434): the fault record, cleared with CAUSE and the PEN events. -/
def Hw.penAlarmClear (s : Hw) : Hw × Answer :=
  let p := s.pen
  let rec8 := [p.cause, p.recKind, p.recCell, p.recWatch].map (BitVec.ofNat 8) ++ leBytes 4 p.recF
  (({ s with pen := { p with cause := 0, recKind := 0, recCell := 0xFF, recWatch := 0xFF, recF := 0 } } : Hw).setReg bPEN 0#32,
    okWith rec8)

/-- PEN_GAP_SET (12 R420). -/
def Hw.penGapSet (s : Hw) (gap : Nat) : Hw × Answer :=
  if 8 < gap then (s, badParam 0) else (s.wr F.PEN_STAT_GAPMAX gap, okWith [])

/-- SIGTAB_WRITE (12 R416, R418). -/
def Hw.sigtabWrite (s : Hw) (k : Nat) (r : List Byte) : Hw × Answer :=
  if 31 < k then (s, badParam 0)
  else match sigtabBad r with
    | some i => (s, badParam (1 + i))
    | none => (s.writeSig k r, okWith [])

/-- PEN_STATUS (12 R436). -/
def Hw.penStatus (s : Hw) : List Byte :=
  leBytes 4 (s.rd F.PEN_FAIL 0) ++ leBytes 4 (s.rd F.PEN_FAIL 1)
    ++ leBytes 1 (b2n s.pen.modeLat + 2 * b2n s.pennAlarm + 4 * b2n (s.pen.cells.any (fun c => !c.ready)) + 8 * b2n s.penWatching)
    ++ leBytes 1 s.pen.cause ++ leBytes 1 (s.rd F.PEN_STAT_GAPMAX)
    ++ leBytes 1 (s.pen.cells.filter (·.latEn)).length ++ leBytes 4 (s.rd F.PEN_CHKCNT_FRAMES)

/-! ## AVAS_CONFIG (14 R501, R502) -/

/-- The bytes of sample data that a descriptor names. -/
def vdBytes (d : List Nat) : Nat :=
  match vdFmt d with | 0 => vdLength d | 1 => 2 * vdLength d | _ => 64 * cdiv (vdLength d) 120

/-- The offset of the first offending byte of an AVAS record, given the mapping and the rules in force (14 R502). -/
def Hw.avasBad (s : Hw) (r : List Byte) : Option Nat :=
  let h := fun i => fieldAt r i 2
  let zeroFrom := fun (k : Nat) => (List.range 32).find? (fun i => decide (k ≤ i) && byteAt r i ≠ 0)
  let pitchBad := fun (i : Nat) => if h i = 0 || 16384 < h i then some i else none
  let when_ := fun (c : Bool) (i : Nat) => if c then some i else none
  let bad := match byteAt r 0 with
    | 0 =>
      let d := vdWords (r.drop 8)
      [when_ (15 < byteAt r 1) 1, pitchBad 4, when_ (256 < h 6) 6, (vdBad d).map (8 + ·),
        when_ (s.voc.plen < vdAddr d + vdBytes d) 8]
    | 1 =>
      let named := ofBits (s.voc.rules.filterMap (fun (q : Option AvasRule) => q.map AvasRule.voice))
      [when_ ((h 2 &&& named) % 256 ≠ 0) 2, when_ ((h 2 &&& named) ≠ 0) 3]
        ++ (List.range 4).map (fun j => pitchBad (10 + 6 * j))
        ++ (List.range 3).map (fun j => when_ (h (14 + 6 * j) < h (8 + 6 * j)) (14 + 6 * j))
    | 2 =>
      [when_ (15 < byteAt r 1) 1, when_ (31 < byteAt r 2 && byteAt r 2 ≠ 0xFF) 2, when_ (15 < byteAt r 3) 3,
        when_ (byteAt r 2 ≠ 0xFF && bit s.voc.map.vmask (byteAt r 3)) 3, when_ (1 < byteAt r 4) 4, zeroFrom 5]
    | 3 => [zeroFrom 6]
    | _ => [some 0]
  (bad.filterMap id).min?

/-- AVAS_CONFIG: the record is checked against those that wait for the next boundary too, and then waits with them. -/
def Hw.avasConfig (s : Hw) (r : List Byte) : Hw × Answer :=
  match (s.voc.recs.foldl Hw.avasApply s).avasBad r with
  | some i => (s, badParam i)
  | none => ({ s with voc := { s.voc with recs := s.voc.recs ++ [r] } }, okWith [])

/-! ## The pennant section (19 R671) -/

/-- A freeze watch set (12 R428). -/
def Hw.setWatch (s : Hw) (w : Nat) (r : List Byte) : Hw :=
  let s := (s.wr F.PEN_FRZCFG (fieldAt r 0 4) w).wr F.PEN_FRZCFG_1 (fieldAt r 4 4) w
  let en := s.rd F.PEN_FRZ_EN
  let rest := ofBits ((bitsOf 4 en).filter (· ≠ w))
  s.wr F.PEN_FRZ_EN (if bit (byteAt r 6) 0 then rest ||| 2 ^ w else rest)

/-- A CAN record fails its check (18 R622). -/
def canRecordBad (w : List Word) : Bool :=
  (List.range 4).any (fun i => readMask (0x040F0040 + 4 * i) (w.getD i 0#32) ≠ w.getD i 0#32)
    || canTimingBad (w.getD 1 0#32).toNat (w.getD 2 0#32).toNat

/-- A CAN record written, and kept for later switch-ons of PD43 (18 R621). -/
def Hw.canRecord (s : Hw) (w : List Word) : Hw :=
  let s := { s with can := { s.can with copy := some w } }
  if s.on 43 then s.canWriteCfg w else s

/-- One record of the section, checked and applied; none where it fails its check. -/
def Hw.penRecord (s : Hw) (kind : Nat) (b : List Byte) : Option Hw :=
  let n := b.length
  let zero := fun (lo hi : Nat) => ((b.drop lo).take (hi - lo)).all (fun x => x = 0#8)
  let good := fun (p : Hw × Answer) => if p.2.1 = 0 then some p.1 else none
  match kind with
  | 1 => if 5 ≤ n && n ≤ 4100 then good (s.penStoreWrite (fieldAt b 0 4) (b.drop 4)) else none
  | 2 => if 4 ≤ n && n = 4 + 4 * fieldAt b 2 2 && zero 1 2 then good (s.penPalette (byteAt b 0) (b.drop 4)) else none
  | 3 => if n = 20 && zero 1 4 then good (s.penCellSet (byteAt b 0) (b.drop 4)) else none
  | 4 => if n = 8 then some (s.penCellEnable (fieldAt b 0 8)) else none
  | 5 => if n = 20 && zero 1 4 then good (s.sigtabWrite (byteAt b 0) (b.drop 4)) else none
  | 6 =>
    if n = 12 && zero 1 4 && byteAt b 0 ≤ 3 && byteAt b 8 ≠ 0 && (byteAt b 9 ≤ 31 || byteAt b 9 = 0xFF) && byteAt b 10 ≤ 1
        && zero 11 12 then some (s.setWatch (byteAt b 0) (b.drop 4))
    else none
  | 7 =>
    if n = 8 && zero 1 4 then
      good (let p := s.penGapSet (byteAt b 0); (p.1.wr F.PEN_LOGBASE_ADDR (fieldAt b 4 4 / 16), p.2))
    else none
  | 8 => if n = 32 then good (s.avasConfig b) else none
  | 9 =>
    let f := fun i => fieldAt b (4 * i) 4
    if n = 16 && f 0 % 64 = 0 && f 1 ≤ 0x40000 && f 0 + f 1 ≤ 0x80000 && f 2 % 64 = 0 && f 2 + f 1 ≤ 0x1000000 && f 3 % 64 = 0
        && f 3 + f 1 ≤ 0x1000000 then
      some { s with voc := { s.voc with psrc := f 0, plen := f 1, psa := f 2, psa2 := f 3, base := f 2, silenced := false } }
    else none
  | 10 =>
    let w := (List.range 4).map (fun i => BitVec.ofNat 32 (fieldAt b (4 * i) 4))
    if n = 16 && !canRecordBad w then some (s.canRecord w) else none
  | 11 =>
    if n = 4 && byteAt b 0 ≤ 1 && byteAt b 1 ≤ 3 && zero 2 4 then
      some ((s.wr F.AUS_AS1CFG_RATE (byteAt b 0)).wr F.AUS_AS1CFG_SW (byteAt b 1))
    else none
  | _ => none

/-- The records of a section, in order, at most `fuel` of them: type and body; none where they do not fill it. -/
def sectionRecords : Nat → List Byte → Option (List (Nat × List Byte))
  | 0, _ => none
  | fuel + 1, bs =>
    if bs.isEmpty then some []
    else
      let n := fieldAt bs 2 2
      let pad := (4 - n % 4) % 4
      if bs.length < 4 + n + pad || !((bs.drop (4 + n)).take pad).all (fun x => x = 0#8) then none
      else (sectionRecords fuel (bs.drop (4 + n + pad))).map (fun l => (fieldAt bs 0 2, (bs.drop 4).take n) :: l)

/-- A section valid as the device stands, and what it makes of it (check 8 of 19 R666). -/
def Hw.penSection (s : Hw) (bs : List Byte) : Option Hw :=
  match sectionRecords (bs.length / 4 + 1) bs with
  | none => none
  | some l => l.foldl (fun o r => o.bind (fun (h : Hw) => h.penRecord r.1 r.2)) (some s)

end Sys2Proof.Machine
end

