-- ==== Sys2Proof/Machine/Ports.lean ====
section
/-! DEFINITION. What a command of the engine changes: what the device holds, and, through named acts alone, what the
non-volatile store and the fuses hold (19 R647 to R661); packets and their CRC-16 (04 R116 to R118); the ports, their
sessions and their replies (04 R103, R123 to R139, R147). -/

namespace Sys2Proof.Machine

open Sys2Proof

/-! ## What the store and the fuses undergo -/

/-- The only changes that the store and the fuses undergo. None clears a fuse (19 R661) or the factory lock (19 R660). -/
inductive NvAct where
  /-- A row write of a physical row, made for a region or for the engine records (19 R648, R652). -/
  | wrote (phys : Nat) (region : Option Nat)
  | content (phys : Nat) (data : List Byte)
  | taken (phys : Nat)
  | freed (phys : Nat)
  | worn (phys : Nat)
  | withdrawn (phys : Nat)
  | mapped (logical phys : Nat)
  | journalled
  | refusal (region : Nat) (refused : Bool)
  | record (r : NvRec)
  | pending (open_ : Bool)
  | zeroized
  | erased (phys : Nat)
  | blowKey (slot hash : Nat)
  | blowPrg (slot : Nat)
  | blowRev (slot : Nat)
  | blowLife (k : Nat)
  | blowSvn (n : Nat)
  deriving DecidableEq, Repr

/-- The write count of a physical row. -/
def Nv.count (n : Nv) (p : Nat) : Nat := Store.get (fun _ => 0) n.counts p

/-- The physical row of a logical row. -/
def Nv.phys (n : Nv) (l : Nat) : Nat := Store.get (fun k => k) n.map l

/-- What an erased row reads as (19 R649). -/
def erasedRow : List Byte := List.replicate 64 0xFF#8

/-- The bytes of a physical row. -/
def Nv.rowBytes (n : Nv) (p : Nat) : List Byte := Store.get (fun _ => erasedRow) n.rows p

/-- The logical rows of the key record and of the first row of secret slot k (log 60). -/
def keyRow : Nat := 512
def secretRow (k : Nat) : Nat := 513 + 2 * k

/-- A record made valid. -/
def NvRec.apply (r : NvRec) (n : Nv) : Nv :=
  match r with
  | .policy p => { n with policy := some p }
  | .runSet m => { n with runSet := some m }
  | .factoryLock => { n with factoryLock := true }
  | .link b => { n with link := some b }
  | .avas b => { n with avas := some b }
  | .secret k a d => { n with secrets := (k, (a, d)) :: n.secrets.filter (fun e => e.1 ≠ k) }
  | .key k => { n with key := some k }

/-- A change made. -/
def NvAct.apply (a : NvAct) (n : Nv) : Nv :=
  match a with
  | .wrote p r =>
    let n := { n with counts := Store.put (fun _ => 0) n.counts p (n.count p + 1) }
    match r with
    | some r => { n with writes := n.writes.modify r (fun c => satU 32 (c + 1)) }
    | none => n
  | .content p d => { n with rows := Store.put (fun _ => erasedRow) n.rows p d }
  | .taken p =>
    if p = n.fresh then { n with fresh := n.fresh + 1 }
    else { n with freed := n.freed.filter (· ≠ p), spares := n.spares.filter (· ≠ p) }
  | .freed p => if 512 ≤ p ∧ p < 800 then { n with spares := n.spares ++ [p] } else { n with freed := n.freed ++ [p] }
  | .worn p => { n with worn := p :: n.worn }
  | .withdrawn p => { n with worn := n.worn.filter (· ≠ p), withdrawn := p :: n.withdrawn }
  | .mapped l p => { n with map := Store.put (fun k => k) n.map l p }
  | .journalled => { n with journal := (n.journal + 1) % 512 }
  | .refusal r b => { n with refused := n.refused.set r b }
  | .record r => r.apply n
  | .pending o => { n with pendingZero := some o }
  | .zeroized => { n with pendingZero := none, zeroCount := satU 32 (n.zeroCount + 1) }
  | .erased p =>
    { n with rows := Store.put (fun _ => erasedRow) n.rows p erasedRow
             key := if n.phys keyRow = p then none else n.key
             secrets := n.secrets.filter (fun e => !(n.phys (secretRow e.1) = p || n.phys (secretRow e.1 + 1) = p)) }
  | .blowKey s h => { n with kh := n.kh.modify s (fun k => k ||| h) }
  | .blowPrg s => { n with prg := n.prg ||| 2 ^ s }
  | .blowRev s => { n with rev := n.rev ||| 2 ^ s }
  | .blowLife k => { n with life := n.life ||| 2 ^ k }
  | .blowSvn v => { n with svn := max n.svn v }

/-! ## The device and its store together -/

/-- What a command of the engine works on: what the device holds, the store and fuses as they now stand, and the changes
that they underwent, oldest first. -/
structure Sys where
  hw : Hw
  nv : Nv
  acts : List NvAct

/-- A change of the store or the fuses. -/
def Sys.act (s : Sys) (a : NvAct) : Sys := { s with nv := a.apply s.nv, acts := s.acts ++ [a] }

/-- A change of what the device holds. -/
def Sys.mapHw (s : Sys) (f : Hw → Hw) : Sys := { s with hw := f s.hw }

/-- The engine's state. -/
def Sys.eng (s : Sys) : Eng := s.hw.eng

/-- The engine's state changed. -/
def Hw.modEng (s : Hw) (f : Eng → Eng) : Hw := { s with eng := f s.eng }
def Sys.modEng (s : Sys) (f : Eng → Eng) : Sys := s.mapHw (fun h => h.modEng f)

/-- The lifecycle state: 0 DEVELOPMENT, 1 FIELD, 2 RETURNED (19 R661, R662). -/
def Nv.lifecycle (n : Nv) : Nat := if bit n.life 1 then 2 else if bit n.life 0 then 1 else 0

/-- Zeroization is running, or pending (04 R131 check 6). -/
def Sys.zeroizing (s : Sys) : Bool := s.eng.zero || s.nv.pendingZero.isSome

/-- Vendor debug access is open (19 R662, R675, R678): never while a zeroization runs or is due (03 R94, 19 R663, R676). -/
def Sys.debugOpen (s : Sys) : Bool :=
  !s.zeroizing && !s.eng.work.any (fun w => decide (w.after = .returned)) && (s.nv.lifecycle ≠ 1 || s.eng.debugOpen)

/-- A row write is in progress. -/
def Eng.storeBusy (e : Eng) : Bool := !e.work.isEmpty || e.wearRow

/-- The conditions of the evaluated configuration that the device checks (19 R679, R680). -/
def Sys.evaluated (s : Sys) : Bool :=
  s.nv.lifecycle = 1 && !s.eng.debugOpen && !s.eng.debugUsed && s.hw.policyByte 2 % 4 ≤ 1 && !bit (s.hw.policyByte 0) 6
    && ([0, 1] ++ [29, 30, 31, 32]).all (fun n => s.hw.owner n = 1)

/-- The levels that NVS and MBX show of the engine, the store and the fuses (19 Registers, 04 Registers). -/
def Sys.publish (s : Sys) : Sys :=
  s.mapHw fun h =>
    let h := if h.on 48 then
        let h := (((((h.wr F.NVS_STAT_EVAL (b2n s.evaluated)).wr F.NVS_STAT_DEBUG (b2n s.debugOpen)).wr F.NVS_STAT_LIFE
          s.nv.lifecycle).wr F.NVS_STAT_FLOCK (b2n s.nv.factoryLock)).wr F.NVS_STAT_DEVKEY (b2n s.eng.devKey.isSome))
        let h := (h.wr F.NVS_STAT_ZPEND (b2n s.zeroizing)).wr F.NVS_STAT_BUSY (b2n s.eng.storeBusy)
        ((h.wr F.NVS_FUSE_SVN s.nv.svn).wr F.NVS_FUSE_PRG s.nv.prg).wr F.NVS_FUSE_REV s.nv.rev
      else h
    match s.eng.ports[2]? with
    | some p => (h.wr F.MBX_STAT_SESSION p.session).wr F.MBX_STAT_EXEC (b2n p.exec.isSome)
    | none => h

/-- A meaning that the engine carries out, in a register cycle of its own: the store and the fuses undergo its acts. -/
def State.onSys (s : State) (f : Sys → Sys) : Host.Outcome State Fault Refusal :=
  let r := (f ⟨s.hw, s.nv, []⟩).publish
  .next { s with hw := r.hw.settleCi.varSettle 4, nv := r.acts.foldl (fun n a => a.apply n) s.nv }

/-! ## Packets (04 R116 to R118) -/

/-- The CRC-16 of R118. -/
def crc16 (bs : List Byte) : Nat := bs.foldl (crcByteMsb 16 0x1021) 0xFFFF

/-- Bytes with their CRC-16 after them, low byte first. -/
def withCrc (bs : List Byte) : List Byte := bs ++ leBytes 2 (crc16 bs)

/-- A reply packet (R117). -/
def replyPacket (op status seq : Nat) (data : List Byte) : List Byte :=
  withCrc ([0x5A#8] ++ leBytes 1 op ++ leBytes 1 status ++ leBytes 2 data.length ++ leBytes 1 seq ++ data)

/-! ## Ports -/

/-- Port `i`: 0 SP, 1 HP, 2 MB, 3 DP, 4 to 7 the LK slots. -/
def Hw.eport (s : Hw) (i : Nat) : EPort := s.eng.ports.getD i EPort.reset
def Sys.port (s : Sys) (i : Nat) : EPort := s.hw.eport i

/-- A port changed. -/
def Sys.modPort (s : Sys) (i : Nat) (f : EPort → EPort) : Sys :=
  s.modEng (fun e => { e with ports := modAt e.ports i f })

/-- The port code (R103). -/
def portCode (i : Nat) : Nat := if i < 3 then i else if i = 3 then 4 else 3

/-- The notice set of a port: MB's is MBX_NOTICE (R147). -/
def Sys.noticeSet (s : Sys) (i : Nat) : Nat :=
  if i = 2 then s.hw.rd F.MBX_NOTICE_NOTICES else (s.port i).notices

/-- The port status byte (R107). -/
def Sys.psb (s : Sys) (i : Nat) : Nat :=
  let p := s.port i
  128 + 8 * b2n s.eng.zero + 4 * b2n p.exec.isSome + 2 * b2n (s.noticeSet i != 0) + b2n p.ready.isSome

/-- SP_IRQ_N or HP_IRQ_N as the ball is driven (R115). -/
def Sys.irqN (s : Sys) (i : Nat) : Bool :=
  let p := s.port i
  !(p.session = 2 && bit p.mask 17 && (p.ready.isSome || s.noticeSet i != 0))

/-- A packet in the fragments of 17 R591, at most 1,016 bytes each. -/
def fragments (kind dst src tag : Nat) : Nat → Nat → List Byte → List LPkt
  | 0, _, _ => []
  | n + 1, i, bs =>
    if bs.length ≤ 1016 then [⟨kind, dst, src, tag, i, true, bs, true⟩]
    else ⟨kind, dst, src, tag, i, false, bs.take 1016, true⟩ :: fragments kind dst src tag n (i + 1) (bs.drop 1016)

/-- A reply made ready at a port; an LK slot's goes out to its node and is read (17 R591, R595). -/
def Sys.putReply (s : Sys) (i : Nat) (pkt : List Byte) : Sys :=
  if i < 4 then s.modPort i (fun p => { p with ready := some pkt })
  else match (s.port i).node with
    | some n =>
      s.mapHw fun h => (fragments 2 n h.nodeId (s.port i).tag 6 0 pkt).foldl (fun h k => h.linkAnswer n k.tag 1 k) h
    | none => s

/-- A request answered with a status other than OK: the port's counters (R147), and the event of an SP command refused with
any status other than BUSY (R149). -/
def Sys.rejected (s : Sys) (i op status : Nat) : Sys :=
  if status = 0 then s
  else
    let s := s.modPort i (fun p => { p with rejects := satU 16 (p.rejects + 1), lastStat := status, lastOp := op })
    if i = 0 && status ≠ 1 then s.mapHw (fun h => h.event 0x13 0 op status 0) else s

/-- A request refused before it is executed (R131): its reply and the port's counters, and nothing else. -/
def Sys.refuse (s : Sys) (i op seq : Nat) (a : Answer) : Sys :=
  (s.rejected i op a.1).putReply i (replyPacket op a.1 seq a.2)

/-- A command that executed completes (R133 to R135, R138): its reply is stored and made ready, or discarded where the port
says so (R143, R144). -/
def Sys.complete (s : Sys) (i op seq : Nat) (a : Answer) : Sys :=
  let pkt := replyPacket op a.1 seq a.2
  let drop := (s.port i).discard
  let s := s.modPort i (fun p => { p with
    exec := none, discard := false, stored := if drop then p.stored else some (op, seq, pkt) })
  if drop then s else (s.rejected i op a.1).putReply i pkt

/-- The class N command that runs completes. -/
def Sys.completeN (s : Sys) (a : Answer) : Sys :=
  match s.eng.ncur with
  | some r => (s.modEng (fun e => { e with ncur := none })).complete r.port r.op r.seq a
  | none => s

/-- The job's work is done: JOB_COMPLETE makes its reply ready. -/
def Sys.jobDone (s : Sys) (ops : List Nat) (a : Answer) : Sys :=
  s.modEng fun e => match e.job with
    | some j => if ops.contains j.op && j.result.isNone then { e with job := some { j with result := some a } } else e
    | none => e

/-- The opcode of the running job; 0 where none runs (R147). -/
def Eng.jobOp (e : Eng) : Nat := match e.job with | some j => j.op | none => 0

/-- A session closes (R127). -/
def Sys.closeSession (s : Sys) (i : Nat) : Sys :=
  s.modPort i (fun p => { p with session := 0, mask := 0, rxmax := 24, stored := none })

end Sys2Proof.Machine
end

