-- ==== Sys2Proof/Machine/Nvm.lean ====
section
/-! DEFINITION. The non-volatile store (19 R647 to R660): reads, transactions, row writes and their verifies, wear, wear moves,
zeroization (19 R675 to R677) and fuse operations (19 R663, R664). -/

namespace Sys2Proof.Machine

open Sys2Proof

/-! ## Regions, reads, pools -/

/-- The first logical row and the number of rows of a region (19 R647; log 60). -/
def regionBase (r : Nat) : Nat := match r with | 0 => 0 | 1 => 256 | 2 => 512 | _ => 800
def regionRows (r : Nat) : Nat := if r = 3 then 16384 else 256

/-- The region of a logical row; none for the engine records. -/
def regionOf (l : Nat) : Option Nat :=
  if l < 256 then some 0 else if l < 512 then some 1 else if l < 800 then some 2 else if l < 17184 then some 3 else none

/-- The logical rows of the engine records: row `j` of the map journal's ring, then one row for each record (log 60). -/
def journalRow (j : Nat) : Nat := 17184 + j
def pendRow : Nat := 17696
def recordRow (r : NvRec) : Nat :=
  match r with
  | .policy _ => 17697
  | .runSet _ => 17698
  | .factoryLock => 17699
  | .link _ => 17700
  | .avas _ => 17701
  | .secret k _ _ => secretRow k
  | .key _ => keyRow

/-- Bytes `off .. off+n-1` of a region. -/
def Nv.read (n : Nv) (region off len : Nat) : List Byte :=
  if len = 0 then []
  else
    let r0 := off / 64
    let rows := (List.range ((off + len - 1) / 64 + 1 - r0)).flatMap (fun i =>
      fitBytes 64 (n.rowBytes (n.phys (regionBase region + r0 + i))))
    (rows.drop (off % 64)).take len

/-- The rows that data written at `off` touches, each with its new bytes; untouched bytes are kept (19 R650). -/
def Nv.rewritten (n : Nv) (region off : Nat) (data : List Byte) : List (Nat × List Byte) :=
  if data.isEmpty then []
  else
    let r0 := off / 64
    let k := (off + data.length - 1) / 64 + 1 - r0
    let old := n.read region (64 * r0) (64 * k)
    let new := old.take (off % 64) ++ data ++ old.drop (off % 64 + data.length)
    (List.range k).map (fun i => (regionBase region + r0 + i, (new.drop (64 * i)).take 64))

/-- The free rows of the wear reserve, and of the pool that serves a logical row (19 R653). -/
def Nv.reserve (n : Nv) : Nat := (32768 - n.fresh) + n.freed.length
def secureRow (l : Nat) : Bool := regionOf l = some 2
def Nv.poolSize (n : Nv) (secure : Bool) : Nat := if secure then n.spares.length else n.reserve

/-- The element with the smallest `f`; the first of several. -/
def leastBy (f : Nat → Nat) : List Nat → Option Nat
  | [] => none
  | a :: l => match leastBy f l with
    | none => some a
    | some b => if f b < f a then some b else some a

/-- The free row with the lowest write count (19 R653): a row never written, where the reserve still has one. -/
def Nv.freeRow (n : Nv) (secure : Bool) : Option Nat :=
  if secure then leastBy n.count n.spares
  else if n.fresh < 32768 then some n.fresh
  else leastBy n.count n.freed

/-- The free rows that each of a list of logical rows takes, the lowest counts first. -/
def Sys.takeRows (s : Sys) : List Nat → Sys × List (Nat × Nat)
  | [] => (s, [])
  | l :: ls =>
    match s.nv.freeRow (secureRow l) with
    | some p =>
      let r := (s.act (.taken p)).takeRows ls
      (r.1, (l, p) :: r.2)
    | none => s.takeRows ls

/-- The reserve's level and its watermark (19 R655, 02 R59). -/
def Sys.poolLevel (s : Sys) : Sys :=
  s.mapHw fun h => if h.on 48 then h.watermark bNVS 0x04150050 0x04150054 0x0415004C 2 (min 65535 s.nv.reserve) else h

/-- A worn row is withdrawn (19 R652): notice bit 9 and NVS_EVT.WORN. -/
def Sys.withdraw (s : Sys) (p : Nat) : Sys := (s.act (.withdrawn p)).mapHw fun h => (h.raiseBit bNVS 1).notice 9 0 0

/-! ## Work of the store -/

/-- The store's next piece of work where it has none in progress: a wear move's row write is made while no other work is
queued, or as its overdue slot (06 R222). -/
def Sys.storeNext (s : Sys) : Sys :=
  s.modEng fun e => { e with
    wearRow := e.wear.isSome && (e.work.isEmpty || e.wearDue)
    wearDue := e.wearDue && !(e.wear.isSome && (e.work.isEmpty || e.wearDue)) }

/-- Work queued; a row write in progress goes on. -/
def Sys.enqueue (s : Sys) (w : NvWork) : Sys := s.modEng fun e => { e with work := e.work ++ [w] }

/-- A transaction (19 R651): each changed logical row into a free row, then the commit record; `ok` follows it. Where its
pool has too few free rows it writes nothing (19 R655): false. -/
def Sys.transact (s : Sys) (rows : List (Nat × List Byte)) (recs : List NvRec) (after : NvAfter) : Sys × Bool :=
  let secure := rows.any (fun r => secureRow r.1)
  let region := (rows.head?.bind (fun r => regionOf r.1))
  let note := fun (s : Sys) (b : Bool) => match region with | some r => s.act (.refusal r b) | none => s
  if s.nv.poolSize secure < rows.length then (note s true, false)
  else
    let t := s.takeRows (rows.map (·.1))
    let steps := (rows.zip t.2).map (fun e => NvStep.row e.1.1 e.2.2 e.1.2) ++ [NvStep.commit]
    ((note t.1 false).enqueue ⟨steps, recs, t.2, 0, after⟩ |>.poolLevel, true)

/-- The physical row that a row write goes to, and the region it is made for. -/
def Nv.stepPhys (n : Nv) (st : NvStep) : Nat :=
  match st with
  | .row _ p _ => p
  | .commit => n.phys (journalRow n.journal)
  | .erase p => p
  | .pend _ | .unpend => n.phys pendRow
def NvStep.region (st : NvStep) : Option Nat :=
  match st with
  | .row l _ _ => regionOf l
  | .erase _ => some 2
  | _ => none

/-- The logical row of a row write that is made in place. -/
def Nv.inPlace (n : Nv) (st : NvStep) : Option Nat :=
  match st with
  | .commit => some (journalRow n.journal)
  | .pend _ | .unpend => some pendRow
  | _ => none

/-- Another physical row for a logical row of the engine records (19 R653); none where the reserve is empty. -/
def Sys.replace (s : Sys) (l : Nat) : Option Sys :=
  match s.nv.freeRow false with
  | some p => some ((s.act (.taken p)).act (.mapped l p))
  | none => none

/-- A record row that is worn is withdrawn when it is next written, and another takes its place (19 R652, R653). -/
def Sys.freshPlace (s : Sys) (st : NvStep) : Sys :=
  match s.nv.inPlace st with
  | some l =>
    let p := s.nv.phys l
    if s.nv.worn.contains p then match s.replace l with | some t => t.withdraw p | none => s else s
  | none => s

/-- A transaction made whole: the new mapping, the old rows freed or withdrawn, the records (19 R651, R652). -/
def Sys.commit (s : Sys) (w : NvWork) : Sys :=
  let s := w.taken.foldl (fun (s : Sys) e =>
    let old := s.nv.phys e.1
    let s := s.act (.mapped e.1 e.2)
    if s.nv.worn.contains old then s.withdraw old else s.act (.freed old)) s
  let s := w.recs.foldl (fun (s : Sys) r => s.act (.record r)) s
  (s.act .journalled).poolLevel

/-- Work that ends without its commit: its rows go back, and the region keeps its previous content (19 R651). -/
def Sys.abandon (s : Sys) (w : NvWork) : Sys :=
  (w.taken.foldl (fun (s : Sys) e => if s.nv.withdrawn.contains e.2 then s else s.act (.freed e.2)) s).poolLevel

/-! ## Zeroization (19 R675 to R677) -/

/-- Every physical row of the secure region that is not withdrawn elsewhere: the 256 mapped rows, the 32 spares and the worn
rows among them are the 288 rows from row 512 on. -/
def secureRows : List Nat := (List.range 288).map (fun i => 512 + i)

/-- Steps 2 to 5 of a zeroization, and what follows it. -/
def zeroWork (openFlag : Bool) (after : NvAfter) : NvWork :=
  ⟨NvStep.pend openFlag :: secureRows.map NvStep.erase ++ [NvStep.unpend], [], [], 0, after⟩

/-- Step 3: the device key in PD49 and the secret buffer are cleared. -/
def Sys.clearKey (s : Sys) : Sys :=
  (s.modEng fun e => { e with devKey := none }).mapHw fun h => h.resetRange 0x04151000 0x04152000

/-- The pending record is cleared, with the count incremented (steps 5 and 6). -/
def Sys.zeroized (s : Sys) : Sys :=
  ((s.act .zeroized).modEng fun e => { e with zero := false }).mapHw fun h => (h.raiseBit bNVS 4).notice 12 0 0

/-- A zeroization that cannot be confirmed (19 R676): the record stays, notice bit 9, NVM_WORN. -/
def Sys.zeroFail (s : Sys) (w : NvWork) : Sys :=
  let s := (s.modEng fun e => { e with zero := false }).mapHw fun h => (h.raiseBit bNVS 1).notice 9 0 0
  match w.after with
  | .debug => s.jobDone [0x90] (refuseWith 9)
  | .resume _ => s
  | _ => s.completeN (refuseWith 9)

/-! ## The end of a piece of work -/

/-- The device key is made (19 R669): 256 random bits, and the key record in two row writes. -/
def Sys.makeKey (s : Sys) (after : NvAfter) : Sys × Bool :=
  let k := s.hw.free
  ({ s with hw := k.2 } : Sys).transact [(keyRow, [])] [.key k.1] after

/-- The device key as the store holds it is loaded into PD49. -/
def Sys.loadKey (s : Sys) : Sys := s.modEng fun e => { e with devKey := s.nv.key }

/-- Vendor debug access opens (step 7). -/
def Sys.openDebug (s : Sys) : Sys := s.modEng fun e => { e with debugOpen := true }

/-- What follows a piece of work whose row writes are all made. -/
def Sys.worked (s : Sys) (w : NvWork) : Sys :=
  match w.after with
  | .nothing => s
  | .reply st d => s.completeN (st, d)
  | .keyStart => s.loadKey
  | .keyField => (s.loadKey).completeN (okWith [1#8])
  | .debug => (s.openDebug).jobDone [0x90] (okWith [])
  | .field =>
    let r := s.makeKey .keyField
    if r.2 then r.1 else r.1.completeN (refuseWith 9)
  | .returned => s.completeN (okWith [2#8])
  | .resume o => if o then s.openDebug else s

/-- The front piece of work, or the wear move, replaced; none: it is done. -/
def Sys.putWork (s : Sys) (wear : Bool) (w : Option NvWork) : Sys :=
  s.modEng fun e => if wear then { e with wear := w } else { e with work := w.toList ++ e.work.drop 1 }

/-- A piece of work ends for want of rows. -/
def Sys.workFails (s : Sys) (wear : Bool) (w : NvWork) : Sys :=
  let s := (s.abandon w).putWork wear none
  match w.after with
  | .debug => (s.modEng fun e => { e with zero := false }).jobDone [0x90] (refuseWith 9)
  | .reply _ _ | .keyField | .field | .returned => s.completeN (refuseWith 9)
  | _ => s

/-- A row write that verified. -/
def Sys.rowVerified (s : Sys) (wear : Bool) (w : NvWork) (st : NvStep) (rest : List NvStep) : Sys :=
  let p := s.nv.stepPhys st
  let s := if 1000000 ≤ s.nv.count p && !s.nv.worn.contains p then s.act (.worn p) else s
  let s := match st with
    | .row _ p d => s.act (.content p d)
    | .commit => s.commit w
    | .pend o => ((s.act (.pending o)).modEng fun e => { e with zero := true }).clearKey
    | .erase p => s.act (.erased p)
    | .unpend => s.zeroized
  match rest with
  | [] => (s.putWork wear none).worked w
  | n :: _ => (s.putWork wear (some { w with steps := rest, fails := 0 })).freshPlace n

/-- A row write whose verify failed: it is made again; three failures in a row wear the row out, and another takes its place
(19 R652); a row being zeroized is repeated up to eight times (19 R676). -/
def Sys.rowFailed (s : Sys) (wear : Bool) (w : NvWork) (st : NvStep) (rest : List NvStep) : Sys :=
  let p := s.nv.stepPhys st
  let again := { w with fails := w.fails + 1 }
  match st with
  | .erase _ => if again.fails < 9 then s.putWork wear (some again) else (s.putWork wear none).zeroFail w
  | .row l _ d =>
    if again.fails < 3 then s.putWork wear (some again)
    else
      let s := s.withdraw p
      let w := { w with taken := w.taken.filter (fun e => e.2 ≠ p) }
      match s.nv.freeRow (secureRow l) with
      | some q =>
        (s.act (.taken q)).putWork wear
          (some { w with steps := .row l q d :: rest, taken := w.taken ++ [(l, q)], fails := 0 })
      | none => s.workFails wear w
  | _ =>
    if again.fails < 3 then s.putWork wear (some again)
    else
      match (s.nv.inPlace st).bind s.replace with
      | some t => (t.withdraw p).putWork wear (some { w with fails := 0 })
      | none => (s.withdraw p).workFails wear w

/-- A row write finishes erase, program and verify. -/
def Sys.rowDone (s : Sys) (ok : Bool) : Sys :=
  let wear := s.eng.wearRow
  match (if wear then s.eng.wear else s.eng.work.head?) with
  | none => s
  | some w =>
    match w.steps with
    | [] => s.putWork wear none
    | st :: rest =>
      let s := (s.act (.wrote (s.nv.stepPhys st) st.region)).mapHw fun h => if h.on 48 then h.inc F.NVS_WRITES_COUNT else h
      let s := if ok then s.rowVerified wear w st rest else s.rowFailed wear w st rest
      s.poolLevel.storeNext

/-! ## Wear moves (19 R654) -/

/-- The logical row that a physical row serves. -/
def Nv.owner (n : Nv) (p : Nat) : Option Nat :=
  match n.map.find? (fun e => e.2 = p) with
  | some e => some e.1
  | none => if p < 18208 && !(768 ≤ p && p < 800) && n.phys p = p then some p else none

/-- The mapped physical rows of a pool's rows. -/
def Nv.mappedRows (n : Nv) (secure : Bool) : List Nat :=
  if secure then (List.range 288).map (fun i => 512 + i) |>.filter (fun p => (n.owner p).isSome)
  else ((List.range 512) ++ (List.range 17408).map (fun i => 800 + i)).map n.phys

/-- The row that a wear move moves and the row it moves it onto: the lowest count of the free pool exceeds that of the
least-written mapped row by 100,000 or more. -/
def Nv.wearPick (n : Nv) (secure : Bool) : Option (Nat × Nat) :=
  let free := if secure then n.spares else if n.fresh < 32768 then [] else n.freed
  match leastBy n.count free, leastBy n.count (n.mappedRows secure), leastBy (fun p => 2 ^ 32 - n.count p) free with
  | some lo, some row, some most =>
    if n.count row + 100000 ≤ n.count lo then (n.owner row).map (fun l => (l, most)) else none
  | _, _, _ => none

/-- A wear move begins, of the wear reserve's rows first, then of the secure region's. -/
def Sys.wearMove (s : Sys) : Sys :=
  if s.eng.wear.isSome || !s.hw.on 48 || s.zeroizing then s
  else
    match (s.nv.wearPick false).or (s.nv.wearPick true) with
    | none => s
    | some e =>
      let w : NvWork := ⟨[.row e.1 e.2 (s.nv.rowBytes (s.nv.phys e.1)), .commit], [], [e], 0, .nothing⟩
      (((s.act (.taken e.2)).modEng fun g => { g with wear := some w, wearRow := g.work.isEmpty })).poolLevel

/-! ## An end from outside (19 R651, 04 R145, 03 R76) -/

/-- The store's transactions end without their commit; a wear move is lost with its row. Work of a zeroization is made again
at the next start. -/
def Sys.storeLost (s : Sys) : Sys :=
  let s := (s.eng.work ++ s.eng.wear.toList).foldl (fun (s : Sys) w => s.abandon w) s
  s.modEng fun e => { e with work := [], wear := none, wearRow := false, wearDue := false, fuse := none }

/-! ## DEBUG_OPEN's work (19 R675) -/

/-- A DEBUG_OPEN that waits for a running class N command begins its zeroization as soon as none runs (step 1). -/
def Sys.debugStep (s : Sys) : Sys :=
  match s.eng.job with
  | some j =>
    if j.op = 0x90 && j.result.isNone && s.eng.ncur.isNone && !s.eng.zero
        && !s.eng.work.any (fun w => decide (w.after = .debug)) then s.enqueue (zeroWork true .debug)
    else s
  | none => s

/-! ## Fuse operations (19 R663, R664) -/

/-- A fuse operation completes within its bound, with whether what is read back differs from what was blown. -/
def Sys.fuseDone (s : Sys) (differs : Bool) : Sys :=
  match s.eng.fuse with
  | none => s
  | some op =>
    let s := s.modEng fun e => { e with fuse := none }
    match op with
    | .keyhash k h =>
      let s := (s.act (.blowKey k h)).act (.blowPrg k)
      if differs then (s.act (.blowRev k)).completeN (refuseWith 11) else s.completeN (okWith [])
    | .revoke k => (s.act (.blowRev k)).completeN (okWith [])
    | .life t =>
      let s := s.act (.blowLife (t - 1))
      if t = 1 then
        let s := (s.modEng fun e => { e with debugOpen := false }).closeSession 3
        let s := s.modPort 3 (fun p => { p with ready := none, discard := p.exec.isSome })
        let s := s.mapHw fun h => h.wr F.BRG_POLICY_BYTES (getBits (setBits (h.reg (F.BRG_POLICY_BYTES.addr 0)) 6 6 0) 31 0)
        s.enqueue (zeroWork false .field)
      else s.enqueue (zeroWork true .returned)

end Sys2Proof.Machine
end

