-- ==== Sys2Proof/Machine/Power.lean ====
section
/-! DEFINITION. Power domains, states, clocks, wakes and resets (03): the switching of domains in waves, what a switch-on and a
switch-off do, the transitions between the power states, clock fail-safe, wake events, the resets. -/

namespace Sys2Proof.Machine

open Sys2Proof

/-! ## The domain table (03 R62, R64, R67) -/

/-- What a domain needs (R64); for a bank to be ON. -/
def needs (d : Nat) : List Nat :=
  match d with
  | 0 => []
  | 1 => [0]
  | 2 => [3, 21]
  | 3 => [1]
  | 20 => [1]
  | 21 => [1]
  | 22 => [21, 31]
  | 32 => [31]
  | 35 => [34]
  | 36 => [34]
  | 37 => [34]
  | 38 => [1]
  | 40 => [39]
  | 43 => [1]
  | 45 => [1]
  | 46 => [1]
  | 47 => [1]
  | 48 => [0]
  | 49 => [1]
  | d => if 23 ≤ d && d ≤ 30 then [22] else [21]

/-- The domains, each after every domain that it needs. -/
def depOrder : List Nat :=
  [0, 1, 48, 3, 20, 38, 43, 45, 46, 47, 49, 21, 2] ++ (List.range 16).map (· + 4)
    ++ [31, 33, 34, 39, 41, 42, 44, 32, 22, 35, 36, 37, 40] ++ (List.range 8).map (· + 23)

/-- Lists of at most eight elements, in order. -/
def inEights : Nat → List Nat → List (List Nat)
  | 0, _ => []
  | n + 1, l => if l.isEmpty then [] else l.take 8 :: inEights n (l.drop 8)

/-- A bank that is retired is never switched on (05 R163). -/
def Hw.usable (s : Hw) (d : Nat) : Bool := !(4 ≤ d && d < 20 && s.mtx.retired.contains (d - 4))

/-- The waves that switch a set of domains on, in dependency order (R67); those of `first` go in front. -/
def Hw.onWaves (s : Hw) (first todo : List Nat) : List (List Nat) :=
  let want := fun (d : Nat) => !s.on d && s.usable d
  let a := depOrder.filter (fun d => first.contains d && want d)
  let b := depOrder.filter (fun d => todo.contains d && !first.contains d && want d)
  inEights 8 (a ++ b)

/-- The domains of a set that are on, each before every domain that it needs (R62). -/
def Hw.offOrder (s : Hw) (todo : List Nat) : List Nat := depOrder.reverse.filter (fun d => todo.contains d && s.on d)

/-- Power's record changed. -/
def Hw.modPwr (s : Hw) (f : Pwr → Pwr) : Hw := { s with pwr := f s.pwr }

/-- The power state, by its SYS_STATE code. -/
def Hw.pstate (s : Hw) : Nat := s.rd F.SYS_STATE_STATE

/-- A switching of domains, or a state transition, is in progress. -/
def Hw.switching (s : Hw) : Bool := !s.pwr.offs.isEmpty || !s.pwr.waves.isEmpty
def Hw.transit (s : Hw) : Bool := s.rdB F.SYS_STATE_TRANSIT

/-! ## Masters of a domain (03 R69) -/

/-- The masters that a domain holds; one that several domains share goes with the last of them. -/
def Hw.domainMasters (s : Hw) (d : Nat) : List (Fin 12) :=
  let last := fun (l : List Nat) => l.all (fun e => e = d || !s.on e)
  match d with
  | 2 => [0, 1]
  | 29 => [4]
  | 30 => [5]
  | 33 => [6]
  | 34 => [7]
  | 39 => [8]
  | 44 => [10]
  | 49 => [11]
  | d =>
    if 23 ≤ d && d ≤ 28 then (if last [23, 24, 25, 26, 27, 28] then [3] else [])
    else if d = 41 || d = 42 then (if last [41, 42] then [9] else [])
    else []

/-- A master has a transaction outstanding, held or stalled, or holds the lock. -/
def Hw.masterBusy (s : Hw) (m : Fin 12) : Bool :=
  s.mtx.out.any (fun r => r.master = m) || s.mtx.held.any (fun r => r.master = m)
    || s.mtx.stalled.any (fun r => r.1.master = m)
    || (match s.mtx.lock with | some l => l.master = (m : Nat) | none => false)

/-- The transactions of a domain's masters released (R69): a recovery record of kind 10 for each that was busy. -/
def Hw.drain (s : Hw) (ms : List (Fin 12)) (port dom : Nat) : Hw :=
  ms.foldl (fun s m => if s.masterBusy m then (s.release m 10 port dom).1 else s) s

/-! ## Switch-on (03 R67, R91, R713) -/

/-- The registers that lie in a domain at their reset values. -/
def Hw.resetDomainRegs (s : Hw) (d : Nat) : Hw :=
  let p := fun a => decide (0x04000000 ≤ a) && decide (a < 0x04170000) && regDomain a = d
  { s with regs := Store.drop p s.regs, act := Store.drop p s.act, ciDue := s.ciDue.filter (fun x => !p x.addr),
           wideRead := Store.drop p s.wideRead, wideWrite := Store.drop p s.wideWrite }

/-- The bits of the GPIO words that belong to the pins of one bank domain, at 0 (R713, 18 R618). -/
def Hw.clearPinBits (s : Hw) (d : Nat) : Hw :=
  let keep := fun (k : Nat) => ofBits ((List.range 32).filter (fun b => pinDomain (32 * k + b) ≠ d))
  [F.GPI_OUT_OUT, F.GPI_OE_OE, F.GPI_EDGE_EDGE].foldl (fun s f =>
    foldUp (fun s k => s.wr f (s.rd f k &&& keep k) k) 0 3 s) s

/-- The pins of a bank domain as their domain switches on: no function output, supplies sensed anew. -/
def Hw.pinsOn (s : Hw) (d : Nat) : Hw :=
  let mine := fun (n : Nat) => pinDomain n = d
  let keep := fun (l : List Bool) => (List.range 96).map (fun n => !mine n && l.getD n false)
  { s with gpi := { s.gpi with
      fv := keep s.gpi.fv, foe := keep s.gpi.foe
      bad := (List.range 4).map (fun k => !mine (24 * k) && s.gpi.bad.getD k false)
      volt := (List.range 4).map (fun k => if mine (24 * k) then b2n (Config.bank33 k) else s.gpi.volt.getD k 0) } }

/-- The registers of the GPIO home domain reset, the bits of the other bank domain's pins kept. -/
def Hw.gpioHome (s : Hw) : Hw :=
  let words := [F.GPI_OUT_OUT, F.GPI_OE_OE, F.GPI_EDGE_EDGE].flatMap (fun f => (List.range 3).map (fun k => (f, k, s.rd f k)))
  (words.foldl (fun (s : Hw) w => s.wr w.1 w.2.2 w.2.1) (s.resetDomainRegs 46)).clearPinBits 46

/-- The state of the units that lie in a domain, at its reset value, and its RAMs filled with zero (R67, R68; 07 R264; 10 R346,
R370; 15 R514; 16 R554). -/
def Hw.resetUnits (s : Hw) (d : Nat) : Hw :=
  match d with
  | 2 => { s with
      efts := Vector.replicate 4 Eft.reset, cop := Cop.reset, awArmed := false
      mtx := { s.mtx with resp := s.mtx.resp.filter (fun q => 1 < q.master) } }
  | 3 => { s.zeroMem 0xE0010000 0xE0020000 with caches := ⟨[], [], [], []⟩ }
  | 20 =>
    let p := s.pen
    { s.zeroMem 0x01000000 0x01080000 with pen := { Pen.reset with
        cause := p.cause, recKind := p.recKind, recCell := p.recCell, recWatch := p.recWatch, recF := p.recF
        sigtab := p.sigtab, sigCopy := p.sigCopy, sigAge := p.sigAge, sigPrev := p.sigPrev } }
  | 21 =>
    { s with
      mtx := { Mtx.reset with retired := s.mtx.retired }
      ldg := { Ldg.reset with cap := s.ldg.cap, order := s.ldg.order, margin := s.ldg.margin }
      brg := { Brg.reset with lead := s.brg.lead } }
  | 22 => s.zeroMem 0x02000000 0x02010000
  | 29 => { s.zeroMem 0x02010000 0x02018000 with texels := [] }
  | 30 => { s with cam := Cam.reset }
  | 31 => { s with tim := Tim.reset, lnl := ⟨0, 0, none⟩ }
  | 33 => { s with ano := Ano.reset }
  | 34 =>
    let v := s.voc
    { (s.zeroMem 0x02020000 0x02030000).zeroMem 0x02070000 0x02080000 with
      voc := { Voc.reset with psrc := v.psrc, plen := v.plen, psa := v.psa, psa2 := v.psa2, base := v.base,
                              silenced := v.silenced }
      mix := Mix.reset }
  | 35 => { s with voc := { s.voc with voices := s.voc.voices.filter (fun p => !(128 ≤ p.1 && p.1 < 240)) } }
  | 36 => { s with voc := { s.voc with
      voices := s.voc.voices.filter (fun p => p.1 < 240), pdesc := [], map := Voc.reset.map, rules := Voc.reset.rules } }
  | 37 =>
    let m := s.mix
    { s with mix := { m with pre := [], lines := Mix.reset.lines, lp := Mix.reset.lp, dl := [], dr := [], eq := []
                             lims := Mix.reset.lims, fx := Mix.reset.fx } }
  | 38 => { s with mix := { s.mix with as0 := Mix.reset.as0, bad := 0 } }
  | 39 => { s with var := Var.reset, varPulse := [] }
  | 40 => s.zeroMem 0x02030000 0x02070000
  | 43 => { s with can := { Can.reset with copy := s.can.copy } }
  | 44 => { s with xsp := ⟨[], none, none, none, none⟩ }
  | 46 => { s.pinsOn 46 with i2c := [none, none], uart := [⟨[], []⟩, ⟨[], []⟩] }
  | 47 => s.pinsOn 47
  | d =>
    if 4 ≤ d && d < 20 then
      { s.zeroMem ((d - 4) * 0x100000) ((d - 3) * 0x100000) with
        pwr := { s.pwr with filling := (s.pwr.filling.filter (· ≠ d - 4)) ++ [d - 4] } }
    else if d = 41 || d = 42 then s.modPort (d - 41) (fun _ => BPort.reset)
    else s

/-- The link policy in force at a switch-on of PD21: the stored record, or the reset values (17 R593). -/
def Sys.policyAtStart (s : Sys) : List Byte :=
  match s.nv.link with
  | some b => b
  | none => [BitVec.ofNat 8 (if s.nv.lifecycle = 0 then 0x70 else 0x30), 0xFF#8, 0#8, 0#8, 0#8, 0#8, 0#8, 0#8]

/-- The link policy set. -/
def Hw.setPolicy (s : Hw) (b : List Byte) : Hw :=
  (s.wr F.BRG_POLICY_BYTES (fieldAt b 0 4)).wr F.BRG_POLICY1_BYTES (fieldAt b 4 4)

/-- A domain is switched on: its registers and state at their reset values, and what the engine restores there. A bank that
comes from RETAIN keeps its contents (R68). -/
def Sys.domainOn (s : Sys) (d : Nat) : Sys :=
  if s.hw.on d then s
  else
    let kept := s.hw.domState d == .retain
    let s := s.mapHw fun h => h.setDom d .on
    if kept then s
    else
      let sig := s.hw.rd F.PEN_STALE_STALE
      let vals := (List.range 32).map (fun k => s.hw.rd F.PEN_SIGVAL k)
      let s := s.mapHw fun h => (if d = 46 then h.gpioHome else h.resetDomainRegs d).resetUnits d
      match d with
      | 20 => s.mapHw fun h => foldUp (fun h k => h.wr F.PEN_SIGVAL (vals.getD k 0) k) 0 32 (h.wr F.PEN_STALE_STALE sig)
      | 21 => s.mapHw fun h => (h.ldgHeld).setPolicy s.policyAtStart
      | 32 => s.mapHw fun h => (h.modEng fun e => { e with phyCal := e.cal.take 2 ++ e.phyCal.drop 2 }).noteOutput
      | 41 => s.mapHw fun h =>
          (h.modEng fun e => { e with phyCal := e.phyCal.take 2 ++ (e.cal.drop 2).take 2 ++ e.phyCal.drop 4 }).portEnable 0
      | 42 => s.mapHw fun h => (h.modEng fun e => { e with phyCal := e.phyCal.take 4 ++ (e.cal.drop 4).take 2 }).portEnable 1
      | 43 => s.mapHw Hw.canRestore
      | 46 => s.mapHw fun h => h.restorePins 46
      | 47 => s.mapHw fun h => (h.clearPinBits 47).restorePins 47
      | 48 => (s.publish).poolLevel
      | _ => s

/-! ## Switch-off -/

/-- A domain is switched off: its outputs are clamped (R61 to R69). A bank loses its contents. -/
def Sys.domainOff (s : Sys) (d : Nat) : Sys :=
  if !s.hw.on d then s
  else
    let s := s.mapHw fun h => h.setDom d .off
    match d with
    | 31 => s.mapHw fun h =>
        (h.wr F.SYS_CLKSTAT_PIX_LOCK 0).modPwr (fun p => { p with pixWanted := false })
    | 32 => s.mapHw Hw.noteOutput
    | 41 => s.mapHw fun h => h.portSilent 0 0
    | 42 => s.mapHw fun h => h.portSilent 1 0
    | 45 => (s.closeSession 1).modPort 1 (fun p => { p with ready := none, discard := p.exec.isSome })
    | d =>
      if 4 ≤ d && d < 20 then
        s.mapHw fun h =>
          ((h.zeroMem ((d - 4) * 0x100000) ((d - 3) * 0x100000)).modPwr (fun p => { p with
            filling := p.filling.filter (· ≠ d - 4) })).modMtx (fun m => { m with
              sleep := m.sleep.set (d - 4) 0, waking := m.waking.filter (· ≠ d - 4) })
      else s

/-- A bank that goes to RETAIN keeps its contents (R72). -/
def Hw.retainBank (s : Hw) (d : Nat) : Hw :=
  ((s.setDom d .retain).modPwr (fun p => { p with filling := p.filling.filter (· ≠ d - 4) })).modMtx (fun m => { m with
    sleep := m.sleep.set (d - 4) 0, waking := m.waking.filter (· ≠ d - 4) })

/-- A bank whose SYS_BANKRET bit is set goes to RETAIN on leaving RUN (R72); a retired bank's bit is ignored (05 R163). -/
def Hw.retained (s : Hw) (d : Nat) : Bool :=
  4 ≤ d && d < 20 && bit (s.rd F.SYS_BANKRET_MASK) (d - 4) && s.usable d

/-- A domain's switch-off within the present switching. -/
def Sys.switchOff (s : Sys) (d : Nat) : Sys :=
  if s.hw.leavesRun && s.hw.retained d then s.mapHw fun h => h.retainBank d else s.domainOff d

/-- The command that domains are switched for: its port code. -/
def Sys.jobPort (s : Sys) : Nat := match s.eng.job with | some j => portCode j.port | none => 0xFF

/-- SYS_PDSTAT0 and SYS_PDSTAT1 as DOMAIN_SET and DOMAIN_GET report them. -/
def Hw.pdstat (s : Hw) : List Byte := leBytes 4 (s.liveWord 0x04000048).toNat ++ leBytes 4 (s.liveWord 0x0400004C).toNat

/-- The switching in progress is complete: a DOMAIN_SET is answered. The entry of a state, and the start of an image, go on in
their own steps. -/
def Sys.switched (s : Sys) : Sys :=
  if s.hw.switching then s
  else match s.hw.pwr.goal with
    | .domains => (s.mapHw fun h => h.modPwr (fun p => { p with goal := .idle })).jobDone [0x11] (okWith s.hw.pdstat)
    | .own => s.mapHw fun h => h.modPwr (fun p => { p with goal := .idle })
    | _ => s

/-- DOMAIN_WAVE_DONE: every domain of the wave is on. On the way to RUN nothing switches on before PLL_SYS is locked. -/
def Sys.waveDone (s : Sys) : Sys :=
  match s.hw.pwr.waves with
  | [] => s
  | w :: rest =>
    if !s.hw.pwr.offs.isEmpty || (s.hw.pwr.goal == .enter .run && !s.hw.rdB F.SYS_CLKSTAT_SYS_LOCK) then s
    else
      let s := w.foldl (fun (s : Sys) d => s.domainOn d) (s.mapHw fun h => h.modPwr (fun p => { p with waves := rest }))
      (s.mapHw fun h => h.raiseBit bSYS 1).switched

/-- A voice of PD35 still sounds (14 R473). -/
def Hw.voicesFade (s : Hw) : Bool := s.voc.voices.any (fun p => 128 ≤ p.1 && p.1 < 240 && p.2.state ≠ 0)

/-- What a domain's switch-off waits for: its masters' transactions (R69), the voices of PD35 (14 R473), the raster on leaving
RUN (R73), a row write before PD48 goes (R76), a fuse operation of the engine before PD01 goes. -/
def Sys.offWaits (s : Sys) (d : Nat) : Bool :=
  let h := s.hw
  (h.domainMasters d).any h.masterBusy || (d = 35 && h.voicesFade && h.on 34) || (h.leavesRun && 2 ≤ h.timState && h.on 31)
    || (d = 48 && s.eng.storeBusy) || (d = 1 && s.eng.fuse.isSome)

/-- DOMAIN_OFF_DONE: the domain whose turn it is switches off. -/
def Sys.offDone (s : Sys) : Sys :=
  match s.hw.pwr.offs with
  | [] => s
  | d :: rest =>
    if s.offWaits d then s
    else
      let s := if d = 3 && s.hw.on 21 then s.mapHw fun h => h.cleanAll 0 else s
      let s := (s.switchOff d).mapHw fun h => (h.modPwr (fun p => { p with offs := rest })).raiseBit bSYS 1
      s.switched

/-- MASTER_DRAIN_TIMEOUT: what the masters of the domain still have outstanding is released. -/
def Sys.drainTimeout (s : Sys) : Sys :=
  match s.hw.pwr.offs with
  | [] => s
  | d :: _ => s.mapHw fun h => h.drain (h.domainMasters d) s.jobPort d

/-- Domains switched off and on for a purpose. A switch-off of PD35 fades its voices first. -/
def Hw.startSwitch (s : Hw) (goal : PGoal) (offs : List Nat) (waves : List (List Nat)) : Hw :=
  let s := if offs.contains 35 then s.fadeVoices 128 240 5 else s
  s.modPwr (fun p => { p with goal := goal, offs := offs, waves := waves })

/-! ## Power states (03 R71 to R76) -/

/-- PD45 is kept on in RUN unless the run set excludes it (04 R104). -/
def Nv.hostPort (n : Nv) : List Nat := match n.runSet with | some m => if bit m 45 then [45] else [] | none => [45]

/-- A transition to RUN begins: XT24, then PLL_SYS, then PD21 and the domains named. -/
def Sys.toRun (s : Sys) (also : List Nat) (boot : Nat) : Sys :=
  s.mapHw fun h =>
    let h := (h.wr F.SYS_STATE_TARGET 2).wr F.SYS_STATE_TRANSIT 1
    (h.startSwitch (.enter .run) [] (h.onWaves [] (21 :: also))).modPwr (fun p => { p with xtEnabled := true, boot := boot })

/-- RUN is left (R73): a raster that scans is told to stop; every domain but PD00, PD01 and PD48 goes off. -/
def Sys.leaveRun (s : Sys) (target : PState) : Sys :=
  s.mapHw fun h =>
    let h := (h.wr F.SYS_STATE_TARGET (if target = .deep then 0 else 1)).wr F.SYS_STATE_TRANSIT 1
    let h := h.startSwitch (.enter target) (h.offOrder ((List.range 50).filter (fun d => d ≠ 0 && d ≠ 1 && d ≠ 48))) []
    if !h.on 31 then h
    else match h.timState with
      | 1 => (h.wr F.TIM_CTRL_RUN 0).stop
      | 2 => (h.wr F.TIM_CTRL_RUN 0).timTo 4
      | 3 => (h.wr F.TIM_CTRL_RUN 0).stop
      | _ => h

/-- Entry to DEEP from STANDBY begins: PD49 and PD48 go off, then PD01. -/
def Sys.toDeep (s : Sys) : Sys :=
  s.mapHw fun h => ((h.wr F.SYS_STATE_TARGET 0).wr F.SYS_STATE_TRANSIT 1).startSwitch (.enter .deep) (h.offOrder [49, 48, 1]) []

/-- The commit point of a DEEP entry is past: PD01 is being switched off (R74). -/
def Hw.committed (s : Hw) : Bool := s.pwr.goal == .enter .deep && s.pstate = 1 && s.pwr.offs == [1]

/-- The device is in DEEP. -/
def Hw.inDeep (s : Hw) : Bool := s.pstate = 0 && !s.on 1 && s.pwr.goal == .idle

/-- A power state is entered: SYS_STATE, STATECHG, the event of 04 R149. -/
def Sys.enterState (s : Sys) (st : Nat) : Sys :=
  let port := match s.eng.job with | some j => if j.op = 0x10 then portCode j.port else 0xFF | none => 0xFF
  s.mapHw fun h => (((((h.wr F.SYS_STATE_STATE st).wr F.SYS_STATE_TARGET st).wr F.SYS_STATE_TRANSIT 0).modPwr (fun p => { p with
    goal := .idle })).raiseBit bSYS 0).event 0x10 port st 0 0

/-- The PLLs stop, and XT24 with them unless it is held (R79). -/
def Hw.stopPlls (s : Hw) : Hw :=
  let s := (((s.wr F.SYS_CLKSTAT_SYS_LOCK 0).wr F.SYS_CLKSTAT_AUD_LOCK 0).wr F.SYS_CLKSTAT_PIX_LOCK 0).wr F.SYS_CLKSTAT_LNK_LOCK 0
  let s := s.modPwr (fun p => { p with audWanted := false, pixWanted := false })
  if s.rdB F.SYS_STATE_XT24HOLD then s
  else (s.wr F.SYS_CLKSTAT_XT24_OK 0).modPwr (fun p => { p with xtEnabled := false })

/-- Every bank domain as STANDBY finds it (R72). -/
def Hw.banksOut (s : Hw) : Hw := foldUp (fun s d => if s.retained d then s.retainBank d else s) 4 16 s

/-- The engine as PD01's switch-off leaves it: what it holds in PD00 is its image placement; the ports keep nothing. -/
def Hw.engineOff (s : Hw) : Hw :=
  s.modEng fun e => { Eng.reset with cal := e.cal, phyCal := e.phyCal, img := { Img.reset with resident := e.img.resident } }

/-- A wake source's bit in SYS_WAKESRC, its enable, and its AUTORUN bit (R85, R88). -/
def WakeSrc.bits (w : WakeSrc) : Nat × FieldRef × Nat × Nat :=
  match w with
  | .spcs => (0, F.SYS_WAKECFG_EN_SPCS, 0, 0)
  | .wakePin => (1, F.SYS_WAKECFG_EN_WAKE, 0, 1)
  | .tmr => (2, F.SYS_WAKECFG_EN_TMR, 0, 2)
  | .link p => if p = 0 then (3, F.SYS_WAKECFG_EN_LNK0, 0, 3) else (4, F.SYS_WAKECFG_EN_LNK1, 0, 4)
  | .gpio k => (8 + k, F.SYS_WAKECFG_EN_GPIO, k, 5)

/-- A source is enabled. -/
def Hw.wakeEnabled (s : Hw) (w : WakeSrc) : Bool := bit (s.rd w.bits.2.1) w.bits.2.2.1

/-- A source's SYS_WAKESRC bit sets. -/
def Hw.wakeNote (s : Hw) (w : WakeSrc) : Hw :=
  let a := F.SYS_WAKESRC_SPCS.addr 0
  s.setReg a (BitVec.ofNat 32 ((s.reg a).toNat ||| 2 ^ w.bits.1))

/-- An exit from DEEP begins (R73, R87, R88): PD01 and PD48 switch on. -/
def Sys.wakeUp (s : Sys) (w : WakeSrc) : Sys :=
  s.mapHw fun h =>
    let h := ((h.wakeNote w).wr F.SYS_WAKESTAMP_STAMP h.stamp).wr F.SYS_STATE_TARGET 1
    let auto := bit (h.rd F.SYS_WAKECFG_AUTORUN) w.bits.2.2.2
    ((h.wr F.SYS_STATE_TRANSIT 1).startSwitch (.enter .standby) [] [[1, 48]]).modPwr (fun p => { p with autorun := auto })

/-- The job of a POWER_STATE is over at once with a state. -/
def Sys.endPowerJob (s : Sys) (st : Nat) : Sys :=
  match s.eng.job with
  | some j =>
    if j.op = 0x10 then
      (s.modEng fun e => { e with job := none }).complete j.port j.op j.seq (okWith (leBytes 1 st))
    else s
  | none => s

/-- An entry to DEEP is abandoned before its commit point (R74): the device stays in, or goes to, STANDBY. -/
def Sys.abandonDeep (s : Sys) : Sys :=
  let s := s.mapHw fun h =>
    let h := h.wr F.SYS_STATE_TARGET 1
    if h.pstate = 1 then h.startSwitch (.enter .standby) [] (h.onWaves [] [48]) else h.modPwr (fun p => { p with goal := .enter .standby })
  let s := if s.hw.pstate = 1 && s.hw.pwr.waves.isEmpty then
      s.mapHw fun h => (h.wr F.SYS_STATE_TRANSIT 0).modPwr (fun p => { p with goal := .idle })
    else s
  s.endPowerJob 1

/-- A wake event of an enabled source (R74, R85, R87). -/
def Sys.wake (s : Sys) (w : WakeSrc) : Sys :=
  let h := s.hw
  if !h.wakeEnabled w || h.pwr.inPor then s
  else if h.inDeep then s.wakeUp w
  else if h.committed then s.mapHw fun h => h.modPwr (fun p => { p with heldWake := p.heldWake ++ [w] })
  else if h.pstate = 0 then s.mapHw fun h => h.wakeNote w
  else
    let s := if h.pwr.goal == .enter .deep then s.abandonDeep else s
    s.mapHw fun h => ((h.wakeNote w).raiseBit bSYS 8).notice 11 0 0

/-- RUN is left: no image runs, loads or is verified any more; its placement is kept for the next wake. -/
def Sys.imageGone (s : Sys) : Sys := s.modEng fun e => { e with img := { Img.reset with resident := e.img.resident } }

/-- POWER_TRANSITION_DONE: the state is entered. -/
def Sys.transitionDone (s : Sys) : Sys :=
  if s.hw.switching then s
  else match s.hw.pwr.goal, s.hw.pstate with
    | .enter .standby, 2 =>
      ((s.imageGone.mapHw fun h => h.banksOut.stopPlls).enterState 1).jobDone [0x10] (okWith [1#8])
    | .enter .deep, 2 => ((s.imageGone.mapHw fun h => h.banksOut.stopPlls).enterState 1).toDeep
    | .enter .standby, 1 => s.mapHw fun h => (h.wr F.SYS_STATE_TRANSIT 0).modPwr (fun p => { p with goal := .idle })
    | .enter .deep, 1 =>
      let s := (s.storeLost).mapHw fun h =>
        let h := h.modPwr (fun p => { p with heldPulls := (List.range 8).map (fun n => h.rd F.GPI_PIN_PULL n), failSafe := false })
        (h.wr F.SYS_STATE_XT24HOLD 0).stopPlls
      let s := (s.enterState 0).mapHw fun h => h.engineOff
      match s.hw.pwr.heldWake with
      | [] => s
      | w :: more =>
        (s.wakeUp w).mapHw fun h => more.foldl Hw.wakeNote (h.modPwr (fun p => { p with heldWake := [] }))
    | .enter .standby, 0 =>
      let s := (s.enterState 1).mapHw fun h => h.wr F.SYS_RSTCAUSE_DEEPEXIT 1
      s.mapHw fun h => h.modPwr (fun p => { p with starting := true, stage := 1, fromDeep := true })
    | .enter .run, 1 =>
      if !s.hw.rdB F.SYS_CLKSTAT_SYS_LOCK then s
      else
        let s := (s.enterState 2).mapHw fun h => h.modPwr (fun p => { p with audWanted := true })
        s.jobDone [0x10] (okWith [2#8])
    | _, _ => s

/-! ## Clocks (03 R77 to R81) -/

/-- Clock fail-safe (R80): every domain but PD00, PD01, PD48 and PD49 off, under R69; PENN_ALARM; SYS_EVT.XT24FAIL; STANDBY;
XT24 restarted. -/
def Sys.failSafe (s : Sys) : Sys :=
  let evt := s.hw.rd (evtF bSYS)
  let wasRun := s.hw.pstate ≠ 1
  let s := s.mapHw fun h => h.startSwitch (.enter .standby) [] []
  let offs := s.hw.offOrder ((List.range 50).filter (fun d => !([0, 1, 48, 49].contains d)))
  let s := offs.foldl (fun (s : Sys) d => (s.mapHw fun h => h.drain (h.domainMasters d) 0xFF d).switchOff d) s
  let s := s.mapHw fun h => ((h.banksOut.stopPlls).wr F.SYS_CLKSTAT_XT24_OK 0).recover 6 0xFF 0 0 evt 0
  let s := s.mapHw fun h => ((h.penFault 7 0xFF 0xFF).notice 4 0 0).raiseBit bSYS 2
  let s := if wasRun then s.enterState 1
    else s.mapHw fun h => ((h.wr F.SYS_STATE_TARGET 1).wr F.SYS_STATE_TRANSIT 0).modPwr (fun p => { p with goal := .idle })
  let s := s.mapHw fun h => h.modPwr (fun p => { p with
    failSafe := true, xtEnabled := true, autorun := false, boot := 0, waves := [], offs := [] })
  let s := s.imageGone
  let s := match s.eng.job with
    | some j => if j.op = 0x90 || j.result.isSome then s else s.jobDone [j.op] (refuseWith 11)
    | none => s
  match s.eng.ncur, s.eng.work with
  | some _, w :: ws =>
    if w.steps.any (fun st => match st with | .erase _ | .unpend => true | _ => false) then
      (s.modEng fun e => { e with work := { w with after := .resume false } :: ws }).completeN (refuseWith 11)
    else
      let s := (s.act (.wrote (s.nv.stepPhys (w.steps.headD .commit)) (w.steps.headD .commit).region)).abandon w
      ((s.modEng fun e => { e with work := ws }).completeN (refuseWith 11)).storeNext
  | some _, [] => s.completeN (refuseWith 11)
  | none, _ => s

/-! ## Resets (03 R91, R92) -/

/-- Everything that a power-on, pin or system reset returns to its reset value; what no reset reaches is kept: the levels of
balls, the model's counters, and for a pin or system reset the TMR count and compares, SYS_RSTCAUSE, SYS_WAKECFG,
SYS_BANKRET, the logs and the banks in RETAIN. -/
def Hw.chipReset (s : Hw) (por : Bool) : Hw :=
  let z := Hw.reset
  let z := { z with cycle := s.cycle, freeCount := s.freeCount, brg := { z.brg with lead := s.brg.lead },
                    gpi := { z.gpi with ext := s.gpi.ext } }
  if por then z
  else
    let keepReg := fun a => [0x04000050, 0x04000058, 0x04000064].contains a || (0x04160040 ≤ a && a < 0x04160058)
    let kept := fun (a : Nat) => decide (a < 0x01000000) && s.domState (4 + a / 0x100000) == .retain
    { z with
      regs := Store.drop (fun a => !keepReg a) s.regs
      mem := Store.drop (fun a => !kept a) s.mem
      recLog := s.recLog, evLog := s.evLog
      pwr := { z.pwr with dom := (List.range 50).map (fun d => if s.domState d == .retain then .retain else z.domState d) } }

/-- A power-on, pin or system reset. -/
def Sys.reset (s : Sys) (por : Bool) : Sys := (s.storeLost).mapHw fun h => h.chipReset por

end Sys2Proof.Machine
end

