-- ==== Sys2Proof/Machine/Image.lean ====
section
/-! DEFINITION. Images (19 R665 to R674, 03 R95 to R97): the checks, a load by command, from flash or of what is resident, the
start of an image, and what follows a verification that fails. -/

namespace Sys2Proof.Machine

open Sys2Proof

/-! ## The header (19 R665) -/

/-- Fields of an image's header. -/
def hdSlot (b : List Byte) : Nat := byteAt b 6
def hdLen (b : List Byte) : Nat := fieldAt b 8 4
def hdId (b : List Byte) : Nat := fieldAt b 0x0C 4
def hdBase (b : List Byte) : Nat := fieldAt b 0x10 4
def hdRstvec (b : List Byte) : Nat := fieldAt b 0x14 4
def hdVbar (b : List Byte) : Nat := fieldAt b 0x18 4
def hdSvn (b : List Byte) : Nat := byteAt b 0x1C
def hdPintab (b : List Byte) : Nat := fieldAt b 0x4C 4
def hdPenoff (b : List Byte) : Nat := fieldAt b 0x50 4
def hdPenlen (b : List Byte) : Nat := fieldAt b 0x54 4

/-- Bytes `lo ≤ i < hi` are 0. -/
def zeroBytes (b : List Byte) (lo hi : Nat) : Bool := ((b.drop lo).take (hi - lo)).all (fun x => x = 0#8)

/-- The first of checks 1 to 3 (19 R666) that a header fails, 0 for none; `total`: the length that IMAGE_BEGIN gave. -/
def headerBad (b : List Byte) (total : Option Nat) : Nat :=
  let len := hdLen b
  let base := hdBase b
  let inside := fun (a : Nat) => decide (base ≤ a) && decide (a < base + len)
  if b.take 4 ≠ [0x47#8, 0x56#8, 0x49#8, 0x4D#8] || fieldAt b 4 2 ≠ 1 || !zeroBytes b 0x1D 0x20 || !zeroBytes b 0x58 0x100 then 1
  else if len % 16 ≠ 0 || len < 512 || 16777216 < len || (match total with | some n => n ≠ len | none => false) then 2
  else if base % 4096 ≠ 0 || 0x1000000 < base + len || !inside (hdRstvec b) || !inside (hdVbar b)
      || len < hdPintab b + 384 || len < hdPenoff b + hdPenlen b then 3
  else 0

/-- The pin table and the pennant section of an image. -/
def imgPins (b : List Byte) : List Word :=
  (List.range 96).map (fun n => BitVec.ofNat 32 (fieldAt b (hdPintab b + 4 * n) 4))
def imgSection (b : List Byte) : List Byte := (b.drop (hdPenoff b)).take (hdPenlen b)

/-- The digest that an image's signature covers. -/
def imgDigest (b : List Byte) : List Byte := sha256 (b.take (hdLen b - 64))

/-- The first check of 19 R666 that an image fails; 0 where it verifies. The mapping and the rules that its AVAS records are
checked against are those in force, or none where PD36 is off. -/
def Sys.imageBad (s : Sys) (b : List Byte) (total : Option Nat) : Nat :=
  let h := headerBad b total
  let len := hdLen b
  let slot := hdSlot b
  let key := (b.drop (len - 128)).take 64
  let mask := BitVec.ofNat 32 pinMask
  if h ≠ 0 then h
  else if 3 < slot || !bit s.nv.prg slot || bit s.nv.rev slot then 4
  else if leNat (sha256 key) ≠ s.nv.kh.getD slot 0 then 5
  else if !ecdsaOk (imgDigest b) key ((b.drop (len - 64)).take 64) then 6
  else if hdSvn b < s.nv.svn then 7
  else if ((if s.hw.on 36 then s.hw else s.hw.resetUnits 36).penSection (imgSection b)).isNone then 8
  else if (imgPins b).any (fun w => w &&& mask ≠ w) then 9
  else 0

/-! ## Placement -/

/-- The banks of an image's placement, as domains. -/
def bankDomains (base len : Nat) : List Nat :=
  ((List.range 16).filter (fun b => base < (b + 1) * 0x100000 && b * 0x100000 < base + len)).map (· + 4)

/-- A bank can be written now. -/
def Hw.bankReady (s : Hw) (d : Nat) : Bool := s.on d && s.usable d && !s.pwr.filling.contains (d - 4)

/-- Bytes written through M2 into the banks that are ready. -/
def Hw.place (s : Hw) (a : Nat) (bs : List Byte) : Hw :=
  (bankDomains a bs.length).foldl (fun (s : Hw) d =>
    let lo := max a ((d - 4) * 0x100000)
    let hi := min (a + bs.length) ((d - 3) * 0x100000)
    if s.bankReady d then s.setBytes lo ((bs.drop (lo - a)).take (hi - lo)) else s) s

/-- The image's record changed. -/
def Sys.modImg (s : Sys) (f : Img → Img) : Sys := s.modEng fun e => { e with img := f e.img }
def Sys.img (s : Sys) : Img := s.eng.img

/-- What has come of an image by command, and can be, is written to LOADBASE + offset (19 R670). -/
def Sys.flushImage (s : Sys) : Sys :=
  let i := s.img
  if i.state ≠ 1 || i.src ≠ 0 || i.bad ≠ 0 || i.data.length < 256
      || !(bankDomains (hdBase i.data) (hdLen i.data)).all s.hw.bankReady then s
  else (s.mapHw fun h => h.place (hdBase i.data + i.placed) (i.data.drop i.placed)).modImg fun g =>
    { g with placed := g.data.length }

/-! ## Loading (19 R670) -/

/-- The crypto engine works: PD49 is on. -/
def Sys.cryptoOn (s : Sys) : Sys := s.domainOn 49

/-- IMAGE_BEGIN. -/
def Sys.imageBegin (s : Sys) (port total : Nat) : Sys :=
  s.modImg fun g => { Img.reset with state := 1, src := 0, total := total, port := port, resident := g.resident }

/-- IMAGE_DATA: the next bytes. -/
def Sys.imageData (s : Sys) (data : List Byte) : Sys :=
  (s.modImg fun g =>
    let all := g.data ++ data
    { g with data := all, bad := if 256 ≤ all.length then headerBad (all.take 256) (some g.total) else 0 }).flushImage

/-- IMAGE_END: all bytes are in and the checks run. -/
def Sys.imageEnd (s : Sys) (port : Nat) : Sys := s.cryptoOn.modImg fun g => { g with checking := true, port := port }

/-- A load from flash begins (03 R95, 18 R614). -/
def Sys.flashLoad (s : Sys) (port : Nat) : Sys :=
  (s.cryptoOn.mapHw fun h => foldUp (fun (h : Hw) n => h.wr F.GPI_PIN_FUNC 1 n) 8 6 h).modImg fun g =>
    { Img.reset with state := 1, src := 1, checking := true, port := port, resident := g.resident }

/-- The check of the image that is resident in work memory begins (03 R88, 19 R670). -/
def Sys.residentLoad (s : Sys) : Sys :=
  s.cryptoOn.modImg fun g => { Img.reset with state := 1, src := 2, checking := true, resident := g.resident }

/-- The engine waits for an image over the link or the host port: PD41 and PD42 on (03 R95). -/
def Sys.awaitImage (s : Sys) : Sys := s.mapHw fun h => h.startSwitch .own [] (h.onWaves [] [41, 42])

/-- The domains that the reception of another image needs (03 R96). -/
def receiveDomains : List Nat := [0, 1, 48, 49, 21, 41, 42, 44, 45, 46]

/-- An image fails its verification with a code (03 R96, 19 R666). -/
def Sys.imageFails (s : Sys) (code : Nat) : Sys :=
  let i := s.img
  let s := s.mapHw fun h =>
    (((h.wr F.NVS_IMGERR_CODE code).raiseBit bNVS 3).notice 3 code 0).event 0x12 i.port code 0 0
  if i.src = 2 then
    let s := s.modImg fun _ => Img.reset
    if s.hw.on 44 && s.hw.on 46 then s.flashLoad 0xFF
    else s.mapHw fun h => (h.startSwitch .own [] (h.onWaves [] [44, 46])).modPwr (fun p => { p with boot := 1 })
  else
    let s := (s.modImg fun g => { Img.reset with resident := g.resident }).jobDone [0x22, 0x23] (refuseWith 10)
    s.mapHw fun h => h.startSwitch .own (h.offOrder ((List.range 50).filter (fun d => !receiveDomains.contains d)))
      (h.onWaves [] [41, 42])

/-! ## The start of an image (03 R97, 07 R271, 12 R420, 14 R495, R498, 18 R614, 19 R667, R671, R674) -/

/-- The run set where none is recorded. -/
def defaultRunSet : List Nat := [2, 3, 20, 34, 36, 38, 39, 45]

/-- An image verifies: the run set switches on, PD20, PD34, PD36 and PD38 in one wave with PD02 and PD03, and the banks of the
image's placement with it. -/
def Sys.imageVerified (s : Sys) (b : List Byte) : Sys :=
  let s := s.modImg fun g => { g with
    state := 2, checking := false, data := b, header := b.take 256, digest := (imgDigest b).take 16 }
  let run := match s.nv.runSet with | some m => bitsOf 50 m | none => defaultRunSet
  s.mapHw fun h => h.startSwitch .image [] (h.onWaves [2, 3, 20, 34, 36, 38] (run ++ bankDomains (hdBase b) (hdLen b)))

/-- The registers that the command engine writes from a header (07 R244, 08 R297, 18 R631). -/
def Hw.headerRegs (s : Hw) (b : List Byte) : Hw :=
  let s := (s.wr F.EFT_RSTVEC_VEC (hdRstvec b)).wr F.EFT_VBAR_BASE (hdVbar b / 64)
  let s := foldUp (fun (s : Hw) j => s.wr F.EFT_CPMODE_MODE (fieldAt b (0x20 + 4 * j) 4) j) 0 8 s
  foldUp (fun (s : Hw) k =>
    let c := byteAt b (0x40 + 2 * k)
    ((s.wr F.EFT_COPCFG47_BOUND (c / 128) k).wr F.EFT_COPCFG47_NODE (c % 128) k).wr F.EFT_COPCFG47_SSLOT
      (byteAt b (0x41 + 2 * k)) k) 0 4 s

/-- XSP_CFG as a header gives it. -/
def Hw.headerXsp (s : Hw) (b : List Byte) : Hw :=
  let x := fun i => byteAt b (0x48 + i)
  if !s.on 44 then s
  else (((((s.wr F.XSP_CFG_SIZE (x 0)).wr F.XSP_CFG_ADDR4 (x 1)).wr F.XSP_CFG_RMODE (x 1 / 16)).wr F.XSP_CFG_ROP (x 2)).wr
    F.XSP_CFG_DUMMY (x 3 / 16)).wr F.XSP_CFG_DIV (x 3)

/-- The secret buffer (19 R674): each slot with APPREAD = 1, its bytes little-endian; without a device key none opens. -/
def Sys.secretBuffer (s : Sys) : Sys :=
  let open_ := if s.eng.devKey.isSome then s.nv.secrets.filter (fun e => e.2.1) else []
  s.mapHw fun h => open_.foldl (fun (h : Hw) e =>
    foldUp (fun (h : Hw) w => h.wr F.NVS_SEC (fieldAt e.2.2 (4 * w) 4) (16 * e.1 + w)) 0 16 h) (h.resetRange 0x04151000 0x04152000)

/-- The image starts: eft 0 is released. -/
def Sys.imageGo (s : Sys) : Sys :=
  let i := s.img
  let b := i.data
  let s := s.mapHw fun h => foldUp (fun (h : Hw) e => h.stopEft (Fin.ofNat 4 e)) 0 4 h
  let s := if i.src = 2 then s else s.mapHw fun h => h.place (hdBase b) b
  let s := s.mapHw fun h => ((((h.headerRegs b).headerXsp b).applyPinTable (imgPins b)).wr F.PEN_FCOUNT_F 0)
  let s := s.mapHw fun h => let g := h.canRejoin; (g.penSection (imgSection b)).getD g
  let s := match s.nv.avas with
    | some r => s.mapHw fun h => { h with voc := { h.voc with recs := h.voc.recs ++ [r] } }
    | none => s
  let s := s.mapHw fun h => h.copyPennantSound h.voc.base
  let s := if bit (byteAt b 7) 0 && s.nv.svn < hdSvn b then s.act (.blowSvn (min 32 (hdSvn b))) else s
  let s := s.secretBuffer
  let s := s.mapHw fun h => ((h.startEft 0).modPwr (fun p => { p with goal := .idle })).event 0x11 i.port 0 0 (hdId b)
  let s := s.modImg fun g => { g with state := 3, data := [], resident := some (hdBase b, hdLen b) }
  s.jobDone [0x22, 0x23] (okWith (leBytes 4 (hdId b) ++ leBytes 1 (hdSlot b)))

/-- A verified image starts as soon as its domains are on and the banks of its placement are filled. -/
def Sys.imageStep (s : Sys) : Sys :=
  let b := s.img.data
  if s.hw.pwr.goal == .image && !s.hw.switching
      && (bankDomains (hdBase b) (hdLen b)).all (fun d => !s.hw.pwr.filling.contains (d - 4)) then s.imageGo
  else s

/-- IMAGE_VERIFY_DONE: the checks are done; `flash`: what the flash holds from the offset of the load on. -/
def Sys.verifyDone (s : Sys) (flash : List Byte) : Sys :=
  let i := s.img
  if !i.checking || s.hw.switching then s
  else
    let b := match i.src, i.resident with
      | 0, _ => i.data
      | 1, _ => flash.take (max 256 (hdLen flash))
      | _, some r => s.hw.bytes r.1 r.2
      | _, none => []
    match s.imageBad b (if i.src = 0 then some i.total else if i.src = 1 then some (max 256 (min flash.length (hdLen flash))) else none) with
    | 0 => (s.imageVerified b).imageStep
    | code => s.imageFails code

/-- FLASH_HEADER_TIMEOUT: no valid header within 10 ms. A start then waits for an image over the link or the host port. -/
def Sys.headerTimeout (s : Sys) : Sys :=
  let i := s.img
  if !i.checking || i.src ≠ 1 then s
  else
    let s := (s.modImg fun g => { Img.reset with resident := g.resident }).jobDone [0x23] (refuseWith 11)
    if i.port = 0xFF then s.awaitImage else s

/-- IMAGE_INFO (19 R670). -/
def Sys.imageInfo (s : Sys) : List Byte :=
  let i := s.img
  let b := if i.header.isEmpty then (if i.data.length < 256 then [] else i.data) else i.header
  leBytes 4 (hdId b) ++ leBytes 4 (hdLen b) ++ leBytes 4 (hdBase b) ++ leBytes 4 (hdRstvec b)
    ++ leBytes 1 (hdSvn b) ++ leBytes 1 (hdSlot b) ++ leBytes 1 (byteAt b 7) ++ leBytes 1 i.state ++ fitBytes 12 i.digest

end Sys2Proof.Machine
end

