-- ==== Sys2Proof/Machine/Start.lean ====
section
/-! DEFINITION. Starts, resets, wakes and the clocks (03 R77 to R95): COLD_START and what it leads to, the power rows, and the
row writes of the store as they go on. -/

namespace Sys2Proof.Machine

open Sys2Proof

/-! ## Calibration (19 R656, R657) -/

/-- A calibration record is valid. -/
def calValid (b : List Byte) : Bool :=
  let len := fieldAt b 4 2
  b.take 4 = [0x43#8, 0x41#8, 0x4C#8, 0x31#8] && 64 ≤ len && len ≤ 16384
    && fieldAt b 8 4 = crc32 ((b.drop 0x10).take (len - 0x10)) && zeroBytes b 0x0C 0x10 && zeroBytes b 0x18 0x40
    && byteAt b 0x10 ≤ 7 && byteAt b 0x11 ≤ 3 && byteAt b 0x12 ≤ 7 && byteAt b 0x13 ≤ 7 && byteAt b 0x14 ≤ 7
    && byteAt b 0x15 ≤ 7

/-- The device section of a record. -/
def calSection (b : List Byte) : List Nat := ((List.range 6).map (fun i => byteAt b (0x10 + i))) ++ [fieldAt b 0x16 2]

/-- CALIBRATION_SELECT: the user record, else the factory record, else the defaults. -/
def Sys.calibrate (s : Sys) : Sys :=
  let user := s.nv.read 1 0 16384
  let factory := s.nv.read 0 0 16384
  let pick := if calValid user then (0, calSection user) else if calValid factory then (1, calSection factory)
    else (2, [3, 0, 4, 2, 4, 2, 0])
  (s.modEng fun e => { e with cal := pick.2 }).mapHw fun h =>
    (h.wr F.NVS_STAT_CALSRC pick.1).raiseIf (!calValid user) bNVS 0

/-! ## COLD_START (03 R94, R95; 19 R669, R677, R678) -/

/-- The start checks are complete: the start policy is followed; out of DEEP the device waits in STANDBY, or goes on by
AUTORUN_START. -/
def Sys.followPolicy (s : Sys) : Sys :=
  let deep := s.hw.pwr.fromDeep
  let s := s.mapHw fun h => h.modPwr (fun p => { p with starting := false, stage := 0, started := true, fromDeep := false })
  if deep then s
  else match s.nv.policy with
    | none | some 0 | some 1 => s.toRun ([4, 44, 46] ++ s.nv.hostPort) 1
    | some 2 => s.toRun ([41, 42] ++ s.nv.hostPort) 2
    | some 3 => s.toRun [45] 2
    | _ => s

/-- The device key is made where one is due. -/
def Sys.keyDue (s : Sys) : Bool :=
  s.nv.key.isNone && (s.nv.lifecycle = 0 || (s.nv.lifecycle = 1 && !s.eng.debugOpen))

/-- The start goes on after its zeroization check: calibration, the device key, the policy. -/
def Sys.startOn (s : Sys) : Sys :=
  let s := s.calibrate.loadKey
  if s.keyDue then
    let r := s.makeKey .keyStart
    if r.2 then r.1.mapHw fun h => h.modPwr (fun p => { p with stage := 3 }) else r.1.followPolicy
  else s.followPolicy

/-- COLD_START. Debug access of FIELD is closed before anything else; a pending zeroization runs again from its first row. -/
def Sys.coldStart (s : Sys) : Sys :=
  let p := s.hw.pwr
  if !p.starting || p.stage ≠ 1 || p.inPor then s
  else
    let s := s.cryptoOn.modEng fun e => { e with debugOpen := false, debugUsed := false }
    match s.nv.pendingZero with
    | some o =>
      let s := (s.mapHw fun h => (h.wr F.SYS_RSTCAUSE_ZRESUME 1).modPwr (fun p => { p with stage := 2 })).clearKey
      (s.modEng fun e => { e with zero := true }).enqueue
        ⟨secureRows.map NvStep.erase ++ [NvStep.unpend], [], [], 0, .resume o⟩
    | none => s.startOn

/-- A start waits for no row write any more: it goes on. A zeroization that could not be confirmed holds it (19 R676). -/
def Sys.startStep (s : Sys) : Sys :=
  match s.hw.pwr.stage with
  | 2 => if s.zeroizing then s else s.startOn
  | 3 => if s.eng.work.isEmpty then s.followPolicy else s
  | _ => s

/-- NVM_ROW_WRITE_DONE. On the way to DEEP what is left of the store's work is given up, and a class N command with it
(03 R76). -/
def Sys.rowWriteDone (s : Sys) (ok : Bool) : Sys :=
  if !s.eng.storeBusy || !s.hw.on 48 then s
  else
    let s := s.rowDone ok
    let deep := s.hw.pwr.goal == .enter .deep && s.hw.pstate = 1
    let s := if deep then (s.storeLost.modEng fun e => { e with zero := false }).completeN (refuseWith 11) else s
    s.startStep

/-! ## What an entry to RUN goes on with -/

/-- Where the image comes from after an entry to RUN (03 R88, R95). -/
def Sys.bootStep (s : Sys) : Sys :=
  let p := s.hw.pwr
  if p.boot = 0 || s.hw.pstate ≠ 2 || s.hw.switching || !(p.goal == .idle) then s
  else
    let t := s.mapHw fun h => h.modPwr (fun p => { p with boot := 0 })
    match p.boot with
    | 1 => t.flashLoad 0xFF
    | 2 => t
    | _ => t.residentLoad

/-- AUTORUN_START: from STANDBY to RUN without a command. The image is taken from work memory where its banks were retained,
else from flash. -/
def Sys.autorun (s : Sys) : Sys :=
  let p := s.hw.pwr
  if !p.autorun || p.starting || s.hw.pstate ≠ 1 || s.hw.transit || p.failSafe then s
  else
    let s := s.mapHw fun h => h.modPwr (fun p => { p with autorun := false })
    let kept := match s.img.resident with
      | some r => (bankDomains r.1 r.2).all (fun d => s.hw.domState d == .retain)
      | none => false
    match kept, s.img.resident with
    | true, some r => s.toRun (bankDomains r.1 r.2 ++ s.nv.hostPort) 3
    | _, _ => s.toRun ([44, 46] ++ s.nv.hostPort) 1

/-! ## Meanings -/

/-- COLD_START. -/
def execColdStart (s : State) : Host.Outcome State Fault Refusal := s.onSys Sys.coldStart

/-- NVM_ROW_WRITE_DONE: the row write in progress verified, or not. -/
def execNvmRowWriteDone (ok : Bool) (s : State) : Host.Outcome State Fault Refusal := s.onSys fun d => (d.rowWriteDone ok).debugStep

/-- WEAR_MOVE. -/
def execWearMove (s : State) : Host.Outcome State Fault Refusal :=
  s.onSys fun d => if d.hw.pwr.goal == .enter .deep then d else d.wearMove

/-- FUSE_BLOW_DONE: whether what is read back differs from what was blown. -/
def execFuseBlowDone (differs : Bool) (s : State) : Host.Outcome State Fault Refusal := s.onSys fun d => (d.fuseDone differs).debugStep

/-- IMAGE_VERIFY_DONE: `flash`: what the flash holds from the offset of a load from flash on. -/
def execImageVerifyDone (flash : List Byte) (s : State) : Host.Outcome State Fault Refusal :=
  s.onSys fun d => d.verifyDone flash

/-- FLASH_HEADER_TIMEOUT. -/
def execFlashHeaderTimeout (s : State) : Host.Outcome State Fault Refusal := s.onSys Sys.headerTimeout

/-- AUTORUN_START. -/
def execAutorunStart (s : State) : Host.Outcome State Fault Refusal := s.onSys Sys.autorun

/-- POWER_TRANSITION_DONE. -/
def execPowerTransitionDone (s : State) : Host.Outcome State Fault Refusal := s.onSys fun d => d.transitionDone.bootStep

/-- DOMAIN_WAVE_DONE. -/
def execDomainWaveDone (s : State) : Host.Outcome State Fault Refusal := s.onSys fun d => d.waveDone.imageStep.bootStep

/-- DOMAIN_OFF_DONE. -/
def execDomainOffDone (s : State) : Host.Outcome State Fault Refusal := s.onSys Sys.offDone

/-- MASTER_DRAIN_TIMEOUT. -/
def execMasterDrainTimeout (s : State) : Host.Outcome State Fault Refusal := s.onSys Sys.drainTimeout

/-- BANK_ZERO_FILL_DONE (03 R68). -/
def execBankZeroFillDone (bank : Fin 16) (s : State) : Host.Outcome State Fault Refusal :=
  s.onSys fun d =>
    ((d.mapHw fun h => h.modPwr (fun p => { p with filling := p.filling.filter (· ≠ bank.val) })).flushImage).imageStep

/-- RAIL_DIP (18 R685, 03 R91): the power-on reset holds the device until POR_RELEASE. -/
def execRailDip (s : State) : Host.Outcome State Fault Refusal :=
  s.onSys fun d =>
    let was := d.hw.pwr.started
    (d.reset true).mapHw fun h => h.modPwr (fun p => { p with
      inPor := true, started := was, dom := List.replicate 50 Dom.off })

/-- POR_RELEASE: SYS_RSTCAUSE holds POR, and BOR where the device had started; then as after a cold start. -/
def execPorRelease (s : State) : Host.Outcome State Fault Refusal :=
  s.onSys fun d =>
    if !d.hw.pwr.inPor then d
    else d.mapHw fun h => (h.wr F.SYS_RSTCAUSE_BOR (b2n h.pwr.started)).modPwr fun _ => Pwr.reset

/-- A pin or system reset, with its SYS_RSTCAUSE bit. -/
def Sys.chipReset (s : Sys) (cause : FieldRef) : Sys :=
  if s.hw.pwr.inPor then s
  else
    let was := s.hw.pwr.started
    (s.reset false).mapHw fun h => (h.wr cause 1).modPwr (fun p => { p with started := was })

/-- PIN_RESET. -/
def execPinReset (s : State) : Host.Outcome State Fault Refusal := s.onSys fun d => d.chipReset F.SYS_RSTCAUSE_PIN

/-- TAP_RESET: the TAP controller and its instruction register, which no command of this model loads. -/
def execTapReset (s : State) : Host.Outcome State Fault Refusal := s.onSys fun d => d

/-- SP_CS_WAKE. -/
def execSpCsWake (s : State) : Host.Outcome State Fault Refusal := s.onSys fun d => d.wake .spcs

/-- WAKE_BALL: the ball has met the condition that SYS_WAKECFG chooses (03 R87). -/
def execWakeBall (s : State) : Host.Outcome State Fault Refusal := s.onSys fun d => d.wake .wakePin

/-- GPIO_WAKE: a pin GPA0..GPA7 has met its condition. -/
def execGpioWake (pin : Fin 8) (s : State) : Host.Outcome State Fault Refusal := s.onSys fun d => d.wake (.gpio pin)

/-- LINK_ACTIVITY_WAKE. -/
def execLinkActivityWake (port : Fin 2) (s : State) : Host.Outcome State Fault Refusal := s.onSys fun d => d.wake (.link port)

/-- The TMR count stands at `count`, and the compare of a pair of registers fires (03 R84); it is never cleared, so it never
falls. -/
def Hw.tmrFires (s : Hw) (count : Nat) (lo hi : FieldRef) : Bool :=
  decide (s.rd lo + s.rd hi * 2 ^ 32 ≤ count) && decide (s.rd F.TMR_CNTLO_COUNT + s.rd F.TMR_CNTHI_COUNT * 2 ^ 32 ≤ count)
def Hw.tmrAt (s : Hw) (count : Nat) : Hw := (s.wr F.TMR_CNTLO_COUNT count).wr F.TMR_CNTHI_COUNT (count / 2 ^ 32)

/-- TMR_ALM0. -/
def execTmrAlm0 (count : BitVec 48) (s : State) : Host.Outcome State Fault Refusal :=
  s.onSys fun d =>
    if d.hw.pwr.inPor || !d.hw.tmrFires count.toNat F.TMR_ALM0LO_CMP F.TMR_ALM0HI_CMP then d
    else (d.mapHw fun h => (h.tmrAt count.toNat).raiseBit bTMR 0).wake .tmr

/-- TMR_ALM1. -/
def execTmrAlm1 (count : BitVec 48) (s : State) : Host.Outcome State Fault Refusal :=
  s.onSys fun d =>
    if d.hw.pwr.inPor || !d.hw.tmrFires count.toNat F.TMR_ALM1LO_CMP F.TMR_ALM1HI_CMP then d
    else d.mapHw fun h => (h.tmrAt count.toNat).raiseBit bTMR 1

/-- LSC_SWITCH (03 R78). -/
def execLscSwitch (s : State) : Host.Outcome State Fault Refusal :=
  s.onSys fun d =>
    if d.hw.pwr.inPor || d.hw.rdB F.SYS_CLKSTAT_LSC_SRC || d.hw.rdB F.SYS_CLKSTAT_LSC_FAIL then d
    else d.mapHw fun h => (h.wr F.SYS_CLKSTAT_LSC_SRC 1).raiseBit bSYS 7

/-- LSC_CRYSTAL_FAIL. -/
def execLscCrystalFail (s : State) : Host.Outcome State Fault Refusal :=
  s.onSys fun d =>
    if d.hw.pwr.inPor || d.hw.rdB F.SYS_CLKSTAT_LSC_SRC then d else d.mapHw fun h => h.wr F.SYS_CLKSTAT_LSC_FAIL 1

/-- XT24_READY. -/
def execXt24Ready (s : State) : Host.Outcome State Fault Refusal :=
  s.onSys fun d => if d.hw.pwr.xtEnabled then d.mapHw fun h => h.wr F.SYS_CLKSTAT_XT24_OK 1 else d

/-- XT24_FAIL. -/
def execXt24Fail (s : State) : Host.Outcome State Fault Refusal :=
  s.onSys fun d => if d.hw.pwr.xtEnabled && d.hw.rdB F.SYS_CLKSTAT_XT24_OK then d.failSafe else d

/-- PLL_SYS_LOCK: on the way to RUN, with XT24 running (03 R77, SYS_EVT.SYSUNLOCK). -/
def execPllSysLock (s : State) : Host.Outcome State Fault Refusal :=
  s.onSys fun d =>
    if d.hw.pwr.goal == .enter .run && d.hw.rdB F.SYS_CLKSTAT_XT24_OK && !d.hw.rdB F.SYS_CLKSTAT_SYS_LOCK then
      d.mapHw fun h =>
        ((h.wr F.SYS_CLKSTAT_SYS_LOCK 1).raiseIf h.pwr.unlocked bSYS 3).modPwr (fun p => { p with unlocked := false })
    else d

/-- PLL_SYS_UNLOCK (03 R81). -/
def execPllSysUnlock (s : State) : Host.Outcome State Fault Refusal :=
  s.onSys fun d =>
    if d.hw.rdB F.SYS_CLKSTAT_SYS_LOCK then d.failSafe.mapHw fun h => h.modPwr (fun p => { p with unlocked := true }) else d

end Sys2Proof.Machine
end

