-- ==== Sys2Proof/Machine/EngineI.lean ====
section
/-! DEFINITION. The commands of class I (04 R129, R133): what each does to the device, and what it answers. -/

namespace Sys2Proof.Machine

open Sys2Proof

/-! ## The opcode table (04 R128, R129) -/

/-- The classes of opcodes; `reset` is RESET_SYSTEM's, which sends no reply. -/
inductive OpCls where
  | imm | nvm | job | reset
  deriving DecidableEq, Repr

/-- A row of the opcode table: OPCODE, the codes of the ports that may issue it, its class, and the least and the greatest
number of parameter bytes. -/
structure OpRow where
  op : Nat
  ports : List Nat
  cls : OpCls
  least : Nat
  most : Nat
  deriving DecidableEq, Repr

/-- The ports that the table names. -/
def pAll : List Nat := [0, 1, 2, 3, 4]
def pSP : List Nat := [0]
def pSH : List Nat := [0, 1]
def pSHM : List Nat := [0, 1, 2]
def pSHMD : List Nat := [0, 1, 2, 4]
def pSHLD : List Nat := [0, 1, 3, 4]
def pSHD : List Nat := [0, 1, 4]

/-- The families CORE, POWER and IMAGE. -/
def opRowsA : List OpRow :=
  [⟨0x01, pAll, .imm, 4, 4⟩, ⟨0x02, pAll, .imm, 4, 4⟩, ⟨0x03, pAll, .imm, 0, 0⟩, ⟨0x04, pSHMD, .job, 0, 0⟩,
    ⟨0x10, pSH, .job, 2, 2⟩, ⟨0x11, pSHM, .job, 14, 14⟩, ⟨0x12, pSH, .imm, 2, 2⟩, ⟨0x13, pSH, .imm, 10, 10⟩,
    ⟨0x14, pAll, .imm, 0, 0⟩, ⟨0x15, pSP, .nvm, 7, 7⟩, ⟨0x16, pSP, .nvm, 1, 1⟩,
    ⟨0x20, pSHLD, .imm, 4, 4⟩, ⟨0x21, pSHLD, .imm, 5, 4100⟩, ⟨0x22, pSHLD, .job, 0, 0⟩, ⟨0x23, pSH, .job, 4, 4⟩,
    ⟨0x24, pSH, .imm, 1, 1⟩, ⟨0x25, pSH, .job, 0, 0⟩, ⟨0x26, pAll, .imm, 0, 0⟩]

/-- The families PENNANT, SIGTABLE, AVAS, GPIO and LEDGER. -/
def opRowsB : List OpRow :=
  [⟨0x30, pSP, .imm, 17, 17⟩, ⟨0x31, pSP, .imm, 8, 8⟩, ⟨0x32, pSP, .imm, 5, 4100⟩, ⟨0x33, pSP, .imm, 3, 1027⟩,
    ⟨0x34, pSP, .imm, 1, 1⟩, ⟨0x35, pSP, .imm, 0, 0⟩, ⟨0x36, pSP, .imm, 1, 1⟩, ⟨0x37, pSP, .imm, 17, 17⟩,
    ⟨0x38, pSP, .imm, 32, 32⟩, ⟨0x39, pSHM, .imm, 0, 0⟩,
    ⟨0x40, pSP, .imm, 3, 3⟩, ⟨0x41, pSHM, .imm, 0, 0⟩, ⟨0x42, pSH, .imm, 36, 36⟩, ⟨0x43, pSH, .imm, 0, 0⟩,
    ⟨0x50, pSP, .imm, 2, 2⟩, ⟨0x51, pAll, .imm, 0, 0⟩, ⟨0x52, pSP, .imm, 0, 4100⟩, ⟨0x53, pSHM, .imm, 0, 0⟩]

/-- The families NVM, CALIB, SECRET and LINK. -/
def opRowsC : List OpRow :=
  [⟨0x60, pSHMD, .imm, 7, 7⟩, ⟨0x61, pSHM, .nvm, 6, 4100⟩, ⟨0x62, pSHM, .imm, 1, 1⟩, ⟨0x63, pSH, .nvm, 4, 4100⟩,
    ⟨0x64, pSH, .nvm, 0, 0⟩, ⟨0x65, pSP, .nvm, 0, 0⟩, ⟨0x66, pSP, .nvm, 2, 65⟩,
    ⟨0x70, pSH, .job, 0, 0⟩, ⟨0x71, pAll, .imm, 1, 1⟩, ⟨0x72, pSP, .imm, 8, 8⟩, ⟨0x73, pSHD, .job, 4, 4⟩,
    ⟨0x74, pSH, .job, 9, 4100⟩]

/-- The families RECOVERY, DEBUG and TELEMETRY. -/
def opRowsD : List OpRow :=
  [⟨0x80, pSH, .imm, 1, 1⟩, ⟨0x81, pSP, .reset, 0, 0⟩, ⟨0x82, pSP, .job, 1, 1⟩, ⟨0x83, pSH, .imm, 1, 1⟩,
    ⟨0x84, pSHM, .imm, 1, 1⟩,
    ⟨0x90, pSP, .job, 0, 0⟩, ⟨0x91, pSHD, .imm, 0, 0⟩, ⟨0x92, pSP, .nvm, 1, 1⟩, ⟨0x93, pSP, .nvm, 33, 33⟩,
    ⟨0x94, pSP, .nvm, 1, 1⟩,
    ⟨0xA0, pAll, .imm, 1, 1⟩, ⟨0xA1, pSH, .imm, 4, 4⟩, ⟨0xA2, pSHMD, .imm, 2, 2⟩]

/-- The opcode table; an opcode that it does not hold is undefined. -/
def opRows : List OpRow := opRowsA ++ opRowsB ++ opRowsC ++ opRowsD
def opRow (op : Nat) : Option OpRow := opRows.find? (fun r => r.op = op)

/-- The feature bit of an opcode (R128). -/
def featureOf (op : Nat) : Nat :=
  match op / 16 with
  | 3 => if op = 0x37 then 4 else if op = 0x38 then 5 else 3
  | 4 => 6
  | 5 => 7
  | 6 => if op ≤ 0x62 then 8 else if op ≤ 0x65 then 9 else 10
  | 7 => 11
  | 8 => 12
  | 9 => 13
  | 10 => 14
  | k => k

/-- The features offered on a port (R126): those with an opcode that the port may issue in the lifecycle state; no
SECRET_STORE is permitted in RETURNED (19 R662). -/
def Sys.offer (s : Sys) (i : Nat) : Nat :=
  let p := portCode i
  let may := opRows.filter (fun r => r.ports.contains p && !(r.op = 0x66 && s.nv.lifecycle = 2))
  ofBits (may.map (fun r => featureOf r.op)) ||| (if [0, 1, 4].contains p then 2 ^ 15 + 2 ^ 17 else 0)
    ||| (if p = 1 then 2 ^ 16 else 0)

/-! ## CORE -/

/-- An answer about which only the device may have changed. -/
def Sys.put (s : Sys) (r : Hw × Answer) : Sys × Answer := ({ s with hw := r.1 }, r.2)

/-- HELLO (R113, R124). -/
def Sys.hello (s : Sys) (i : Nat) (par : List Byte) : Sys × Answer :=
  if byteAt par 0 ≠ 1 then (s, badParam 0)
  else
    let offer := s.offer i
    let node := if s.hw.on 21 then s.hw.nodeId else 0xFF
    (s.modPort i (fun p => { p with session := 1, mask := 0, rxmax := max 24 (min 4096 (fieldAt par 2 2)), stored := none }),
      okWith ([1#8, 0#8] ++ leBytes 4 (s.hw.rd F.SYS_REVID_REV) ++ leBytes 1 (portCode i) ++ leBytes 1 s.nv.lifecycle
        ++ leBytes 1 node ++ leBytes 1 s.hw.pstate ++ leBytes 2 (if bit offer 15 then 4100 else 256) ++ leBytes 4 offer
        ++ leBytes 4 1 ++ zeros 4))

/-- The lowest byte of a mask in which one of its bits lies. -/
def firstByte (m : Nat) : Nat := ((List.range 8).find? (fun b => m / 256 ^ b % 256 ≠ 0)).getD 0

/-- SELECT (R125). -/
def Sys.select (s : Sys) (i : Nat) (par : List Byte) : Sys × Answer :=
  let m := fieldAt par 0 4
  let offer := s.offer i
  let extra := ofBits ((bitsOf 32 m).filter (fun b => !bit offer b))
  if (s.port i).session = 2 then (s, badParam 0xFFFF)
  else if !bit m 0 then (s, badParam 0)
  else if extra ≠ 0 then (s, badParam (firstByte extra))
  else (s.modPort i (fun p => { p with session := 2, mask := m }), okWith (leBytes 4 m))

/-- The STATUS record (R147). -/
def Sys.statusRecord (s : Sys) (i : Nat) : List Byte :=
  let p := s.port i
  let j := s.eng.job
  let engine := b2n j.isSome + 2 * b2n s.eng.zero + 4 * b2n s.hw.allWait + 8 * b2n s.hw.pwr.failSafe
    + 16 * b2n s.hw.pennAlarm + 32 * b2n s.eng.storeBusy + 64 * b2n s.debugOpen
  leBytes 1 (s.hw.pstate + 128 * b2n s.hw.transit) ++ leBytes 1 s.nv.lifecycle ++ leBytes 1 engine ++ leBytes 1 s.eng.jobOp
    ++ leBytes 1 s.jobPort ++ leBytes 1 p.session ++ leBytes 2 (s.noticeSet i) ++ leBytes 2 p.overrun
    ++ leBytes 2 p.rejects ++ leBytes 1 p.lastStat ++ leBytes 1 p.lastOp ++ leBytes 1 p.framing ++ leBytes 1 p.lost

/-- STATUS: the notices it returned are cleared, but on MB. -/
def Sys.status (s : Sys) (i : Nat) : Sys × Answer :=
  (if i = 2 then s else s.modPort i (fun p => { p with notices := 0 }), okWith (s.statusRecord i))

/-! ## POWER -/

/-- RETAIN_SET (03 R72); the bit of a retired bank is ignored (05 R163). -/
def Sys.retainSet (s : Sys) (par : List Byte) : Sys × Answer :=
  let old := s.hw.rd F.SYS_BANKRET_MASK
  let m := ofBits ((List.range 16).filter (fun b =>
    if s.hw.mtx.retired.contains b then bit old b else bit (fieldAt par 0 2) b))
  (s.mapHw fun h => h.wr F.SYS_BANKRET_MASK m, okWith [])

/-- The enable bits of SYS_WAKECFG but for EN_SPCS. -/
def otherWakes : Nat := 0xFF78

/-- WAKE_CONFIG (03 R85). -/
def Sys.wakeConfig (s : Sys) (par : List Byte) : Sys × Answer :=
  let v := fieldAt par 0 4
  if !bit v 0 && v &&& otherWakes = 0 then (s, badParam 0)
  else
    let a := F.SYS_WAKECFG_EN_SPCS.addr 0
    (s.mapHw fun h => (((h.setReg a (readMask a (BitVec.ofNat 32 v))).wr F.TMR_ALM0LO_CMP (fieldAt par 4 4)).wr
      F.TMR_ALM0HI_CMP (fieldAt par 8 2)), okWith [])

/-- DOMAIN_GET. -/
def Sys.domainGet (s : Sys) : List Byte := s.hw.pdstat ++ leBytes 4 (s.hw.liveWord 0x04000050).toNat

/-! ## IMAGE (07 R271, 19 R670) -/

/-- Some eft is not STOPPED. -/
def Hw.eftsRun (s : Hw) : Bool := s.eftsIn (· != .stopped) != 0

/-- IMAGE_BEGIN. -/
def Sys.cmdImageBegin (s : Sys) (i : Nat) (par : List Byte) : Sys × Answer :=
  let n := fieldAt par 0 4
  if n = 0 || 16777216 < n then (s, badParam 0)
  else if s.hw.eftsRun then (s, badParam 0xFFFF)
  else (s.imageBegin (portCode i) n, okWith [])

/-- IMAGE_DATA. -/
def Sys.cmdImageData (s : Sys) (par : List Byte) : Sys × Answer :=
  let g := s.img
  let data := par.drop 4
  if g.state ≠ 1 || g.src ≠ 0 || g.total < g.data.length + data.length then (s, badParam 0xFFFF)
  else if fieldAt par 0 4 ≠ g.data.length then (s, badParam 0)
  else (s.imageData data, okWith [])

/-- The efts of a mask. -/
def eftsOf (m : Nat) : List (Fin 4) := [0, 1, 2, 3].filter (fun e => bit m e.val)

/-- APP_START: each STOPPED eft of the mask starts. -/
def Sys.appStart (s : Sys) (par : List Byte) : Sys × Answer :=
  let m := byteAt par 0
  if s.img.state < 2 then (s, badParam 0xFFFF)
  else if m = 0 || 15 < m then (s, badParam 0)
  else
    let s := s.mapHw fun h => (eftsOf m).foldl (fun (h : Hw) e => if (h.eft e).run = .stopped then h.startEft e else h) h
    (s.modImg fun g => { g with state := 3 }, okWith [])

/-! ## GPIO (18 R611, R612, R617) -/

/-- GPIO_OWN_SET. -/
def Hw.gpioOwnSet (s : Hw) (par : List Byte) : Hw × Answer :=
  let first := byteAt par 0
  let n := byteAt par 1
  let code := byteAt par 2
  if 95 < first then (s, badParam 0)
  else if n = 0 || 96 < first + n then (s, badParam 1)
  else if code = 0 || 5 < code then (s, badParam 2)
  else if (List.range n).any (fun k => s.owner (first + k) ≠ 0) then (s, refuseWith 8)
  else ((s.setOwners first n code).varGpio, okWith [])

/-- A word with the bits of a mask replaced. -/
def maskIn (mask old new : Nat) : Nat := ofBits ((List.range 32).filter (fun b => if bit mask b then bit new b else bit old b))

/-- GPIO_WRITE for the pins of an owner. -/
def Hw.gpioWrite (s : Hw) (owner : Nat) (par : List Byte) : Hw × Answer :=
  if (bitsOf 96 (fieldAt par 0 12)).any (fun n => s.owner n ≠ owner) then (s, refuseWith 8)
  else
    let s := foldUp (fun (s : Hw) k =>
      let m := fieldAt par (4 * k) 4
      (s.wr F.GPI_OUT_OUT (maskIn m (s.rd F.GPI_OUT_OUT k) (fieldAt par (12 + 4 * k) 4)) k).wr F.GPI_OE_OE
        (maskIn m (s.rd F.GPI_OE_OE k) (fieldAt par (24 + 4 * k) 4)) k) 0 3 s
    (s.varGpio, okWith [])

/-- GPIO_READ. -/
def Hw.gpioRead (s : Hw) : List Byte := (List.range 3).flatMap (fun k => leBytes 4 (s.gpiIn k).toNat)

/-! ## NVM (19 R649, R655) -/

/-- The bytes of a region. -/
def regionSize (r : Nat) : Nat := 64 * regionRows r

/-- NVM_READ. -/
def Sys.nvmRead (s : Sys) (i : Nat) (par : List Byte) : Answer :=
  let r := byteAt par 0
  let off := fieldAt par 1 4
  let n := fieldAt par 5 2
  if r = 2 || ((i = 2 || i = 3) && r ≠ 3) then refuseWith 4
  else if 3 < r then badParam 0
  else if n = 0 || 4096 < n then badParam 5
  else if regionSize r < off + n then badParam 1
  else okWith (s.nv.read r off n)

/-- NVM_WEAR's summary. -/
def Nv.wearSummary (n : Nv) (r : Nat) : List Byte :=
  let phys := (List.range (regionRows r)).map (fun k => n.phys (regionBase r + k))
  let high := phys.foldl (fun m p => max m (n.count p)) 0
  let secure := fun (p : Nat) => decide (512 ≤ p) && decide (p < 800)
  leBytes 2 (regionRows r) ++ leBytes 2 (n.poolSize (r = 2)) ++ leBytes 4 high ++ leBytes 4 (n.writes.getD r 0)
    ++ leBytes 2 (n.withdrawn.filter (fun p => secure p == (r = 2))).length ++ leBytes 1 r
    ++ leBytes 1 (b2n (n.refused.getD r false))

/-! ## LINK (17 R593, LINK_STATUS) -/

/-- LINK_STATUS. -/
def Hw.linkStatus (s : Hw) (p : Nat) : List Byte :=
  leBytes 1 (s.rd F.BRG_P_STAT_STATE p)
    ++ leBytes 1 (s.rd F.BRG_P_STAT_PPORT p + 2 * b2n (s.bport p).partnerLead + 4 * s.rd F.BRG_P_STAT_TV p)
    ++ leBytes 1 s.nodeId ++ leBytes 1 (s.rd F.BRG_STAT_NODES) ++ leBytes 1 (s.rd F.BRG_STAT_TOPO)
    ++ leBytes 1 (s.rd F.BRG_STAT_TPORT + 2 * s.rd F.BRG_STAT_SYNC) ++ leBytes 4 (s.rd F.BRG_P_DELAY_DELAY p)
    ++ leBytes 4 (s.rd F.BRG_P_ERR_CODE p) ++ leBytes 2 (s.rd F.BRG_P_ERR_RESYNC p) ++ leBytes 2 (s.rd F.BRG_P_ERR_CRC p)
    ++ leBytes 4 (s.rd F.BRG_TSERR_ERR) ++ leBytes 1 (s.rd F.BRG_TIMING_LRXD) ++ zeros 1
    ++ leBytes 4 (s.rd F.BRG_TIMING_BLAT) ++ leBytes 4 (s.rd F.BRG_SFCNT_COUNT)

/-- The first byte of a policy record that holds a reserved value. -/
def policyBad (r : List Byte) : Option Nat :=
  (List.range 8).find? (fun i =>
    let b := byteAt r i
    match i with
    | 0 => decide (128 ≤ b)
    | 2 => decide (2 < b)
    | 4 | 5 | 6 => decide (b ≠ 0)
    | 7 => decide (1 < b)
    | _ => false)

/-- A safety setting stored in a transaction of its own; false where the wear reserve is empty. -/
def Sys.persist (s : Sys) (r : NvRec) : Sys × Bool := s.transact [(recordRow r, [])] [r] .nothing

/-- LINK_POLICY. -/
def Sys.linkPolicy (s : Sys) (r : List Byte) : Sys × Answer :=
  match policyBad r with
  | some k => (s, badParam k)
  | none =>
    if bit (byteAt r 7) 0 then
      let t := s.persist (.link r)
      if t.2 then (t.1.mapHw fun h => h.setPolicy r, okWith []) else (t.1, refuseWith 9)
    else (s.mapHw fun h => h.setPolicy r, okWith [])

/-- AVAS_CONFIG; a bus record with PERSIST = 1 is stored too (14 R498). -/
def Sys.avasCommand (s : Sys) (r : List Byte) : Sys × Answer :=
  let a := s.hw.avasConfig r
  if a.2.1 = 0 && byteAt r 0 = 3 && bit (byteAt r 1) 1 then
    let t := s.persist (.avas r)
    if t.2 then (t.1.mapHw fun h => (h.avasConfig r).1, okWith []) else (t.1, refuseWith 9)
  else s.put a

/-! ## RECOVERY -/

/-- MATRIX_RELEASE (05 R187). -/
def Hw.cmdRelease (s : Hw) (i m : Nat) : Hw × Answer :=
  if m = 2 || 11 < m then (s, badParam 0)
  else let r := s.release m 1 (portCode i) 0; (r.1, okWith (leBytes 1 r.2.1 ++ leBytes 1 (b2n r.2.2)))

/-- EFT_RESTART (07 R271). -/
def Hw.eftRestart (s : Hw) (i m : Nat) : Hw × Answer :=
  if m = 0 || 15 < m then (s, badParam 0)
  else (((eftsOf m).foldl (fun (h : Hw) e => h.startEft e) s).recover 8 (portCode i) m 0 0 0, okWith [])

/-- A recovery record as RECOVERY_LOG returns it (R148). -/
def RecRec.bytes (r : RecRec) : List Byte :=
  leBytes 1 r.kind ++ leBytes 1 r.port ++ leBytes 1 r.unit ++ leBytes 1 r.sub ++ leBytes 4 r.a ++ leBytes 4 r.b
    ++ leBytes 4 r.stamp

/-- RECOVERY_LOG. -/
def Hw.recoveryAt (s : Hw) (k : Nat) : Answer :=
  if 31 < k then badParam 0 else okWith (match s.recLog[k]? with | some r => r.bytes | none => zeros 16)

/-! ## DEBUG -/

/-- DEBUG_STATUS (19 R678). -/
def Sys.debugStatus (s : Sys) : List Byte :=
  leBytes 1 s.nv.lifecycle
    ++ leBytes 1 (b2n s.debugOpen + 2 * b2n s.nv.pendingZero.isSome + 4 * b2n s.eng.zero + 8 * b2n s.eng.devKey.isSome
      + 16 * b2n s.nv.factoryLock + 32 * b2n s.evaluated)
    ++ leBytes 1 (s.nv.rev + 16 * s.nv.prg) ++ leBytes 1 s.nv.svn ++ leBytes 4 s.nv.zeroCount

/-! ## TELEMETRY (R149, R150; 20 R707) -/

/-- A field as telemetry samples it: 0 where its domain is off. -/
def Hw.see (s : Hw) (f : FieldRef) (i : Nat := 0) : Nat :=
  if s.on (regDomain (f.addr i)) then getBits (s.liveWord (f.addr i)) f.hi f.lo else 0

/-- A sum over the sixteen banks. -/
def Hw.seeBanks (s : Hw) (f : FieldRef) : Nat := (List.range 16).foldl (fun n b => n + s.see f b) 0

/-- The record of a group. What group 0 measures is a free value: temperature and supplies. -/
def Hw.sample (s : Hw) (g : Nat) : Hw × List Byte :=
  match g with
  | 0 => let v := s.free; (v.2, leBytes 14 v.1 ++ zeros 2)
  | 1 => (s, leBytes 2 (s.see F.LDG_STAT_BOOKED) ++ leBytes 2 (s.see F.LDG_STAT_EFFCAP)
      ++ leBytes 2 (2 * s.see F.LDG_SHEDSTAT_SHED) ++ leBytes 2 (ofBits s.mtx.retired)
      ++ leBytes 4 (satU 32 (s.seeBanks F.MTX_ECCCNT_CE)) ++ leBytes 2 (satU 16 (s.seeBanks F.MTX_ECCCNT_UE))
      ++ leBytes 2 (s.see F.LDG_BGSTAT_WBDROP))
  | 2 => (s, leBytes 4 (s.see F.TIM_FRAME_COUNT) ++ leBytes 2 (s.see F.TIM_UFCNT_LINES) ++ leBytes 2 (s.see F.TIM_SEAM_COUNT)
      ++ leBytes 1 (s.see F.TIM_LOCKSTAT_STATE) ++ leBytes 1 (s.see F.PEN_STAT_CAUSE) ++ leBytes 2 (s.see F.PEN_CHKCNT_FAILED)
      ++ leBytes 4 (s.see F.PEN_FCOUNT_F))
  | _ => (s, leBytes 2 (s.see F.VOC_CNT_STARVES) ++ leBytes 2 (s.see F.MIX_CLIPCNT_COUNT) ++ leBytes 1 (s.see F.VOC_PAUDIT_FAILS)
      ++ leBytes 1 (s.see F.MIX_STAT_FALLBACK + 2 * s.see F.BRG_STAT_SYNC) ++ leBytes 2 (s.see F.AUS_STAT_RBMIS)
      ++ leBytes 1 (s.see F.BRG_STAT_NODES) ++ leBytes 1 (s.see F.BRG_STAT_ID) ++ leBytes 2 (s.see F.BRG_P_ERR_CODE)
      ++ leBytes 2 (s.see F.BRG_P_ERR_CODE 1) ++ leBytes 1 (s.see F.BRG_BCNT_LATE) ++ leBytes 1 (s.see F.BRG_BCNT_DROP))

/-- Every group of the mask sampled, and its record kept. -/
def Hw.sampleAll (s : Hw) : Hw :=
  foldUp (fun (s : Hw) g =>
    if bit s.eng.telMask g then
      let r := s.sample g
      r.1.modEng (fun e => { e with telRecs := e.telRecs.set g (some r.2) })
    else s) 0 4 s

/-- TELEM_READ. -/
def Hw.telemRead (s : Hw) (g : Nat) : Hw × Answer :=
  if 3 < g then (s, badParam 0)
  else match (if bit s.eng.telMask g then s.eng.telRecs.getD g none else none) with
    | some r => (s, okWith r)
    | none => let r := s.sample g; (r.1, okWith r.2)

/-- TELEM_CONFIG: what a group that leaves the mask had kept is no longer its latest record. -/
def Hw.telemConfig (s : Hw) (par : List Byte) : Hw × Answer :=
  let m := fieldAt par 2 2
  if 15 < m then (s, badParam 2)
  else (s.modEng (fun e => { e with
      telPeriod := fieldAt par 0 2, telMask := m
      telRecs := e.telRecs.mapIdx (fun g r => if bit m g then r else none) }), okWith [])

/-- An event record as EVENT_LOG returns it (R149). -/
def EvRec.bytes (r : EvRec) : List Byte :=
  leBytes 1 r.kind ++ leBytes 1 r.port ++ leBytes 1 r.detail0 ++ leBytes 1 r.detail1 ++ leBytes 4 r.aux ++ leBytes 4 r.frame
    ++ leBytes 4 r.stamp

/-- EVENT_LOG. -/
def Hw.eventAt (s : Hw) (k : Nat) : Answer :=
  if 255 < k then badParam 0 else okWith (match s.evLog[k]? with | some r => r.bytes | none => 0xFF#8 :: zeros 15)

/-! ## All of class I -/

/-- What a class I command does and answers; one that refuses leaves the device as the refusal's rule says. -/
def Sys.runI (s : Sys) (i op : Nat) (par : List Byte) : Sys × Answer :=
  let b := byteAt par
  match op with
  | 0x01 => s.hello i par
  | 0x02 => s.select i par
  | 0x03 => s.status i
  | 0x12 => s.retainSet par
  | 0x13 => s.wakeConfig par
  | 0x14 => (s, okWith s.domainGet)
  | 0x20 => s.cmdImageBegin i par
  | 0x21 => s.cmdImageData par
  | 0x24 => s.appStart par
  | 0x26 => (s, okWith s.imageInfo)
  | 0x30 => s.put (s.hw.penCellSet (b 0) (par.drop 1))
  | 0x31 => (s.mapHw fun h => h.penCellEnable (fieldAt par 0 8), okWith [])
  | 0x32 => s.put (s.hw.penStoreWrite (fieldAt par 0 4) (par.drop 4))
  | 0x33 => s.put (s.hw.penPalette (b 0) (par.drop 3))
  | 0x34 => s.put (s.hw.penMode (b 0))
  | 0x35 => s.put s.hw.penAlarmClear
  | 0x36 => s.put (s.hw.penGapSet (b 0))
  | 0x37 => s.put (s.hw.sigtabWrite (b 0) (par.drop 1))
  | 0x38 => s.avasCommand par
  | 0x39 => (s, okWith s.hw.penStatus)
  | 0x40 => s.put (s.hw.gpioOwnSet par)
  | 0x41 => (s, okWith ((List.range 96).map (fun n => BitVec.ofNat 8 (s.hw.owner n))))
  | 0x42 => s.put (s.hw.gpioWrite (if i = 0 then 1 else 2) par)
  | 0x43 => (s, okWith s.hw.gpioRead)
  | 0x50 => s.put (s.hw.ledgerCapSet (fieldAt par 0 2))
  | 0x51 => (s, okWith s.hw.ledgerSummary)
  | 0x52 => s.put (s.hw.ledgerShedOrder (par.map BitVec.toNat))
  | 0x53 => s.put s.hw.ledgerCommit
  | 0x60 => (s, s.nvmRead i par)
  | 0x62 => (s, if 3 < b 0 then badParam 0 else okWith (s.nv.wearSummary (b 0)))
  | 0x71 => (s, if 1 < b 0 then badParam 0 else okWith (s.hw.linkStatus (b 0)))
  | 0x72 => s.linkPolicy par
  | 0x80 => s.put (s.hw.cmdRelease i (b 0))
  | 0x83 => s.put (s.hw.eftRestart i (b 0))
  | 0x84 => (s, s.hw.recoveryAt (b 0))
  | 0x91 => (s, okWith s.debugStatus)
  | 0xA0 => s.put (s.hw.telemRead (b 0))
  | 0xA1 => s.put (s.hw.telemConfig par)
  | _ => (s, s.hw.eventAt (fieldAt par 0 2))

end Sys2Proof.Machine
end

