-- ==== Sys2Proof/Machine/Engine.lean ====
section
/-! DEFINITION. The command engine (04): the checking order of R131, commands of class N and class J, what a request that is
taken leads to, and the ends of jobs. -/

namespace Sys2Proof.Machine

open Sys2Proof

/-! ## Class N (19 R650 to R673, 03 R88, R95) -/

/-- The domains that a run set or a switching would leave on satisfy their Needs (03 R62). -/
def needsHold (final : List Nat) : Bool := final.all (fun d => (needs d).all final.contains)

/-- Slot `k` is programmed and not revoked. -/
def Nv.liveSlot (n : Nv) (k : Nat) : Bool := bit n.prg k && !bit n.rev k

/-- The particular checks of a class N command. -/
def Sys.nCheck (s : Sys) (i op : Nat) (par : List Byte) : Option Answer :=
  let b := byteAt par
  let when_ := fun (c : Bool) (a : Answer) => if c then some a else none
  let n := s.nv
  match op with
  | 0x15 =>
    let m := fieldAt par 0 7
    (when_ (2 ^ 50 ≤ m) (badParam 6)).or
      (when_ (!needsHold ((List.range 50).filter (fun d => bit m d || [0, 1, 21, 48].contains d))) (badParam 0xFFFF))
  | 0x16 => when_ (4 < b 0) (badParam 0)
  | 0x61 =>
    (when_ (b 0 ≠ 3) (refuseWith 4)).or (when_ (0x100000 < fieldAt par 1 4 + (par.length - 5)) (badParam 1))
  | 0x63 =>
    ((when_ (b 0 = 1 && i = 1) (refuseWith 4)).or (when_ (b 0 = 1 && n.factoryLock) (refuseWith 8))).or
      ((when_ (1 < b 0) (badParam 0)).or (when_ (16384 < fieldAt par 1 2 + (par.length - 3)) (badParam 1)))
  | 0x65 => when_ n.factoryLock (refuseWith 8)
  | 0x66 =>
    (when_ (n.lifecycle = 2) (refuseWith 4)).or (when_ (bit (b 0) 6 || s.eng.devKey.isNone) (badParam 0))
  | 0x92 =>
    (when_ (!(n.lifecycle = 0 && b 0 = 1) && !(n.lifecycle = 1 && b 0 = 2)) (badParam 0)).or
      (when_ (b 0 = 1 && !(List.range 4).any n.liveSlot) (refuseWith 4))
  | 0x93 =>
    (when_ (n.lifecycle ≠ 0) (refuseWith 4)).or
      ((when_ (3 < b 0) (badParam 0)).or (when_ (bit n.prg (b 0) || bit n.rev (b 0)) (refuseWith 8)))
  | 0x94 =>
    (when_ (3 < b 0) (badParam 0)).or
      (when_ (n.liveSlot (b 0) && (List.range 4).all (fun k => k = b 0 || !n.liveSlot k)) (refuseWith 8))
  | _ => none

/-- A transaction whose reply follows its commit; one that finds too few free rows is refused (19 R655). -/
def Sys.storeN (s : Sys) (rows : List (Nat × List Byte)) (recs : List NvRec) (reply : List Byte) : Sys :=
  let r := s.transact rows recs (.reply 0 reply)
  if r.2 then r.1 else r.1.completeN (refuseWith 9)

/-- An engine record written. -/
def Sys.storeRecord (s : Sys) (r : NvRec) : Sys := s.storeN [(recordRow r, [])] [r] []

/-- The rows of the user area that differ from the factory area's, with the factory area's bytes (19 R659). -/
def Nv.restoreRows (n : Nv) : List (Nat × List Byte) :=
  (List.range 256).filterMap (fun k =>
    let f := n.rowBytes (n.phys (regionBase 0 + k))
    if n.rowBytes (n.phys (regionBase 1 + k)) = f then none else some (regionBase 1 + k, f))

/-- The class N command that has become the running one begins. -/
def Sys.nStart (s : Sys) (op : Nat) (par : List Byte) : Sys :=
  let b := byteAt par
  match op with
  | 0x15 => s.storeRecord (.runSet (fieldAt par 0 7))
  | 0x16 => s.storeRecord (.policy (b 0))
  | 0x61 =>
    let rows := s.nv.rewritten 3 (fieldAt par 1 4) (par.drop 5)
    s.storeN rows [] (leBytes 2 (rows.length + 1))
  | 0x63 => s.storeN (s.nv.rewritten (if b 0 = 1 then 0 else 1) (fieldAt par 1 2) (par.drop 3)) [] []
  | 0x64 =>
    let rows := s.nv.restoreRows
    if rows.isEmpty then s.completeN (okWith (leBytes 2 0)) else s.storeN rows [] (leBytes 2 (rows.length + 1))
  | 0x65 => s.storeRecord .factoryLock
  | 0x66 =>
    let k := b 0 % 64
    s.storeN [(secretRow k, []), (secretRow k + 1, [])] [.secret k (bit (b 0) 7) (par.drop 1)] []
  | 0x92 => s.modEng fun e => { e with fuse := some (.life (b 0)) }
  | 0x93 => s.modEng fun e => { e with fuse := some (.keyhash (b 0) (fieldAt par 1 32)) }
  | _ =>
    if bit s.nv.rev (b 0) then s.completeN (okWith []) else s.modEng fun e => { e with fuse := some (.revoke (b 0)) }

/-- A class N command begins, with none running. -/
def Sys.nBegin (s : Sys) (r : NReq) : Sys := (s.modEng fun e => { e with ncur := some r }).nStart r.op r.par

/-- CLASS_N_BEGIN: the oldest that waits begins, its checks made again. -/
def Sys.nNext (s : Sys) : Sys :=
  match s.eng.nq with
  | [] => s
  | r :: rest =>
    if s.eng.ncur.isSome || s.zeroizing || s.eng.jobOp = 0x90 then s
    else
      let s := s.modEng fun e => { e with nq := rest }
      match s.nCheck r.port r.op r.par with
      | some a =>
        if (s.port r.port).discard then s.modPort r.port (fun p => { p with exec := none, discard := false })
        else (s.modPort r.port (fun p => { p with exec := none })).refuse r.port r.op r.seq a
      | none => s.nBegin r

/-! ## Class J -/

/-- The domains that a DOMAIN_SET names. -/
def onMask (par : List Byte) : Nat := fieldAt par 0 7
def offMask (par : List Byte) : Nat := fieldAt par 7 7

/-- The check of 12 R429 and 03 R65 keeps a domain on: cells are enabled and scan with PD20 on. -/
def Hw.cellsScan (s : Hw) : Bool := s.on 20 && s.scanning && s.pen.cells.any (·.latEn)

/-- PD20 or PD36 would go off while the display scans or the AVAS output is enabled (03 R66). -/
def Hw.guarded (s : Hw) (off : Nat → Bool) : Bool :=
  [20, 36].any (fun d => off d && s.on d) && (s.scanning || s.rdB F.VOC_PAUDIT_AVEN)

/-- The domains that MB may switch. -/
def mbMay (d : Nat) : Bool := (decide (22 ≤ d) && decide (d ≤ 33)) || [35, 37, 40].contains d

/-- DOMAIN_SET's checks (03 R62, R65, R66; 05 R163; 16 R535). -/
def Sys.domainCheck (s : Sys) (i : Nat) (par : List Byte) : Option Answer :=
  let h := s.hw
  let on := onMask par
  let off := offMask par
  let final := (List.range 50).filter (fun d => (h.on d || bit on d) && !bit off d)
  match (List.range 56).find? (fun d => bit on d && (50 ≤ d || !h.usable d)),
      (List.range 56).find? (fun d => bit off d && (50 ≤ d || [0, 1, 21, 48].contains d)) with
  | some d, _ => some (badParam (d / 8))
  | none, some d => some (badParam (7 + d / 8))
  | none, none =>
  if on &&& off ≠ 0 || !needsHold final then some (badParam 0xFFFF)
  else if h.cellsScan && ((bit off 39 && h.on 39) || (bit off 40 && h.on 40 && h.rd F.PEN_FRZ_EN ≠ 0)) then some (refuseWith 4)
  else if i ≠ 0 && h.guarded (bit off) then some (refuseWith 4)
  else if i = 2 && (List.range 50).any (fun d => (bit on d || bit off d) && !mbMay d) then some (refuseWith 4)
  else none

/-- A node that a packet can reach. -/
def Hw.reachable (s : Hw) (n : Nat) : Bool := n < 128 && n ≠ s.nodeId && bit (s.rd F.BRG_REACH_BITS (n / 32)) (n % 32)

/-- The particular checks of a class J command. -/
def Sys.jCheck (s : Sys) (i op : Nat) (par : List Byte) : Option Answer :=
  let b := byteAt par
  let when_ := fun (c : Bool) (a : Answer) => if c then some a else none
  match op with
  | 0x10 =>
    ((when_ (2 < b 0) (badParam 0)).or (when_ (1 < b 1) (badParam 1))).or
      ((when_ (b 0 = 2 && i = 1 && s.hw.pwr.failSafe) (refuseWith 4)).or
        (when_ (b 0 < 2 && i ≠ 0 && s.hw.guarded (fun _ => true)) (refuseWith 4)))
  | 0x11 => s.domainCheck i par
  | 0x22 =>
    when_ (s.img.state ≠ 1 || s.img.src ≠ 0 || s.img.data.length ≠ s.img.total) (badParam 0xFFFF)
  | 0x73 =>
    ((when_ (1 < b 0) (badParam 0)).or (when_ (3 < b 1 % 8 || bit (b 1) 3 || 4 < b 1 / 16) (badParam 1))).or
      (when_ (fieldAt par 2 2 = 0) (badParam 2))
  | 0x74 => when_ (!s.hw.reachable (b 0)) (badParam 0)
  | 0x82 =>
    (when_ (15 < b 0) (badParam 0)).or (when_ (s.hw.mtx.retired.contains (b 0)) (badParam 0))
  | _ => none

/-- The running job's result. -/
def Sys.jobResult (s : Sys) (a : Answer) : Sys :=
  s.modEng fun e => { e with job := e.job.map (fun (j : Job) => { j with result := some a }) }

/-- The running job ends at once, and its reply is made ready. -/
def Sys.jobEnd (s : Sys) (a : Answer) : Sys :=
  match s.eng.job with
  | some j => (s.modEng fun e => { e with job := none }).complete j.port j.op j.seq a
  | none => s

/-- POWER_STATE begins (03 R71 to R76, R79, R80). -/
def Sys.powerState (s : Sys) (i : Nat) (par : List Byte) : Sys :=
  let want := byteAt par 0
  let s := s.mapHw fun h => h.wr F.SYS_STATE_XT24HOLD (byteAt par 1)
  let s := if want = 2 && i = 0 then s.mapHw fun h => h.modPwr (fun p => { p with failSafe := false }) else s
  match s.hw.pstate, want with
  | 2, 2 => s.jobResult (okWith [2#8])
  | 2, 1 => s.leaveRun .standby
  | 2, _ => s.leaveRun .deep
  | _, 2 => s.toRun s.nv.hostPort 0
  | _, 1 =>
    let s := s.mapHw fun h =>
      if byteAt par 1 = 1 then h.modPwr (fun p => { p with xtEnabled := true })
      else (h.wr F.SYS_CLKSTAT_XT24_OK 0).modPwr (fun p => { p with xtEnabled := p.failSafe })
    s.jobResult (okWith [1#8])
  | _, _ => s.toDeep

/-- DOMAIN_SET begins. A bank in RETAIN that the off mask names goes off at once. -/
def Sys.domainSet (s : Sys) (par : List Byte) : Sys :=
  let on := bitsOf 50 (onMask par)
  let off := bitsOf 50 (offMask par)
  let s := s.mapHw fun h => off.foldl (fun (h : Hw) d =>
    if h.domState d == .retain then (h.setDom d .off).zeroMem ((d - 4) * 0x100000) ((d - 3) * 0x100000) else h) h
  (s.mapHw fun h => h.startSwitch .domains (h.offOrder off) (h.onWaves [] on)).switched

/-- Every eft that runs stops (07 R226, R272). -/
def Sys.stopAll (s : Sys) : Sys :=
  let mask := s.hw.eftsIn (· != .stopped)
  let s := s.mapHw fun h => (eftsOf 15).foldl (fun (h : Hw) e => h.stopEft e) h
  let s := s.mapHw fun h => h.recover 7 s.jobPort mask 0 0 0
  (s.modImg fun g => { g with state := min g.state 2 }).jobResult (okWith [])

/-- Some eft has a transaction outstanding. -/
def Hw.eftsOut (s : Hw) : Bool := s.efts.toList.any (fun t => !t.out.isEmpty)

/-- The masters that an application reset releases (03 R93). -/
def appMasters : List (Fin 12 × Nat) := [(0, 2), (1, 2), (6, 33)]

/-- An application reset (03 R91, R93; 04 R127, R143; 07 R271; 14 R494): PD02, PD03, PD33, the application side of MBX and
the event flags; what M0, M1 and M6 still have outstanding is released. -/
def Sys.appReset (s : Sys) : Sys :=
  let mask := s.hw.eftsIn (· != .stopped)
  let port := s.jobPort
  let s := s.mapHw fun h => appMasters.foldl (fun (h : Hw) m => h.drain [m.1] port m.2) h
  let s := s.mapHw fun h => [2, 3, 33].foldl (fun (h : Hw) d => if h.on d then (h.resetDomainRegs d).resetUnits d else h) h
  let s := s.mapHw fun h => if s.img.header.isEmpty || !h.on 2 then h else h.headerRegs s.img.header
  let s := s.mapHw fun h => h.resetBlock bMBX
  let s := (s.closeSession 2).modPort 2 (fun p => { p with ready := none, discard := p.exec.isSome })
  let dropped := s.eng.nq.any (fun r => r.port = 2)
  let s := s.modEng fun e => { e with nq := e.nq.filter (fun r => r.port ≠ 2) }
  let s := if dropped then s.modPort 2 (fun p => { p with exec := none, discard := false }) else s
  let s := s.mapHw fun h => (h.wr F.SYS_RSTCAUSE_APP 1).recover 9 port mask 0 0 0
  (s.mapHw fun h => if h.on 2 then (eftsOf mask).foldl (fun (h : Hw) e => h.startEft e) h else h).jobResult (okWith [])

/-- LINK_PRBS begins (17 R604, R605): the port carries no superframes. -/
def Hw.prbsStart (s : Hw) (p pattern : Nat) : Hw :=
  ((s.portLeave p 4).wr F.BRG_P_PRBS_ERRS 0 p).modPort p (fun b => { b with prbs := some pattern })

/-- LINK_FORWARD begins (R130; 17 R591, R595): the packet goes out in fragments with one TAG. -/
def Sys.forwardStart (s : Sys) (par : List Byte) : Sys :=
  let node := byteAt par 0
  let tag := s.hw.brg.tag
  let s := s.mapHw fun h =>
    (fragments 1 node h.nodeId tag 6 0 (par.drop 1)).foldl (fun (h : Hw) k => h.linkRequest k)
      (h.modBrg (fun b => { b with tag := (b.tag + 1) % 256 }))
  s.modEng fun e => { e with
    job := e.job.map (fun (j : Job) => { j with par := leBytes 1 node ++ leBytes 1 tag })
    repFrag := [] }

/-- The job just taken begins. -/
def Sys.jStart (s : Sys) (i op : Nat) (par : List Byte) : Sys :=
  let b := byteAt par
  match op with
  | 0x04 =>
    let s := s.mapHw fun h => if h.on 34 then h.fadeVoices 0 240 5 else h
    if appMasters.any (fun m => s.hw.masterBusy m.1) then s else s.appReset
  | 0x10 => s.powerState i par
  | 0x11 => s.domainSet par
  | 0x22 => s.imageEnd (portCode i)
  | 0x23 => s.flashLoad (portCode i)
  | 0x25 => if s.hw.eftsOut then s else s.stopAll
  | 0x70 =>
    let kept := leBytes 8 s.hw.brg.enumCount
    let s := s.mapHw fun h => if h.brg.lead then h.modBrg (fun g => { g with enumDue := true, enumWait := false }) else h
    s.modEng fun e => { e with job := e.job.map (fun (j : Job) => { j with par := kept }) }
  | 0x73 => s.mapHw fun h => h.prbsStart (b 0) (b 1)
  | 0x74 => s.forwardStart par
  | 0x82 => (s.mapHw fun h => h.retire (b 0) (portCode i)).jobResult (okWith [])
  | _ =>
    if s.debugOpen then s.jobEnd (okWith [])
    else (s.modEng fun e => { e with debugUsed := true }).debugStep

/-- JOB_COMPLETE: what the job waited for has come or its wait is over, and its reply is made ready. -/
def Sys.jobComplete (s : Sys) : Sys :=
  match s.eng.job with
  | none => s
  | some j =>
    let s := match j.op, j.result with
      | 0x04, none => s.appReset
      | 0x25, none => s.stopAll
      | 0x70, none =>
        if leBytes 8 s.hw.brg.enumCount = j.par then s
        else s.jobResult (okWith (leBytes 1 (s.hw.rd F.BRG_STAT_NODES) ++ leBytes 1 s.hw.nodeId))
      | _, _ => s
    match s.eng.job.bind Job.result with
    | some a => s.jobEnd a
    | none => s

/-! ## The checks (R131) -/

/-- The domains that a command needs (R122). -/
def needsOf (op : Nat) (par : List Byte) : List Nat :=
  let port := if byteAt par 0 < 2 then [41 + byteAt par 0] else []
  match op with
  | 0x04 | 0x11 | 0x20 | 0x21 | 0x22 | 0x50 | 0x51 | 0x52 | 0x53 | 0x70 | 0x72 | 0x74 | 0x80 | 0x82 => [21]
  | 0x23 => [21, 44, 46]
  | 0x24 | 0x83 => [2]
  | 0x30 | 0x31 | 0x32 | 0x33 | 0x34 | 0x35 | 0x36 | 0x39 => [20]
  | 0x37 => [43]
  | 0x38 => [36]
  | 0x42 => if (bitsOf 96 (fieldAt par 0 12)).any (fun n => decide (48 ≤ n)) then [46, 47] else [46]
  | 0x43 => [46]
  | 0x60 | 0x61 | 0x62 | 0x63 | 0x64 | 0x65 | 0x66 => [48]
  | 0x71 | 0x73 => 21 :: port
  | _ => []

/-- The session or the feature forbids an opcode (R123). -/
def EPort.unnegotiated (p : EPort) (op : Nat) : Bool :=
  match p.session with
  | 0 => !(op = 1 || op = 3)
  | 1 => !(op = 1 || op = 2 || op = 3)
  | _ => !bit p.mask (featureOf op)

/-- The link policy forbids an opcode on LK (17 R593, R594). -/
def Hw.policyBars (s : Hw) (op : Nat) : Bool :=
  let b := s.policyByte 0
  !(op = 0x01 || op = 0x03 || op = 0x71) && (!bit b 4 || (op / 16 = 2 && !bit b 5))

/-- Checks 4 to 9, and the wrong number of parameters (check 12). -/
def Sys.early (s : Sys) (i op flags : Nat) (par : List Byte) : Option Answer :=
  let p := s.port i
  match opRow op with
  | none => if 1 < flags then some (badParam 0xFFFF) else some (refuseWith 3)
  | some r =>
    if 1 < flags then some (badParam 0xFFFF)
    else if s.zeroizing then some (refuseWith 1)
    else if !r.ports.contains (portCode i) || (op = 0x66 && s.nv.lifecycle = 2) then some (refuseWith 4)
    else if 4 ≤ i && s.hw.policyBars op then some (refuseWith 4)
    else if p.unnegotiated op then some (refuseWith 5)
    else if (if p.session = 2 && bit p.mask 15 then 4100 else 256) < par.length then some (badParam 2)
    else none

/-- Check 11 (R136, R140): a job, a switching or a transition holds what the command needs. -/
def Sys.held (s : Sys) (r : OpRow) (par : List Byte) : Bool :=
  let op := r.op
  let h := s.hw
  let j := s.eng.jobOp
  let moving := h.pwr.offs ++ h.pwr.waves.flatten
  let resting := h.pwr.goal == .idle
  (r.cls == .job && s.eng.job.isSome)
    || (op / 16 = 1 && [0x10, 0x11, 0x04, 0x25].contains j)
    || (needsOf op par).any moving.contains
    || (op / 16 = 2 && ([0x22, 0x23].contains j || s.img.checking || h.pwr.goal == .image))
    || (j = 0x90 && op ≠ 3)
    || ((h.transit || h.pwr.starting) && r.cls != .imm)
    || ([0x04, 0x10, 0x11, 0x22, 0x23].contains op && !resting)

/-- The parameters have a wrong length, or a domain that the command needs is off (R120, R122). -/
def Sys.misfit (s : Sys) (r : OpRow) (par : List Byte) : Bool :=
  par.length < r.least || r.most < par.length || (r.op = 0x33 && par.length ≠ 3 + 4 * fieldAt par 1 2)
    || (needsOf r.op par).any (fun d => !s.hw.on d)

/-! ## A request that is taken -/

/-- A request executes, or is refused by its particular checks. -/
def Sys.run (s : Sys) (i seq : Nat) (r : OpRow) (par : List Byte) : Sys :=
  let op := r.op
  let started := fun (s : Sys) => s.modPort i (fun p => { p with exec := some (op, seq) })
  match r.cls with
  | .imm =>
    let t := s.runI i op par
    if t.2.1 ≠ 0 then t.1.refuse i op seq t.2
    else if (t.1.port i).rxmax < t.2.2.length then s.refuse i op seq (badParam 0xFFFF)
    else t.1.complete i op seq t.2
  | .nvm =>
    match s.nCheck i op par with
    | some a => s.refuse i op seq a
    | none =>
      let q : NReq := ⟨i, op, seq, par⟩
      if s.eng.ncur.isNone && s.eng.nq.isEmpty then (started s).nBegin q
      else (started s).modEng fun e => { e with nq := e.nq ++ [q] }
  | .job =>
    match s.jCheck i op par with
    | some a => s.refuse i op seq a
    | none => ((started s).modEng fun e => { e with job := some ⟨i, op, seq, par, none⟩ }).jStart i op par
  | .reset => s.chipReset F.SYS_RSTCAUSE_SYSCMD

/-- A request taken at port index `i` (R131, R137, R139); `bad`: what checks 2 and 3 answer. -/
def Sys.takeAt (s : Sys) (i op seq flags : Nat) (bad : Option Answer) (par : List Byte) : Sys :=
  let p := s.port i
  if p.exec.isSome then
    let s := s.modPort i (fun p => { p with overrun := satU 16 (p.overrun + 1) })
    if i = 2 then s.mapHw fun h => h.raiseBit bMBX 2 else s
  else
    let s := if p.ready.isSome then s.modPort i (fun p => { p with ready := none, lost := satU 8 (p.lost + 1) }) else s
    match bad.or (s.early i op flags par), opRow op with
    | some a, _ => s.refuse i op seq a
    | none, none => s
    | none, some r =>
      match (if flags = 1 then p.stored.filter (fun x => x.1 = op && x.2.1 = seq) else none) with
      | some x => s.putReply i x.2.2
      | none =>
        if s.held r par then s.refuse i op seq (refuseWith 1)
        else if s.misfit r par then s.refuse i op seq (badParam 0xFFFF)
        else s.run i seq r par

/-- SP listens: in STANDBY and RUN, up to the commit point of an entry to DEEP (R103, 03 R74, R89). -/
def Sys.spListens (s : Sys) : Bool := !s.hw.pwr.inPor && s.hw.pstate ≠ 0 && !s.hw.committed

/-- HP, MB, DP and LK can be used (R103). -/
def Sys.hpListens (s : Sys) : Bool := !s.hw.pwr.inPor && s.hw.pstate = 2 && s.hw.on 45
def Sys.mbListens (s : Sys) : Bool := !s.hw.pwr.inPor && s.hw.pstate = 2 && s.hw.on 2
def Sys.dpListens (s : Sys) : Bool := s.spListens && s.debugOpen
def Sys.lkListens (s : Sys) : Bool :=
  !s.hw.pwr.inPor && s.hw.pstate = 2 && s.hw.on 21 && (s.hw.portUp 0 || s.hw.portUp 1)

/-- The LK slot of a node: its own, or a free one whose last command is over (R113, R144). -/
def Sys.slotFor (s : Sys) (n : Nat) : Option Nat :=
  ([4, 5, 6, 7].find? (fun i => (s.port i).node = some n)).or
    ([4, 5, 6, 7].find? (fun i => (s.port i).node.isNone && (s.port i).exec.isNone))

/-- A reply to a node that has no slot: its request passes the checks of a closed session, and what passes is BUSY (R113, R131). -/
def Sys.answerNode (s : Sys) (n tag op seq : Nat) (a : Answer) : Sys :=
  s.mapHw fun h => (fragments 2 n h.nodeId tag 6 0 (replyPacket op a.1 seq a.2)).foldl (fun (h : Hw) k => h.linkAnswer n tag 1 k) h

/-- A request arrives at a port. One that its port cannot take is lost; an SP request abandons an entry to DEEP that has not
been committed (R141). -/
def Sys.take (s : Sys) (port : EngPort) (op seq flags : Nat) (bad : Option Answer) (par : List Byte) : Sys :=
  match port with
  | .sp =>
    if !s.spListens then s
    else (if s.hw.pwr.goal == .enter .deep then s.abandonDeep else s).takeAt 0 op seq flags bad par
  | .hp => if s.hpListens then s.takeAt 1 op seq flags bad par else s
  | .mb => if s.mbListens then s.takeAt 2 op seq flags bad par else s
  | .dp => if s.dpListens then s.takeAt 3 op seq flags bad par else s
  | .lk node tag =>
    if !s.lkListens then s
    else match s.slotFor node with
      | none =>
        let a := bad.or ((s.modPort 4 (fun _ => EPort.reset)).early 4 op flags par)
        s.answerNode node tag op seq (a.getD (refuseWith 1))
      | some i =>
        let s := if (s.port i).node = some node.val then s else s.modPort i (fun _ => { EPort.reset with
          node := some node.val, notices := (s.port i).notices })
        let s := if (s.port i).exec.isSome then s else s.modPort i (fun p => { p with tag := tag.val })
        s.takeAt i op seq flags bad par

/-- A whole request whose OPCODE is `op`. -/
def Sys.command (s : Sys) (op : Nat) (q : EngReq) : Sys :=
  s.take q.port op q.seq.toNat q.flags.toNat (if 4100 < q.par.length then some (badParam 2) else none) q.par

/-- A request as it is clocked in, byte 0 first (R108, R116, checks 1 to 3): nothing where its first byte is not SYNC. -/
def Sys.packet (s : Sys) (port : EngPort) (bs : List Byte) : Sys :=
  if byteAt bs 0 ≠ 0xA5 then s
  else
    let n := fieldAt bs 2 2
    let whole := 8 + n ≤ bs.length && fieldAt bs (6 + n) 2 = crc16 (bs.take (6 + n))
    let bad := if 4 ≤ bs.length && 4100 < n then some (badParam 2) else if whole then none else some (refuseWith 2)
    s.take port (byteAt bs 1) (byteAt bs 4) (byteAt bs 5) bad ((bs.drop 6).take n)

end Sys2Proof.Machine
end

