-- ==== Sys2Proof/Machine/EngineRows.lean ====
section
/-! DEFINITION. The rows of the command engine that are no opcode (04, 06 R219, 17 R591 to R605): transactions of the ports,
the mailbox, command packets of the link, ends of jobs, background work and telemetry. -/

namespace Sys2Proof.Machine

open Sys2Proof

/-! ## SP, HP and DP transactions (R106 to R114) -/

/-- What a transaction of `n` bytes clocks out. -/
def Sys.shift (s : Sys) (n : Nat) (bs : List Byte) : Sys := s.modEng fun e => { e with out := fitBytes n bs }

/-- The PSB as one byte. -/
def Sys.psbByte (s : Sys) (i : Nat) : Byte := BitVec.ofNat 8 (s.psb i)

/-- A read transaction: the PSB, then the reply that is ready; one that has been clocked out whole is ready no more
(R109). -/
def Sys.readPort (s : Sys) (i n : Nat) : Sys :=
  let reply := (s.port i).ready
  let s' := s.shift n (s.psbByte i :: reply.getD [])
  match reply with
  | some p => if p.length < n then s'.modPort i (fun p => { p with ready := none }) else s'
  | none => s'

/-- A framing error counted (R107, R111). -/
def Sys.framing (s : Sys) (i : Nat) : Sys :=
  (s.shift 1 [s.psbByte i]).modPort i (fun p => { p with framing := satU 8 (p.framing + 1) })

/-- A transaction of `n` bytes on SP: while the device is in DEEP, or past the commit point of an entry to it, MISO is held
low (R89). -/
def Sys.onSp (s : Sys) (n : Nat) (f : Sys → Sys) : Sys :=
  if s.spListens then f s
  else if s.hw.pwr.inPor then s
  else s.shift n []

/-- The host port selected QUAD (R111). -/
def Sys.quadOk (s : Sys) (quad : Bool) : Bool := !quad || ((s.port 1).session = 2 && bit (s.port 1).mask 16)

/-- SP_REQUEST: the bytes clocked in while SP_CS_N is low. -/
def execSpRequest (bytes : List Byte) (s : State) : Host.Outcome State Fault Refusal :=
  s.onSys fun d => d.onSp bytes.length fun d => (d.shift bytes.length [d.psbByte 0]).packet .sp bytes

/-- SP_READ of so many bytes, the PSB included. -/
def execSpRead (clocked : Nat) (s : State) : Host.Outcome State Fault Refusal :=
  s.onSys fun d => d.onSp clocked fun d => d.readPort 0 clocked

/-- SP_PSB_READ. -/
def execSpPsbRead (s : State) : Host.Outcome State Fault Refusal :=
  s.onSys fun d => d.onSp 1 fun d => d.shift 1 [d.psbByte 0]

/-- SP_FRAMING_ERROR. -/
def execSpFramingError (s : State) : Host.Outcome State Fault Refusal := s.onSys fun d => d.onSp 1 fun d => d.framing 0

/-- HP_REQUEST, in single or quad width. -/
def execHpRequest (quad : Bool) (bytes : List Byte) (s : State) : Host.Outcome State Fault Refusal :=
  s.onSys fun d => if !d.hpListens then d else if d.quadOk quad then d.packet .hp bytes else d.framing 1

/-- HP_READ of so many bytes, the PSB included. -/
def execHpRead (quad : Bool) (clocked : Nat) (s : State) : Host.Outcome State Fault Refusal :=
  s.onSys fun d => if !d.hpListens then d else if d.quadOk quad then d.readPort 1 clocked else d.framing 1

/-- HP_PSB_READ. -/
def execHpPsbRead (s : State) : Host.Outcome State Fault Refusal :=
  s.onSys fun d => if d.hpListens then d.shift 1 [d.psbByte 1] else d

/-- HP_FRAMING_ERROR. -/
def execHpFramingError (s : State) : Host.Outcome State Fault Refusal := s.onSys fun d => if d.hpListens then d.framing 1 else d

/-- DP_DR_SCAN: the PSB and the reply that is ready go out, then the request that came in is taken (R114). -/
def execDpDrScan (bytes : List Byte) (clocked : Nat) (s : State) : Host.Outcome State Fault Refusal :=
  s.onSys fun d => if d.dpListens then (d.readPort 3 clocked).packet .dp bytes else d

/-! ## The mailbox (R112, R151) -/

/-- The engine copies the request buffer and takes the request. -/
def Sys.mbxTake (s : Sys) : Sys :=
  let words := (List.range 1027).flatMap (fun k => leBytes 4 (s.hw.rd F.MBX_REQUEST k))
  s.packet .mb words

/-- MBX_SEND: a master writes SEND = 1; `copied`: in the cycle in which the engine has copied the buffer (R46). -/
def execMbxSend (master : Fin 12) (copied : Bool) (s : State) : Host.Outcome State Fault Refusal :=
  s.onSys fun d =>
    let due := copied && d.hw.rdB F.MBX_CTRL_SEND && d.mbListens
    let t := d.mapHw fun h =>
      h.regWrite master 0x04140040 1#32 { Cyc.quiet with done := if due then 1#32 else 0#32 }
    if !d.hw.reaches master then d else if due then t.mbxTake else t

/-- MBX_REQUEST_COPIED. -/
def execMbxRequestCopied (s : State) : Host.Outcome State Fault Refusal :=
  s.onSys fun d =>
    if d.hw.rdB F.MBX_CTRL_SEND && d.mbListens then (d.mapHw fun h => h.wr F.MBX_CTRL_SEND 0).mbxTake else d

/-- MBX_REQUEST_WRITE: a word of the request buffer. -/
def execMbxRequestWrite (master : Fin 12) (word : Fin 1027) (value : Word) (s : State) : Host.Outcome State Fault Refusal :=
  s.onSys fun d => d.mapHw fun h => if h.reaches master then h.regWrite master (0x04141000 + 4 * word.val) value Cyc.quiet else h

/-- MBX_RFREE: a master writes RFREE = 1. -/
def execMbxRfree (master : Fin 12) (s : State) : Host.Outcome State Fault Refusal :=
  s.onSys fun d => d.mapHw fun h => if h.reaches master then h.regWrite master 0x04140040 2#32 Cyc.quiet else h

/-- MBX_REPLY_PLACED. -/
def execMbxReplyPlaced (s : State) : Host.Outcome State Fault Refusal :=
  s.onSys fun d =>
    match (d.port 2).ready with
    | some p =>
      if d.hw.rdB F.MBX_STAT_RFULL || d.hw.pstate ≠ 2 then d
      else
        (d.modPort 2 (fun q => { q with ready := none })).mapHw fun h =>
          let h := foldUp (fun (h : Hw) k => h.wr F.MBX_REPLY (fieldAt p (4 * k) 4) k) 0 ((p.length + 3) / 4) h
          ((h.wr F.MBX_STAT_RLEN p.length).wr F.MBX_STAT_RFULL 1).raiseBit bMBX 0
    | none => d

/-! ## The link (R113, R130; 17 R591 to R605) -/

/-- An LK slot is freed: its session closes, and a command that has begun from it loses its reply (R113, R144). -/
def Sys.freeSlot (s : Sys) (i : Nat) : Sys :=
  (s.closeSession i).modPort i (fun p => { p with node := none, ready := none, discard := p.exec.isSome })

/-- LK_SLOT_TIMEOUT. -/
def execLkSlotTimeout (slot : Fin 4) (s : State) : Host.Outcome State Fault Refusal := s.onSys fun d => d.freeSlot (4 + slot.val)

/-- The bytes of a fragmented command so far, with a fragment taken in its turn; none where it is out of turn. -/
def gather (l : List (Nat × Nat × List Byte)) (k : LPkt) : Option (List Byte) :=
  if k.frag = 0 then some k.payload
  else (l.find? (fun e => e.1 = k.src && e.2.1 = k.tag && e.2.2.length = 1016 * k.frag)).map (fun e => e.2.2 ++ k.payload)

/-- The fragments held, with those of a packet's source and TAG replaced. -/
def regather (l : List (Nat × Nat × List Byte)) (k : LPkt) (bs : Option (List Byte)) : List (Nat × Nat × List Byte) :=
  l.filter (fun e => !(e.1 = k.src && e.2.1 = k.tag)) ++ (bs.map (fun b => (k.src, k.tag, b))).toList

/-- The packets that answered a request of the last 2 ms, oldest first (17 R595). -/
def Hw.answersTo (s : Hw) (src tag kind : Nat) : List LPkt :=
  ((s.brg.answered.filter (fun a => a.src = src && a.tag = tag && a.kind = kind && s.sysTime ≤ a.time + 200000)).map (·.resp)).reverse

/-- A fragment of a command request for this node. -/
def Sys.cmdReq (s : Sys) (k : LPkt) : Sys :=
  let old := s.hw.answersTo k.src k.tag 1
  if !old.isEmpty then (if k.last then s.mapHw fun h => old.foldl (fun (h : Hw) p => h.linkSend p) h else s)
  else
    let bs := gather s.eng.reqFrag k
    let s := s.modEng fun e => { e with reqFrag := regather e.reqFrag k (if k.last then none else bs) }
    match k.last, bs with
    | true, some b => s.packet (.lk (Fin.ofNat 128 k.src) (Fin.ofNat 256 k.tag)) b
    | _, _ => s

/-- CMDREQ_PACKET. -/
def execCmdreqPacket (port : Fin 2) (packet : LPkt) (s : State) : Host.Outcome State Fault Refusal :=
  s.onSys fun d =>
    let r := d.hw.packetIn port packet
    let d := { d with hw := r.1 }
    if r.2 && packet.kind = 1 then d.cmdReq packet else d

/-- A fragment of a command reply: of the forwarded command that runs, or of none. -/
def Sys.cmdRep (s : Sys) (k : LPkt) : Sys :=
  match s.eng.job with
  | some j =>
    if j.op ≠ 0x74 || j.result.isSome || byteAt j.par 0 ≠ k.src || byteAt j.par 1 ≠ k.tag then s
    else
      let bs := gather s.eng.repFrag k
      let s := s.modEng fun e => { e with repFrag := regather e.repFrag k (if k.last then none else bs) }
      match k.last, bs with
      | true, some b =>
        (s.mapHw fun h => h.linkDone [1] k.src k.tag).jobResult
          (if b.length ≤ min 4096 (s.port j.port).rxmax then okWith b else badParam 0xFFFF)
      | _, _ => s
  | none => s

/-- CMDREP_PACKET. -/
def execCmdrepPacket (port : Fin 2) (packet : LPkt) (s : State) : Host.Outcome State Fault Refusal :=
  s.onSys fun d =>
    let r := d.hw.packetIn port packet
    let d := { d with hw := r.1 }
    if r.2 && packet.kind = 2 then d.cmdRep packet else d

/-- LINK_FORWARD_TIMEOUT. -/
def execLinkForwardTimeout (s : State) : Host.Outcome State Fault Refusal :=
  s.onSys fun d =>
    match d.eng.job with
    | some j =>
      if j.op = 0x74 && j.result.isNone then
        (d.mapHw fun h => h.linkDone [1] (byteAt j.par 0) (byteAt j.par 1)).jobEnd (refuseWith 11)
      else d
    | none => d

/-- LINK_ENUM_TIMEOUT: no enumeration has completed since LINK_ENUM began. -/
def execLinkEnumTimeout (s : State) : Host.Outcome State Fault Refusal :=
  s.onSys fun d =>
    match d.eng.job with
    | some j => if j.op = 0x70 && leBytes 8 d.hw.brg.enumCount = j.par then d.jobEnd (refuseWith 11) else d
    | none => d

/-- LINK_PRBS_DONE: the duration is over. `ended`: 0 the checker never locked, 1 it is locked, 2 the partner refused FAR, so
that no bits were compared; with GEN nothing is checked. -/
def execLinkPrbsDone (compared : BitVec 64) (errors : Word) (losses : BitVec 16) (ended : Fin 3) (s : State) :
    Host.Outcome State Fault Refusal :=
  s.onSys fun d =>
    match d.eng.job with
    | some j =>
      if j.op ≠ 0x73 then d
      else
        let p := byteAt j.par 0
        let mode := byteAt j.par 1 / 16
        let none_ := mode = 3 || (ended.val = 2 && mode = 2)
        let code := if mode = 3 || (ended.val = 2 && mode ≠ 2) then 0 else ended.val
        let n := fun (v : Nat) => if none_ then 0 else v
        let d := d.mapHw fun h =>
          let h := (h.modPort p (fun b => { b with prbs := none })).raiseBit bBRG 13
          if h.portOn p then ((h.wr F.BRG_P_PRBS_ERRS (n errors.toNat) p).wr F.BRG_P_STAT_STATE 0 p).portEnable p else h
        d.jobEnd (okWith (leBytes 8 (n compared.toNat) ++ leBytes 4 (n errors.toNat) ++ leBytes 2 (n losses.toNat)
          ++ leBytes 1 code ++ leBytes 1 (byteAt j.par 1)))
    | none => d

/-- An UP port leads to a node (17 R592, R602). -/
def Hw.leadsTo (s : Hw) (n : Nat) : Bool :=
  n = s.nodeId || (if s.rd F.BRG_STAT_TOPO = 1 then s.portUp (if s.nodeId < n then 0 else 1) else s.portUp 0 || s.portUp 1)

/-- A node becomes unreachable (17 R602). -/
def Sys.nodeLost (s : Sys) (n : Nat) : Sys :=
  let s := s.mapHw fun h =>
    let k := n / 32
    let h := h.wr F.BRG_REACH_BITS (ofBits ((bitsOf 32 (h.rd F.BRG_REACH_BITS k)).filter (· ≠ n % 32))) k
    let h := (h.brg.wins.filter (fun w => w.pkt.dst = n)).foldl (fun (h : Hw) w => h.windowFail w 6 0) h
    (h.copLinkLost n).notice 10 n 0
  [4, 5, 6, 7].foldl (fun (s : Sys) i => if (s.port i).node = some n then s.freeSlot i else s) s

/-- PATH_LOST: every node that only ports which have left UP led to. -/
def execPathLost (s : State) : Host.Outcome State Fault Refusal :=
  s.onSys fun d =>
    let h := d.hw
    let lost := (List.range 128).filter (fun n => bit (h.rd F.BRG_REACH_BITS (n / 32)) (n % 32) && !h.leadsTo n)
    if !h.on 21 || lost.isEmpty then d
    else lost.foldl (fun (d : Sys) n => d.nodeLost n) (d.mapHw fun h => h.raiseBit bBRG 5)

/-! ## Ends of commands (R134, R135) -/

/-- CLASS_N_BEGIN. -/
def execClassNBegin (s : State) : Host.Outcome State Fault Refusal := s.onSys Sys.nNext

/-- JOB_COMPLETE. -/
def execJobComplete (s : State) : Host.Outcome State Fault Refusal := s.onSys Sys.jobComplete

/-! ## Background work and telemetry (R150, 06 R219) -/

/-- TELEMETRY_SAMPLE: a period has elapsed. -/
def execTelemetrySample (s : State) : Host.Outcome State Fault Refusal :=
  s.onSys fun d => if d.spListens && d.eng.telPeriod ≠ 0 then d.mapHw Hw.sampleAll else d

/-- What the overdue slot of a task does. -/
def Sys.forced (s : Sys) (t : BgSlot) : Sys :=
  match t with
  | .patrol b e => s.mapHw fun h => h.patrol b e
  | .writeback p e => s.mapHw fun h => h.writeBack p e
  | .refresh b => s.mapHw fun h =>
      if h.bankSleep b = 2 then h.modLdg (fun l => { l with refreshes := l.refreshes.modify b (· + 1) }) else h
  | .wearMove => (s.modEng fun e => { e with wearDue := e.wear.isSome }).storeNext
  | .phy => s.mapHw fun h =>
      if h.on 32 && h.timState = 2 then h.modLdg (fun l => { l with phySteps := l.phySteps + 1 }) else h
  | .telemetry => if s.eng.telPeriod = 0 then s else s.mapHw Hw.sampleAll

/-- BACKGROUND_FORCED_SLOT. -/
def execBackgroundForcedSlot (slot : BgSlot) (s : State) : Host.Outcome State Fault Refusal :=
  s.onSys fun d => (d.mapHw Hw.forcedSlot).forced slot

end Sys2Proof.Machine
end

