-- ==== Sys2Proof/Machine/MatrixRows.lean ====
section
/-! DEFINITION. The commands of the bus matrix (05 R162 to R187) and of the remote windows (17 R596 to R600). -/

namespace Sys2Proof.Machine

open Sys2Proof

/-- MATRIX_REQUEST: a master presents an access; one that ends with a decode error is answered at once. M11 presents none
while vendor debug access is closed (01 R21). -/
def execMatrixRequest (req : MReq) (s : State) : Host.Outcome State Fault Refusal :=
  s.onHw fun h =>
    if !h.on 21 || h.silent req.master then h
    else
      let p := h.request req
      match p.2 with
      | .error k => p.1.respond req none k
      | _ => p.1

/-- MATRIX_RESPONSE: the target of the request at a place of the outstanding ones performs it; `ecc`: what its granule
shows. -/
def execMatrixResponse (place : Nat) (ecc : Ecc) (s : State) : Host.Outcome State Fault Refusal :=
  s.onHw fun h => h.serve place ecc

/-- HELD_REQUEST_PRESENTED. -/
def execHeldRequestPresented (place : Nat) (s : State) : Host.Outcome State Fault Refusal :=
  s.onHw fun h => h.presentHeld place

/-- REQUEST_AGE_PROMOTION: the request at a place of the outstanding ones has waited 1,024 cycles. -/
def execRequestAgePromotion (place : Nat) (s : State) : Host.Outcome State Fault Refusal :=
  s.onHw fun h => h.promote place

/-- STALL_RELEASE. -/
def execStallRelease (place : Nat) (s : State) : Host.Outcome State Fault Refusal := s.onHw fun h => h.stallRelease place

/-- STALL_TIMEOUT. -/
def execStallTimeout (place : Nat) (s : State) : Host.Outcome State Fault Refusal := s.onHw fun h => h.stallTimeout place

/-- PATH_HOLD_TIMEOUT: of the burst at a place of the outstanding requests, of which the target has accepted `beats`
beats, or of the open lock. -/
def execPathHoldTimeout (burst : Option Nat) (beats : Nat) (s : State) : Host.Outcome State Fault Refusal :=
  s.onHw fun h => h.pathHold burst beats

/-- BANK_RETIREMENT: a bank's UE count has reached UETHR; a threshold of 0 retires none. -/
def execBankRetirement (bank : Fin 16) (s : State) : Host.Outcome State Fault Refusal :=
  s.onHw fun h =>
    let thr := h.rd F.MTX_ECCCFG_UETHR
    if thr = 0 || h.rd F.MTX_ECCCNT_UE bank < thr then h else h.retire bank 0xFF

/-- WRD_PACKET. -/
def execWrdPacket (port : Fin 2) (packet : LPkt) (s : State) : Host.Outcome State Fault Refusal :=
  s.onHw fun h =>
    let r := h.packetIn port packet
    if r.2 && packet.kind = 3 then r.1.windowServe packet else r.1

/-- WWR_PACKET. -/
def execWwrPacket (port : Fin 2) (packet : LPkt) (s : State) : Host.Outcome State Fault Refusal :=
  s.onHw fun h =>
    let r := h.packetIn port packet
    if r.2 && packet.kind = 4 then r.1.windowServe packet else r.1

/-- WRSP_PACKET. -/
def execWrspPacket (port : Fin 2) (packet : LPkt) (s : State) : Host.Outcome State Fault Refusal :=
  s.onHw fun h =>
    let r := h.packetIn port packet
    if r.2 && packet.kind = 5 then r.1.windowResponse packet else r.1

/-- WINDOW_BUSY_RETRY: of the access to `node` with `tag`. -/
def execWindowBusyRetry (node : Fin 128) (tag : Fin 256) (s : State) : Host.Outcome State Fault Refusal :=
  s.onHw fun h => h.busyRetry node tag

/-- WINDOW_TIMEOUT: of the access to `node` with `tag`. -/
def execWindowTimeout (node : Fin 128) (tag : Fin 256) (s : State) : Host.Outcome State Fault Refusal :=
  s.onHw fun h => h.windowTimeout node tag

end Sys2Proof.Machine
end

