-- ==== Sys2Proof/Machine/Opcodes.lean ====
section
/-! DEFINITION. The rows of the opcode table (04 R129): a request packet that arrived whole and with a good CRC, one
meaning for each opcode. -/

namespace Sys2Proof.Machine

open Sys2Proof

/-- HELLO (OPCODE 0x01; 04 R113, R124, R126). -/
def execHello (req : EngReq) (s : State) : Host.Outcome State Fault Refusal := s.onSys fun d => d.command 0x01 req

/-- SELECT (OPCODE 0x02; 04 R125). -/
def execSelect (req : EngReq) (s : State) : Host.Outcome State Fault Refusal := s.onSys fun d => d.command 0x02 req

/-- STATUS (OPCODE 0x03; 04 R147). -/
def execStatus (req : EngReq) (s : State) : Host.Outcome State Fault Refusal := s.onSys fun d => d.command 0x03 req

/-- RESET_SOFT (OPCODE 0x04; 03 R91, R93). -/
def execResetSoft (req : EngReq) (s : State) : Host.Outcome State Fault Refusal := s.onSys fun d => d.command 0x04 req

/-- POWER_STATE (OPCODE 0x10; 03 R71 to R76). -/
def execPowerState (req : EngReq) (s : State) : Host.Outcome State Fault Refusal := s.onSys fun d => d.command 0x10 req

/-- DOMAIN_SET (OPCODE 0x11; 03 R62, R65, R66, R67). -/
def execDomainSet (req : EngReq) (s : State) : Host.Outcome State Fault Refusal := s.onSys fun d => d.command 0x11 req

/-- RETAIN_SET (OPCODE 0x12; 03 R72). -/
def execRetainSet (req : EngReq) (s : State) : Host.Outcome State Fault Refusal := s.onSys fun d => d.command 0x12 req

/-- WAKE_CONFIG (OPCODE 0x13; 03 R85). -/
def execWakeConfig (req : EngReq) (s : State) : Host.Outcome State Fault Refusal := s.onSys fun d => d.command 0x13 req

/-- DOMAIN_GET (OPCODE 0x14; 04 R129). -/
def execDomainGet (req : EngReq) (s : State) : Host.Outcome State Fault Refusal := s.onSys fun d => d.command 0x14 req

/-- RUNSET_WRITE (OPCODE 0x15; 03 R88). -/
def execRunsetWrite (req : EngReq) (s : State) : Host.Outcome State Fault Refusal := s.onSys fun d => d.command 0x15 req

/-- START_POLICY (OPCODE 0x16; 03 R95). -/
def execStartPolicy (req : EngReq) (s : State) : Host.Outcome State Fault Refusal := s.onSys fun d => d.command 0x16 req

/-- IMAGE_BEGIN (OPCODE 0x20; 19 R670). -/
def execImageBegin (req : EngReq) (s : State) : Host.Outcome State Fault Refusal := s.onSys fun d => d.command 0x20 req

/-- IMAGE_DATA (OPCODE 0x21; 19 R670). -/
def execImageData (req : EngReq) (s : State) : Host.Outcome State Fault Refusal := s.onSys fun d => d.command 0x21 req

/-- IMAGE_END (OPCODE 0x22; 19 R666, R670). -/
def execImageEnd (req : EngReq) (s : State) : Host.Outcome State Fault Refusal := s.onSys fun d => d.command 0x22 req

/-- IMAGE_BOOT_FLASH (OPCODE 0x23; 03 R95). -/
def execImageBootFlash (req : EngReq) (s : State) : Host.Outcome State Fault Refusal := s.onSys fun d => d.command 0x23 req

/-- APP_START (OPCODE 0x24; 07 R271). -/
def execAppStart (req : EngReq) (s : State) : Host.Outcome State Fault Refusal := s.onSys fun d => d.command 0x24 req

/-- APP_STOP (OPCODE 0x25; 07 R226, R272). -/
def execAppStop (req : EngReq) (s : State) : Host.Outcome State Fault Refusal := s.onSys fun d => d.command 0x25 req

/-- IMAGE_INFO (OPCODE 0x26; 19 R670). -/
def execImageInfo (req : EngReq) (s : State) : Host.Outcome State Fault Refusal := s.onSys fun d => d.command 0x26 req

/-- PEN_CELL_SET (OPCODE 0x30; R414). -/
def execPenCellSet (req : EngReq) (s : State) : Host.Outcome State Fault Refusal := s.onSys fun d => d.command 0x30 req

/-- PEN_CELL_ENABLE (OPCODE 0x31; R420). -/
def execPenCellEnable (req : EngReq) (s : State) : Host.Outcome State Fault Refusal := s.onSys fun d => d.command 0x31 req

/-- PEN_STORE_WRITE (OPCODE 0x32; R423). -/
def execPenStoreWrite (req : EngReq) (s : State) : Host.Outcome State Fault Refusal := s.onSys fun d => d.command 0x32 req

/-- PEN_PALETTE_WRITE (OPCODE 0x33; R409). -/
def execPenPaletteWrite (req : EngReq) (s : State) : Host.Outcome State Fault Refusal := s.onSys fun d => d.command 0x33 req

/-- PEN_MODE (OPCODE 0x34; R435). -/
def execPenMode (req : EngReq) (s : State) : Host.Outcome State Fault Refusal := s.onSys fun d => d.command 0x34 req

/-- PEN_ALARM_CLEAR (OPCODE 0x35; R434). -/
def execPenAlarmClear (req : EngReq) (s : State) : Host.Outcome State Fault Refusal := s.onSys fun d => d.command 0x35 req

/-- PEN_GAP_SET (OPCODE 0x36; R420). -/
def execPenGapSet (req : EngReq) (s : State) : Host.Outcome State Fault Refusal := s.onSys fun d => d.command 0x36 req

/-- SIGTAB_WRITE (OPCODE 0x37; R416). -/
def execSigtabWrite (req : EngReq) (s : State) : Host.Outcome State Fault Refusal := s.onSys fun d => d.command 0x37 req

/-- AVAS_CONFIG (OPCODE 0x38; R501). -/
def execAvasConfig (req : EngReq) (s : State) : Host.Outcome State Fault Refusal := s.onSys fun d => d.command 0x38 req

/-- PEN_STATUS (OPCODE 0x39; R436). -/
def execPenStatus (req : EngReq) (s : State) : Host.Outcome State Fault Refusal := s.onSys fun d => d.command 0x39 req

/-- GPIO_OWN_SET (OPCODE 0x40; R611). -/
def execGpioOwnSet (req : EngReq) (s : State) : Host.Outcome State Fault Refusal := s.onSys fun d => d.command 0x40 req

/-- GPIO_OWN_GET (OPCODE 0x41; R129). -/
def execGpioOwnGet (req : EngReq) (s : State) : Host.Outcome State Fault Refusal := s.onSys fun d => d.command 0x41 req

/-- GPIO_WRITE (OPCODE 0x42; R612). -/
def execGpioWrite (req : EngReq) (s : State) : Host.Outcome State Fault Refusal := s.onSys fun d => d.command 0x42 req

/-- GPIO_READ (OPCODE 0x43; R617). -/
def execGpioRead (req : EngReq) (s : State) : Host.Outcome State Fault Refusal := s.onSys fun d => d.command 0x43 req

/-- LEDGER_CAP_SET (OPCODE 0x50; R190). -/
def execLedgerCapSet (req : EngReq) (s : State) : Host.Outcome State Fault Refusal := s.onSys fun d => d.command 0x50 req

/-- LEDGER_QUERY (OPCODE 0x51; R205). -/
def execLedgerQuery (req : EngReq) (s : State) : Host.Outcome State Fault Refusal := s.onSys fun d => d.command 0x51 req

/-- LEDGER_SHED_ORDER (OPCODE 0x52; R211). -/
def execLedgerShedOrder (req : EngReq) (s : State) : Host.Outcome State Fault Refusal := s.onSys fun d => d.command 0x52 req

/-- LEDGER_COMMIT (OPCODE 0x53; R200). -/
def execLedgerCommit (req : EngReq) (s : State) : Host.Outcome State Fault Refusal := s.onSys fun d => d.command 0x53 req

/-- NVM_READ (OPCODE 0x60; R649). -/
def execNvmRead (req : EngReq) (s : State) : Host.Outcome State Fault Refusal := s.onSys fun d => d.command 0x60 req

/-- NVM_WRITE (OPCODE 0x61; R650). -/
def execNvmWrite (req : EngReq) (s : State) : Host.Outcome State Fault Refusal := s.onSys fun d => d.command 0x61 req

/-- NVM_WEAR (OPCODE 0x62; R655). -/
def execNvmWear (req : EngReq) (s : State) : Host.Outcome State Fault Refusal := s.onSys fun d => d.command 0x62 req

/-- CAL_WRITE (OPCODE 0x63; R658). -/
def execCalWrite (req : EngReq) (s : State) : Host.Outcome State Fault Refusal := s.onSys fun d => d.command 0x63 req

/-- RESTORE_FACTORY (OPCODE 0x64; R659). -/
def execRestoreFactory (req : EngReq) (s : State) : Host.Outcome State Fault Refusal := s.onSys fun d => d.command 0x64 req

/-- FACTORY_LOCK (OPCODE 0x65; R660). -/
def execFactoryLock (req : EngReq) (s : State) : Host.Outcome State Fault Refusal := s.onSys fun d => d.command 0x65 req

/-- SECRET_STORE (OPCODE 0x66; R673). -/
def execSecretStore (req : EngReq) (s : State) : Host.Outcome State Fault Refusal := s.onSys fun d => d.command 0x66 req

/-- LINK_ENUM (OPCODE 0x70; R577). -/
def execLinkEnum (req : EngReq) (s : State) : Host.Outcome State Fault Refusal := s.onSys fun d => d.command 0x70 req

/-- LINK_STATUS (OPCODE 0x71; R129). -/
def execLinkStatus (req : EngReq) (s : State) : Host.Outcome State Fault Refusal := s.onSys fun d => d.command 0x71 req

/-- LINK_POLICY (OPCODE 0x72; R593). -/
def execLinkPolicy (req : EngReq) (s : State) : Host.Outcome State Fault Refusal := s.onSys fun d => d.command 0x72 req

/-- LINK_PRBS (OPCODE 0x73; R604). -/
def execLinkPrbs (req : EngReq) (s : State) : Host.Outcome State Fault Refusal := s.onSys fun d => d.command 0x73 req

/-- LINK_FORWARD (OPCODE 0x74; R130). -/
def execLinkForward (req : EngReq) (s : State) : Host.Outcome State Fault Refusal := s.onSys fun d => d.command 0x74 req

/-- MATRIX_RELEASE (OPCODE 0x80; R187). -/
def execMatrixRelease (req : EngReq) (s : State) : Host.Outcome State Fault Refusal := s.onSys fun d => d.command 0x80 req

/-- RESET_SYSTEM (OPCODE 0x81; R146). -/
def execResetSystem (req : EngReq) (s : State) : Host.Outcome State Fault Refusal := s.onSys fun d => d.command 0x81 req

/-- BANK_RETIRE (OPCODE 0x82; R162). -/
def execBankRetire (req : EngReq) (s : State) : Host.Outcome State Fault Refusal := s.onSys fun d => d.command 0x82 req

/-- EFT_RESTART (OPCODE 0x83; R271). -/
def execEftRestart (req : EngReq) (s : State) : Host.Outcome State Fault Refusal := s.onSys fun d => d.command 0x83 req

/-- RECOVERY_LOG (OPCODE 0x84; R148). -/
def execRecoveryLog (req : EngReq) (s : State) : Host.Outcome State Fault Refusal := s.onSys fun d => d.command 0x84 req

/-- DEBUG_OPEN (OPCODE 0x90; R675). -/
def execDebugOpen (req : EngReq) (s : State) : Host.Outcome State Fault Refusal := s.onSys fun d => d.command 0x90 req

/-- DEBUG_STATUS (OPCODE 0x91; R129). -/
def execDebugStatus (req : EngReq) (s : State) : Host.Outcome State Fault Refusal := s.onSys fun d => d.command 0x91 req

/-- LIFECYCLE_SET (OPCODE 0x92; R663). -/
def execLifecycleSet (req : EngReq) (s : State) : Host.Outcome State Fault Refusal := s.onSys fun d => d.command 0x92 req

/-- KEYHASH_PROGRAM (OPCODE 0x93; R664). -/
def execKeyhashProgram (req : EngReq) (s : State) : Host.Outcome State Fault Refusal := s.onSys fun d => d.command 0x93 req

/-- KEYHASH_REVOKE (OPCODE 0x94; R664). -/
def execKeyhashRevoke (req : EngReq) (s : State) : Host.Outcome State Fault Refusal := s.onSys fun d => d.command 0x94 req

/-- TELEM_READ (OPCODE 0xA0; R150). -/
def execTelemRead (req : EngReq) (s : State) : Host.Outcome State Fault Refusal := s.onSys fun d => d.command 0xA0 req

/-- TELEM_CONFIG (OPCODE 0xA1; R150). -/
def execTelemConfig (req : EngReq) (s : State) : Host.Outcome State Fault Refusal := s.onSys fun d => d.command 0xA1 req

/-- EVENT_LOG (OPCODE 0xA2; R149). -/
def execEventLog (req : EngReq) (s : State) : Host.Outcome State Fault Refusal := s.onSys fun d => d.command 0xA2 req

end Sys2Proof.Machine
end

