-- ==== Sys2Proof/Machine/Tick.lean ====
section
/-! DEFINITION. A register clock cycle in which no command comes (log 2): what counts and follows by itself, whatever is
commanded. -/

namespace Sys2Proof.Machine

open Sys2Proof

/-- The all-wait detector's count of consecutive cycles, 0 to 256 (07 R253); the condition's end ends an episode (07 R254). -/
def Hw.allWaitCount (s : Hw) : Hw :=
  if !s.on 2 then s
  else if s.allWait then s.wr F.EFT_AWSTAT_LEN (min 256 (s.rd F.EFT_AWSTAT_LEN + 1))
  else if s.awArmed || s.rd F.EFT_AWSTAT_LEN ≠ 0 then { s.wr F.EFT_AWSTAT_LEN 0 with awArmed := false }
  else s

/-- System time goes on by one tick of 10 ns in every fourth register clock cycle of 2.5 ns, and Varan's GPIO streams sample
by it (17 R581, 16 R533). -/
def Hw.timeCount (s : Hw) : Hw := if s.on 21 && s.cycle % 4 = 0 then s.timeTick.varGpioSample else s

/-- The levels of the UARTs set their events in every cycle (18 R644). -/
def Hw.uartCycle (s : Hw) : Hw := s.raise bGPI s.uartHeld

/-- An idle cycle. -/
def Hw.tick (s : Hw) : Hw := (({ s with cycle := s.cycle + 1 } : Hw).allWaitCount.timeCount).uartCycle.varGpio

/-- The step on an empty queue. -/
def State.idle (s : State) : Host.Outcome State Fault Refusal := s.onHw Hw.tick

end Sys2Proof.Machine
end

