-- ==== Sys2Proof/Machine/Dispatch.lean ====
section
/-! DEFINITION. The meaning of each command: one arm per constructor, each a direct call. -/

namespace Sys2Proof.Machine

open Sys2Proof

/-- The effect of a command on everything but the queue. -/
def exec (i : Instr) (s : State) : Host.Outcome State Fault Refusal :=
  match i with
  | .hello req => Sys2Proof.Machine.execHello req s
  | .select req => Sys2Proof.Machine.execSelect req s
  | .status req => Sys2Proof.Machine.execStatus req s
  | .resetSoft req => Sys2Proof.Machine.execResetSoft req s
  | .powerState req => Sys2Proof.Machine.execPowerState req s
  | .domainSet req => Sys2Proof.Machine.execDomainSet req s
  | .retainSet req => Sys2Proof.Machine.execRetainSet req s
  | .wakeConfig req => Sys2Proof.Machine.execWakeConfig req s
  | .domainGet req => Sys2Proof.Machine.execDomainGet req s
  | .runsetWrite req => Sys2Proof.Machine.execRunsetWrite req s
  | .startPolicy req => Sys2Proof.Machine.execStartPolicy req s
  | .imageBegin req => Sys2Proof.Machine.execImageBegin req s
  | .imageData req => Sys2Proof.Machine.execImageData req s
  | .imageEnd req => Sys2Proof.Machine.execImageEnd req s
  | .imageBootFlash req => Sys2Proof.Machine.execImageBootFlash req s
  | .appStart req => Sys2Proof.Machine.execAppStart req s
  | .appStop req => Sys2Proof.Machine.execAppStop req s
  | .imageInfo req => Sys2Proof.Machine.execImageInfo req s
  | .penCellSet req => Sys2Proof.Machine.execPenCellSet req s
  | .penCellEnable req => Sys2Proof.Machine.execPenCellEnable req s
  | .penStoreWrite req => Sys2Proof.Machine.execPenStoreWrite req s
  | .penPaletteWrite req => Sys2Proof.Machine.execPenPaletteWrite req s
  | .penMode req => Sys2Proof.Machine.execPenMode req s
  | .penAlarmClear req => Sys2Proof.Machine.execPenAlarmClear req s
  | .penGapSet req => Sys2Proof.Machine.execPenGapSet req s
  | .sigtabWrite req => Sys2Proof.Machine.execSigtabWrite req s
  | .avasConfig req => Sys2Proof.Machine.execAvasConfig req s
  | .penStatus req => Sys2Proof.Machine.execPenStatus req s
  | .gpioOwnSet req => Sys2Proof.Machine.execGpioOwnSet req s
  | .gpioOwnGet req => Sys2Proof.Machine.execGpioOwnGet req s
  | .gpioWrite req => Sys2Proof.Machine.execGpioWrite req s
  | .gpioRead req => Sys2Proof.Machine.execGpioRead req s
  | .ledgerCapSet req => Sys2Proof.Machine.execLedgerCapSet req s
  | .ledgerQuery req => Sys2Proof.Machine.execLedgerQuery req s
  | .ledgerShedOrder req => Sys2Proof.Machine.execLedgerShedOrder req s
  | .ledgerCommit req => Sys2Proof.Machine.execLedgerCommit req s
  | .nvmRead req => Sys2Proof.Machine.execNvmRead req s
  | .nvmWrite req => Sys2Proof.Machine.execNvmWrite req s
  | .nvmWear req => Sys2Proof.Machine.execNvmWear req s
  | .calWrite req => Sys2Proof.Machine.execCalWrite req s
  | .restoreFactory req => Sys2Proof.Machine.execRestoreFactory req s
  | .factoryLock req => Sys2Proof.Machine.execFactoryLock req s
  | .secretStore req => Sys2Proof.Machine.execSecretStore req s
  | .linkEnum req => Sys2Proof.Machine.execLinkEnum req s
  | .linkStatus req => Sys2Proof.Machine.execLinkStatus req s
  | .linkPolicy req => Sys2Proof.Machine.execLinkPolicy req s
  | .linkPrbs req => Sys2Proof.Machine.execLinkPrbs req s
  | .linkForward req => Sys2Proof.Machine.execLinkForward req s
  | .matrixRelease req => Sys2Proof.Machine.execMatrixRelease req s
  | .resetSystem req => Sys2Proof.Machine.execResetSystem req s
  | .bankRetire req => Sys2Proof.Machine.execBankRetire req s
  | .eftRestart req => Sys2Proof.Machine.execEftRestart req s
  | .recoveryLog req => Sys2Proof.Machine.execRecoveryLog req s
  | .debugOpen req => Sys2Proof.Machine.execDebugOpen req s
  | .debugStatus req => Sys2Proof.Machine.execDebugStatus req s
  | .lifecycleSet req => Sys2Proof.Machine.execLifecycleSet req s
  | .keyhashProgram req => Sys2Proof.Machine.execKeyhashProgram req s
  | .keyhashRevoke req => Sys2Proof.Machine.execKeyhashRevoke req s
  | .telemRead req => Sys2Proof.Machine.execTelemRead req s
  | .telemConfig req => Sys2Proof.Machine.execTelemConfig req s
  | .eventLog req => Sys2Proof.Machine.execEventLog req s
  | .spRequest bytes => Sys2Proof.Machine.execSpRequest bytes s
  | .spRead clocked => Sys2Proof.Machine.execSpRead clocked s
  | .spPsbRead => Sys2Proof.Machine.execSpPsbRead s
  | .spFramingError => Sys2Proof.Machine.execSpFramingError s
  | .hpRequest quad bytes => Sys2Proof.Machine.execHpRequest quad bytes s
  | .hpRead quad clocked => Sys2Proof.Machine.execHpRead quad clocked s
  | .hpPsbRead => Sys2Proof.Machine.execHpPsbRead s
  | .hpFramingError => Sys2Proof.Machine.execHpFramingError s
  | .mbxSend master copied => Sys2Proof.Machine.execMbxSend master copied s
  | .mbxRequestCopied => Sys2Proof.Machine.execMbxRequestCopied s
  | .mbxRequestWrite master word value => Sys2Proof.Machine.execMbxRequestWrite master word value s
  | .mbxRfree master => Sys2Proof.Machine.execMbxRfree master s
  | .mbxReplyPlaced => Sys2Proof.Machine.execMbxReplyPlaced s
  | .lkSlotTimeout slot => Sys2Proof.Machine.execLkSlotTimeout slot s
  | .dpDrScan bytes clocked => Sys2Proof.Machine.execDpDrScan bytes clocked s
  | .classNBegin => Sys2Proof.Machine.execClassNBegin s
  | .jobComplete => Sys2Proof.Machine.execJobComplete s
  | .railDip => Sys2Proof.Machine.execRailDip s
  | .porRelease => Sys2Proof.Machine.execPorRelease s
  | .pinReset => Sys2Proof.Machine.execPinReset s
  | .tapReset => Sys2Proof.Machine.execTapReset s
  | .coldStart => Sys2Proof.Machine.execColdStart s
  | .imageVerifyDone flash => Sys2Proof.Machine.execImageVerifyDone flash s
  | .autorunStart => Sys2Proof.Machine.execAutorunStart s
  | .powerTransitionDone => Sys2Proof.Machine.execPowerTransitionDone s
  | .domainWaveDone => Sys2Proof.Machine.execDomainWaveDone s
  | .domainOffDone => Sys2Proof.Machine.execDomainOffDone s
  | .masterDrainTimeout => Sys2Proof.Machine.execMasterDrainTimeout s
  | .bankZeroFillDone bank => Sys2Proof.Machine.execBankZeroFillDone bank s
  | .spCsWake => Sys2Proof.Machine.execSpCsWake s
  | .wakeBall => Sys2Proof.Machine.execWakeBall s
  | .gpioWake pin => Sys2Proof.Machine.execGpioWake pin s
  | .linkActivityWake port => Sys2Proof.Machine.execLinkActivityWake port s
  | .tmrAlm0 count => Sys2Proof.Machine.execTmrAlm0 count s
  | .tmrAlm1 count => Sys2Proof.Machine.execTmrAlm1 count s
  | .wideUpperWrite value => Sys2Proof.Machine.execWideUpperWrite value s
  | .wideLowerRead which => Sys2Proof.Machine.execWideLowerRead which s
  | .lscSwitch => Sys2Proof.Machine.execLscSwitch s
  | .lscCrystalFail => Sys2Proof.Machine.execLscCrystalFail s
  | .xt24Ready => Sys2Proof.Machine.execXt24Ready s
  | .xt24Fail => Sys2Proof.Machine.execXt24Fail s
  | .pllSysLock => Sys2Proof.Machine.execPllSysLock s
  | .pllSysUnlock => Sys2Proof.Machine.execPllSysUnlock s
  | .pllPixLock micros => Sys2Proof.Machine.execPllPixLock micros s
  | .pllPixUnlock => Sys2Proof.Machine.execPllPixUnlock s
  | .pllAudLock => Sys2Proof.Machine.execPllAudLock s
  | .pllAudUnlock => Sys2Proof.Machine.execPllAudUnlock s
  | .pllLnkLock => Sys2Proof.Machine.execPllLnkLock s
  | .pllLnkUnlock => Sys2Proof.Machine.execPllLnkUnlock s
  | .evtWrite master block value set => Sys2Proof.Machine.execEvtWrite master block value set s
  | .evtenWrite master block value => Sys2Proof.Machine.execEvtenWrite master block value s
  | .commitArm master block xfers transfer => Sys2Proof.Machine.execCommitArm master block xfers transfer s
  | .commitDisarm master block xfers arm transfer => Sys2Proof.Machine.execCommitDisarm master block xfers arm transfer s
  | .registerWrite master addr value cycle => Sys2Proof.Machine.execRegisterWrite master addr value cycle s
  | .stoppedTransfer => Sys2Proof.Machine.execStoppedTransfer s
  | .matrixRequest req => Sys2Proof.Machine.execMatrixRequest req s
  | .matrixResponse place ecc => Sys2Proof.Machine.execMatrixResponse place ecc s
  | .heldRequestPresented place => Sys2Proof.Machine.execHeldRequestPresented place s
  | .requestAgePromotion place => Sys2Proof.Machine.execRequestAgePromotion place s
  | .stallRelease place => Sys2Proof.Machine.execStallRelease place s
  | .stallTimeout place => Sys2Proof.Machine.execStallTimeout place s
  | .pathHoldTimeout burst beats => Sys2Proof.Machine.execPathHoldTimeout burst beats s
  | .bankRetirement bank => Sys2Proof.Machine.execBankRetirement bank s
  | .creditGain consumer => Sys2Proof.Machine.execCreditGain consumer s
  | .scrubStormEnd port => Sys2Proof.Machine.execScrubStormEnd port s
  | .bankSleepEntry bank => Sys2Proof.Machine.execBankSleepEntry bank s
  | .bankWakeAhead bank => Sys2Proof.Machine.execBankWakeAhead bank s
  | .bankWakeDone bank => Sys2Proof.Machine.execBankWakeDone bank s
  | .retentionRefresh bank => Sys2Proof.Machine.execRetentionRefresh bank s
  | .patrolScrub bank ecc => Sys2Proof.Machine.execPatrolScrub bank ecc s
  | .eccWriteback port ecc => Sys2Proof.Machine.execEccWriteback port ecc s
  | .backgroundForcedSlot slot => Sys2Proof.Machine.execBackgroundForcedSlot slot s
  | .wearMove => Sys2Proof.Machine.execWearMove s
  | .phyCalibrationStep => Sys2Proof.Machine.execPhyCalibrationStep s
  | .telemetrySample => Sys2Proof.Machine.execTelemetrySample s
  | .nvmRowWriteDone ok => Sys2Proof.Machine.execNvmRowWriteDone ok s
  | .add e rd rs rt => Sys2Proof.Machine.execAdd e rd rs rt s
  | .addc e rd rs rt => Sys2Proof.Machine.execAddc e rd rs rt s
  | .sub e rd rs rt => Sys2Proof.Machine.execSub e rd rs rt s
  | .subb e rd rs rt => Sys2Proof.Machine.execSubb e rd rs rt s
  | .andCmd e rd rs rt => Sys2Proof.Machine.execAndCmd e rd rs rt s
  | .orCmd e rd rs rt => Sys2Proof.Machine.execOrCmd e rd rs rt s
  | .xorCmd e rd rs rt => Sys2Proof.Machine.execXorCmd e rd rs rt s
  | .shl e rd rs rt => Sys2Proof.Machine.execShl e rd rs rt s
  | .shr e rd rs rt => Sys2Proof.Machine.execShr e rd rs rt s
  | .sar e rd rs rt => Sys2Proof.Machine.execSar e rd rs rt s
  | .ror e rd rs rt => Sys2Proof.Machine.execRor e rd rs rt s
  | .cmp e rs rt => Sys2Proof.Machine.execCmp e rs rt s
  | .tst e rs rt => Sys2Proof.Machine.execTst e rs rt s
  | .mov e rd rs => Sys2Proof.Machine.execMov e rd rs s
  | .notCmd e rd rs => Sys2Proof.Machine.execNotCmd e rd rs s
  | .neg e rd rs => Sys2Proof.Machine.execNeg e rd rs s
  | .extB e rd rs => Sys2Proof.Machine.execExtB e rd rs s
  | .extH e rd rs => Sys2Proof.Machine.execExtH e rd rs s
  | .zxB e rd rs => Sys2Proof.Machine.execZxB e rd rs s
  | .zxH e rd rs => Sys2Proof.Machine.execZxH e rd rs s
  | .minCmd e rd rs rt => Sys2Proof.Machine.execMinCmd e rd rs rt s
  | .maxCmd e rd rs rt => Sys2Proof.Machine.execMaxCmd e rd rs rt s
  | .clz e rd rs => Sys2Proof.Machine.execClz e rd rs s
  | .addi e rd rs imm => Sys2Proof.Machine.execAddi e rd rs imm s
  | .andi e rd rs imm => Sys2Proof.Machine.execAndi e rd rs imm s
  | .ori e rd rs imm => Sys2Proof.Machine.execOri e rd rs imm s
  | .xori e rd rs imm => Sys2Proof.Machine.execXori e rd rs imm s
  | .cmpi e rs imm => Sys2Proof.Machine.execCmpi e rs imm s
  | .movi e rd imm => Sys2Proof.Machine.execMovi e rd imm s
  | .lui e rd imm => Sys2Proof.Machine.execLui e rd imm s
  | .shi e rd rs kind n high => Sys2Proof.Machine.execShi e rd rs kind n high s
  | .addiA e rd rs imm => Sys2Proof.Machine.execAddiA e rd rs imm s
  | .luiA e rd imm => Sys2Proof.Machine.execLuiA e rd imm s
  | .addA e rd rs rt => Sys2Proof.Machine.execAddA e rd rs rt s
  | .subA e rd rs rt => Sys2Proof.Machine.execSubA e rd rs rt s
  | .movA e rd rs => Sys2Proof.Machine.execMovA e rd rs s
  | .cmpA e rs rt => Sys2Proof.Machine.execCmpA e rs rt s
  | .mulH e n rs rt => Sys2Proof.Machine.execMulH e n rs rt s
  | .macH e n rs rt => Sys2Proof.Machine.execMacH e n rs rt s
  | .msuH e n rs rt => Sys2Proof.Machine.execMsuH e n rs rt s
  | .mulW e n rs rt => Sys2Proof.Machine.execMulW e n rs rt s
  | .macW e n rs rt => Sys2Proof.Machine.execMacW e n rs rt s
  | .msuW e n rs rt => Sys2Proof.Machine.execMsuW e n rs rt s
  | .clrAcc e n => Sys2Proof.Machine.execClrAcc e n s
  | .addAcc e n m => Sys2Proof.Machine.execAddAcc e n m s
  | .shaAcc e n k => Sys2Proof.Machine.execShaAcc e n k s
  | .movDa e rd rs => Sys2Proof.Machine.execMovDa e rd rs s
  | .movAd e rd rs => Sys2Proof.Machine.execMovAd e rd rs s
  | .rdAcc e rd n k => Sys2Proof.Machine.execRdAcc e rd n k s
  | .wrAcc e n rs k => Sys2Proof.Machine.execWrAcc e n rs k s
  | .ld e rv an size addr disp ecc => Sys2Proof.Machine.execLd e rv an size addr disp ecc s
  | .ldu e rv an size addr disp ecc => Sys2Proof.Machine.execLdu e rv an size addr disp ecc s
  | .st e rv an size addr disp ecc => Sys2Proof.Machine.execSt e rv an size addr disp ecc s
  | .ldA e rv an size addr disp ecc => Sys2Proof.Machine.execLdA e rv an size addr disp ecc s
  | .stA e rv an size addr disp ecc => Sys2Proof.Machine.execStA e rv an size addr disp ecc s
  | .ldl e rv an size addr disp ecc => Sys2Proof.Machine.execLdl e rv an size addr disp ecc s
  | .stul e rv an size addr disp ecc => Sys2Proof.Machine.execStul e rv an size addr disp ecc s
  | .bcc e annul cond disp => Sys2Proof.Machine.execBcc e annul cond disp s
  | .bsr e annul cond disp => Sys2Proof.Machine.execBsr e annul cond disp s
  | .dbnz e annul rd disp => Sys2Proof.Machine.execDbnz e annul rd disp s
  | .jmpA e link an => Sys2Proof.Machine.execJmpA e link an s
  | .jmpT e link an => Sys2Proof.Machine.execJmpT e link an s
  | .nop e => Sys2Proof.Machine.execNop e s
  | .sync e => Sys2Proof.Machine.execSync e s
  | .wait e rd rs => Sys2Proof.Machine.execWait e rd rs s
  | .poll e rd rs => Sys2Proof.Machine.execPoll e rd rs s
  | .signal e f => Sys2Proof.Machine.execSignal e f s
  | .signalD e rs => Sys2Proof.Machine.execSignalD e rs s
  | .trap e n => Sys2Proof.Machine.execTrap e n s
  | .brk e => Sys2Proof.Machine.execBrk e s
  | .rte e => Sys2Proof.Machine.execRte e s
  | .mfsr e rd => Sys2Proof.Machine.execMfsr e rd s
  | .mtsr e rs => Sys2Proof.Machine.execMtsr e rs s
  | .mfx e rd sel => Sys2Proof.Machine.execMfx e rd sel s
  | .mtx e rs sel => Sys2Proof.Machine.execMtx e rs sel s
  | .cacheCleanLine e ra => Sys2Proof.Machine.execCacheCleanLine e ra s
  | .cacheInvalidateLine e ra => Sys2Proof.Machine.execCacheInvalidateLine e ra s
  | .cacheCleanInvalidateLine e ra => Sys2Proof.Machine.execCacheCleanInvalidateLine e ra s
  | .cacheInvalidateIline e ra => Sys2Proof.Machine.execCacheInvalidateIline e ra s
  | .cacheCleanAll e => Sys2Proof.Machine.execCacheCleanAll e s
  | .cacheInvalidateIcache e => Sys2Proof.Machine.execCacheInvalidateIcache e s
  | .ei e => Sys2Proof.Machine.execEi e s
  | .di e => Sys2Proof.Machine.execDi e s
  | .cop e slot op rs rt => Sys2Proof.Machine.execCop e slot op rs rt s
  | .copr e rd slot => Sys2Proof.Machine.execCopr e rd slot s
  | .coprP e rd slot => Sys2Proof.Machine.execCoprP e rd slot s
  | .interruptEntry e => Sys2Proof.Machine.execInterruptEntry e s
  | .storeErrorDbus e => Sys2Proof.Machine.execStoreErrorDbus e s
  | .waitRelease => Sys2Proof.Machine.execWaitRelease s
  | .eftStallEnd e => Sys2Proof.Machine.execEftStallEnd e s
  | .allwaitFire => Sys2Proof.Machine.execAllwaitFire s
  | .eftFlagsetWrite master value => Sys2Proof.Machine.execEftFlagsetWrite master value s
  | .blockIrqRise block => Sys2Proof.Machine.execBlockIrqRise block s
  | .tmodeWord e word ecc => Sys2Proof.Machine.execTmodeWord e word ecc s
  | .tAdd e src other => Sys2Proof.Machine.execTAdd e src other s
  | .tAddc e src other => Sys2Proof.Machine.execTAddc e src other s
  | .tSub e src other => Sys2Proof.Machine.execTSub e src other s
  | .tSubb e src other => Sys2Proof.Machine.execTSubb e src other s
  | .tAnd e src other => Sys2Proof.Machine.execTAnd e src other s
  | .tOr e src other => Sys2Proof.Machine.execTOr e src other s
  | .tXor e src other => Sys2Proof.Machine.execTXor e src other s
  | .tMin e src other => Sys2Proof.Machine.execTMin e src other s
  | .tMax e src other => Sys2Proof.Machine.execTMax e src other s
  | .tCmp e src other => Sys2Proof.Machine.execTCmp e src other s
  | .tTst e src other => Sys2Proof.Machine.execTTst e src other s
  | .tShl e src other => Sys2Proof.Machine.execTShl e src other s
  | .tShr e src other => Sys2Proof.Machine.execTShr e src other s
  | .tSar e src other => Sys2Proof.Machine.execTSar e src other s
  | .tRor e src other => Sys2Proof.Machine.execTRor e src other s
  | .tMulH e n src other => Sys2Proof.Machine.execTMulH e n src other s
  | .tMacH e n src other => Sys2Proof.Machine.execTMacH e n src other s
  | .tMsuH e n src other => Sys2Proof.Machine.execTMsuH e n src other s
  | .tMulW e n src other => Sys2Proof.Machine.execTMulW e n src other s
  | .tMacW e n src other => Sys2Proof.Machine.execTMacW e n src other s
  | .tMsuW e n src other => Sys2Proof.Machine.execTMsuW e n src other s
  | .tLoad e kind src other ecc => Sys2Proof.Machine.execTLoad e kind src other ecc s
  | .tStore e kind src other ecc => Sys2Proof.Machine.execTStore e kind src other ecc s
  | .tBra e src other => Sys2Proof.Machine.execTBra e src other s
  | .tBrc e src other => Sys2Proof.Machine.execTBrc e src other s
  | .tJmpt e src other => Sys2Proof.Machine.execTJmpt e src other s
  | .tJmpa e src other => Sys2Proof.Machine.execTJmpa e src other s
  | .tJsrt e src other => Sys2Proof.Machine.execTJsrt e src other s
  | .tJsra e src other => Sys2Proof.Machine.execTJsra e src other s
  | .tEvWait e src other => Sys2Proof.Machine.execTEvWait e src other s
  | .tEvPoll e src other => Sys2Proof.Machine.execTEvPoll e src other s
  | .tEvSig e src other => Sys2Proof.Machine.execTEvSig e src other s
  | .tSync e src other => Sys2Proof.Machine.execTSync e src other s
  | .tTrap e src other => Sys2Proof.Machine.execTTrap e src other s
  | .tBrk e src other => Sys2Proof.Machine.execTBrk e src other s
  | .tRte e src other => Sys2Proof.Machine.execTRte e src other s
  | .tCache e src other => Sys2Proof.Machine.execTCache e src other s
  | .tCsCmd e slot src other => Sys2Proof.Machine.execTCsCmd e slot src other s
  | .tCsResRead e slot dst other => Sys2Proof.Machine.execTCsResRead e slot dst other s
  | .listRun => Sys2Proof.Machine.execListRun s
  | .anoSlotStatus => Sys2Proof.Machine.execAnoSlotStatus s
  | .fenceWait => Sys2Proof.Machine.execFenceWait s
  | .keyOn => Sys2Proof.Machine.execKeyOn s
  | .keyOff => Sys2Proof.Machine.execKeyOff s
  | .pitch => Sys2Proof.Machine.execPitch s
  | .pos => Sys2Proof.Machine.execPos s
  | .div => Sys2Proof.Machine.execDiv s
  | .divu => Sys2Proof.Machine.execDivu s
  | .sqrt => Sys2Proof.Machine.execSqrt s
  | .sincos => Sys2Proof.Machine.execSincos s
  | .atan2 => Sys2Proof.Machine.execAtan2 s
  | .recip => Sys2Proof.Machine.execRecip s
  | .sadd => Sys2Proof.Machine.execSadd s
  | .ssub => Sys2Proof.Machine.execSsub s
  | .smul => Sys2Proof.Machine.execSmul s
  | .swtrig => Sys2Proof.Machine.execSwtrig s
  | .varMarkCmd => Sys2Proof.Machine.execVarMarkCmd s
  | .varStateCmd => Sys2Proof.Machine.execVarStateCmd s
  | .stime => Sys2Proof.Machine.execStime s
  | .copResultReady slot => Sys2Proof.Machine.execCopResultReady slot s
  | .copRemoteTimeout slot e place => Sys2Proof.Machine.execCopRemoteTimeout slot e place s
  | .lineStart phase pull => Sys2Proof.Machine.execLineStart phase pull s
  | .flipGroupFault group => Sys2Proof.Machine.execFlipGroupFault group s
  | .flipGroupReadyTransfer group => Sys2Proof.Machine.execFlipGroupReadyTransfer group s
  | .camStaleFill => Sys2Proof.Machine.execCamStaleFill s
  | .lnlRecordWrites late => Sys2Proof.Machine.execLnlRecordWrites late s
  | .affineTexelLoad => Sys2Proof.Machine.execAffineTexelLoad s
  | .composeLineBegin => Sys2Proof.Machine.execComposeLineBegin s
  | .lineBufferUnderflow first count => Sys2Proof.Machine.execLineBufferUnderflow first count s
  | .timRunStart master => Sys2Proof.Machine.execTimRunStart master s
  | .timRunStop master => Sys2Proof.Machine.execTimRunStop master s
  | .seamEnd micros => Sys2Proof.Machine.execSeamEnd micros s
  | .xsyncEdge input rising gap => Sys2Proof.Machine.execXsyncEdge input rising gap s
  | .referenceMissing => Sys2Proof.Machine.execReferenceMissing s
  | .lockAcquired => Sys2Proof.Machine.execLockAcquired s
  | .pennantCheckComplete => Sys2Proof.Machine.execPennantCheckComplete s
  | .pennantGapTimeout cell => Sys2Proof.Machine.execPennantGapTimeout cell s
  | .penRefDone cell => Sys2Proof.Machine.execPenRefDone cell s
  | .histogramSwap => Sys2Proof.Machine.execHistogramSwap s
  | .cmpFencesetWrite set => Sys2Proof.Machine.execCmpFencesetWrite set s
  | .cameraTimingCode xy px behind => Sys2Proof.Machine.execCameraTimingCode xy px behind s
  | .cameraEavTimeout => Sys2Proof.Machine.execCameraEavTimeout s
  | .captureFrameComplete => Sys2Proof.Machine.execCaptureFrameComplete s
  | .anoGo done => Sys2Proof.Machine.execAnoGo done s
  | .anoLgo ends => Sys2Proof.Machine.execAnoLgo ends s
  | .anoStop done => Sys2Proof.Machine.execAnoStop done s
  | .anoOpDone => Sys2Proof.Machine.execAnoOpDone s
  | .anoNop => Sys2Proof.Machine.execAnoNop s
  | .anoSrc => Sys2Proof.Machine.execAnoSrc s
  | .anoDst => Sys2Proof.Machine.execAnoDst s
  | .anoPen => Sys2Proof.Machine.execAnoPen s
  | .anoMode => Sys2Proof.Machine.execAnoMode s
  | .anoClip => Sys2Proof.Machine.execAnoClip s
  | .anoCopy => Sys2Proof.Machine.execAnoCopy s
  | .anoFill => Sys2Proof.Machine.execAnoFill s
  | .anoExpand => Sys2Proof.Machine.execAnoExpand s
  | .anoLine => Sys2Proof.Machine.execAnoLine s
  | .anoTri => Sys2Proof.Machine.execAnoTri s
  | .anoFence => Sys2Proof.Machine.execAnoFence s
  | .anoFwait => Sys2Proof.Machine.execAnoFwait s
  | .anoFwaitRelease => Sys2Proof.Machine.execAnoFwaitRelease s
  | .anoMark => Sys2Proof.Machine.execAnoMark s
  | .anoJump => Sys2Proof.Machine.execAnoJump s
  | .anoEnd => Sys2Proof.Machine.execAnoEnd s
  | .samplePeriodBoundary => Sys2Proof.Machine.execSamplePeriodBoundary s
  | .voiceChunkArrival voice => Sys2Proof.Machine.execVoiceChunkArrival voice s
  | .voicePrimeTimeout voice => Sys2Proof.Machine.execVoicePrimeTimeout voice s
  | .voiceFadeEnd voice => Sys2Proof.Machine.execVoiceFadeEnd voice s
  | .meterWindowEnd meter holdWritten => Sys2Proof.Machine.execMeterWindowEnd meter holdWritten s
  | .meterHoldFallback meter => Sys2Proof.Machine.execMeterHoldFallback meter s
  | .meterCfgWrite meter value => Sys2Proof.Machine.execMeterCfgWrite meter value s
  | .pennantSoundAudit => Sys2Proof.Machine.execPennantSoundAudit s
  | .as1ReadbackMismatch left right => Sys2Proof.Machine.execAs1ReadbackMismatch left right s
  | .as1SilenceTimeout => Sys2Proof.Machine.execAs1SilenceTimeout s
  | .canFrameReceived frame sof => Sys2Proof.Machine.execCanFrameReceived frame sof s
  | .canProtocolException => Sys2Proof.Machine.execCanProtocolException s
  | .signalTimeout entry => Sys2Proof.Machine.execSignalTimeout entry s
  | .canTxRequest value busIdle completes => Sys2Proof.Machine.execCanTxRequest value busIdle completes s
  | .canTxAbort value => Sys2Proof.Machine.execCanTxAbort value s
  | .canTxComplete => Sys2Proof.Machine.execCanTxComplete s
  | .canRxfAck fifo value frame sof => Sys2Proof.Machine.execCanRxfAck fifo value frame sof s
  | .canBusOff => Sys2Proof.Machine.execCanBusOff s
  | .canBusRecovery => Sys2Proof.Machine.execCanBusRecovery s
  | .varStreamStart stream reachesDone => Sys2Proof.Machine.execVarStreamStart stream reachesDone s
  | .varStreamStop stream => Sys2Proof.Machine.execVarStreamStop stream s
  | .varSwtrig stream => Sys2Proof.Machine.execVarSwtrig stream s
  | .varRecordComplete stream level room => Sys2Proof.Machine.execVarRecordComplete stream level room s
  | .varAutoRelax stream => Sys2Proof.Machine.execVarAutoRelax stream s
  | .trigInputEdge ball rising => Sys2Proof.Machine.execTrigInputEdge ball rising s
  | .trigPulseEnd ball => Sys2Proof.Machine.execTrigPulseEnd ball s
  | .gpioInputEdge pin rising => Sys2Proof.Machine.execGpioInputEdge pin rising s
  | .gpiOutWrite master k value => Sys2Proof.Machine.execGpiOutWrite master k value s
  | .gpiOeWrite master k value => Sys2Proof.Machine.execGpiOeWrite master k value s
  | .gpiPinWrite master pin value => Sys2Proof.Machine.execGpiPinWrite master pin value s
  | .bankSupplyFault bank => Sys2Proof.Machine.execBankSupplyFault bank s
  | .xspCmdGo value completes => Sys2Proof.Machine.execXspCmdGo value completes s
  | .xspCmdDone data => Sys2Proof.Machine.execXspCmdDone data s
  | .xspDmaGo completes => Sys2Proof.Machine.execXspDmaGo completes s
  | .xspDmaDone data => Sys2Proof.Machine.execXspDmaDone data s
  | .xspLineFillDone line data => Sys2Proof.Machine.execXspLineFillDone line data s
  | .i2cXferGo ctrl value completes => Sys2Proof.Machine.execI2cXferGo ctrl value completes s
  | .i2cXferDone ctrl ending => Sys2Proof.Machine.execI2cXferDone ctrl ending s
  | .i2cSclTimeout ctrl count received => Sys2Proof.Machine.execI2cSclTimeout ctrl count received s
  | .uartTxPush port data => Sys2Proof.Machine.execUartTxPush port data s
  | .uartRxPop port value => Sys2Proof.Machine.execUartRxPop port value s
  | .uartRxFrame port data stopOk parityOk broken => Sys2Proof.Machine.execUartRxFrame port data stopOk parityOk broken s
  | .pwmPeriodStart channel => Sys2Proof.Machine.execPwmPeriodStart channel s
  | .as0InputFrame words => Sys2Proof.Machine.execAs0InputFrame words s
  | .linkSignalDetect port => Sys2Proof.Machine.execLinkSignalDetect port s
  | .portUp port partnerPort partnerLead partnerNode => Sys2Proof.Machine.execPortUp port partnerPort partnerLead partnerNode s
  | .portDown port errors => Sys2Proof.Machine.execPortDown port errors s
  | .pathLost => Sys2Proof.Machine.execPathLost s
  | .superframeReceived port frame sub residence => Sys2Proof.Machine.execSuperframeReceived port frame sub residence s
  | .delayExchange port out back => Sys2Proof.Machine.execDelayExchange port out back s
  | .buntingRequest value => Sys2Proof.Machine.execBuntingRequest value s
  | .buntingLanding => Sys2Proof.Machine.execBuntingLanding s
  | .cmdreqPacket port packet => Sys2Proof.Machine.execCmdreqPacket port packet s
  | .cmdrepPacket port packet => Sys2Proof.Machine.execCmdrepPacket port packet s
  | .wrdPacket port packet => Sys2Proof.Machine.execWrdPacket port packet s
  | .wwrPacket port packet => Sys2Proof.Machine.execWwrPacket port packet s
  | .wrspPacket port packet => Sys2Proof.Machine.execWrspPacket port packet s
  | .copreqPacket port packet => Sys2Proof.Machine.execCopreqPacket port packet s
  | .coprspPacket port packet => Sys2Proof.Machine.execCoprspPacket port packet s
  | .linkPacketRetry node tag => Sys2Proof.Machine.execLinkPacketRetry node tag s
  | .windowBusyRetry node tag => Sys2Proof.Machine.execWindowBusyRetry node tag s
  | .windowTimeout node tag => Sys2Proof.Machine.execWindowTimeout node tag s
  | .linkPrbsDone compared errors losses ended => Sys2Proof.Machine.execLinkPrbsDone compared errors losses ended s
  | .linkEnumTimeout => Sys2Proof.Machine.execLinkEnumTimeout s
  | .linkForwardTimeout => Sys2Proof.Machine.execLinkForwardTimeout s
  | .flashHeaderTimeout => Sys2Proof.Machine.execFlashHeaderTimeout s
  | .undefinedInstruction e => Sys2Proof.Machine.execUndefinedInstruction e s
  | .instructionFetchRefused e => Sys2Proof.Machine.execInstructionFetchRefused e s
  | .canBusError error => Sys2Proof.Machine.execCanBusError error s
  | .uartTxFrameSent port => Sys2Proof.Machine.execUartTxFrameSent port s
  | .gpioInputChange pin level => Sys2Proof.Machine.execGpioInputChange pin level s
  | .lineBufferWatermarkBelow level => Sys2Proof.Machine.execLineBufferWatermarkBelow level s
  | .fuseBlowDone differs => Sys2Proof.Machine.execFuseBlowDone differs s

end Sys2Proof.Machine
end

