-- ==== Sys2Proof/Safety.lean ====
section
/-! DEFINITION. The terms that the claims use: the state after a register cycle, what a command answers, when an eft can issue,
and the invariants. The block never stops by itself: a run is safe when the fuses, the factory lock and the store keep their
form. -/

namespace Sys2Proof.Machine

open Sys2Proof

/-! ## After a register cycle -/

/-- The state in which a register cycle leaves what the device holds: put-off increments applied and Varan's EVENT units
served (02 R43, 16 R536). -/
def State.after (s : State) (h : Hw) : State := { s with hw := h.settleCi.varSettle 4 }

/-- Command `i` completes, and the device holds `h` as its register cycle ends; the queue, the store and the fuses are as they
were. -/
def Does (i : Instr) (s : State) (h : Hw) : Prop := exec i s = .next (s.after h)

/-- What the engine works on as a command begins. -/
def State.sys (s : State) : Sys := ⟨s.hw, s.nv, []⟩

/-- The state in which a register cycle of the engine leaves the machine: its levels published, the store's and the fuses'
changes made. -/
def State.afterSys (s : State) (r : Sys) : State :=
  { s with hw := r.publish.hw.settleCi.varSettle 4, nv := r.publish.acts.foldl (fun n a => a.apply n) s.nv }

/-- Command `i` completes, and the engine leaves `r` as its register cycle ends. -/
def DoesSys (i : Instr) (s : State) (r : Sys) : Prop := exec i s = .next (s.afterSys r)

/-- Command `i` completes, and what the device holds as its register cycle ends satisfies `P`. -/
def Leaves (i : Instr) (s : State) (P : Hw → Prop) : Prop := ∃ h, Does i s h ∧ P h

/-- Command `i` completes, and what the engine leaves as its register cycle ends satisfies `P`. -/
def LeavesSys (i : Instr) (s : State) (P : Sys → Prop) : Prop := ∃ r, DoesSys i s r ∧ P r

/-! ## An eft that issues -/

/-- Eft `e` can issue its next instruction in a mode at once (07 R225, R241, R243): it is READY in that mode, nothing that it
began is outstanding, it stands in no delay slot, and its pc lies in a line that the instruction cache holds, in a page of
that mode. -/
def Hw.canIssue (h : Hw) (e : Fin 4) (tmode : Bool) : Bool :=
  let t := h.eft e
  let a := t.pc.toNat
  t.run == .ready && t.sr.mode == tmode && t.slot.isNone && t.pend.isNone && t.late.isNone && t.fly.isEmpty && t.out.isEmpty
    && executable a && !h.uncached a && h.pageMode a == tmode && (h.caches.findI a).isSome

/-- The device as eft `e` issues from the instruction cache: the line is used, and the all-wait count ends (07 R253). -/
def Hw.issued (h : Hw) (e : Fin 4) : Hw :=
  { h.wr F.EFT_AWSTAT_LEN 0 with
    awArmed := false
    caches := { h.caches with ilru := lruTouch h.caches.ilru ((h.caches.findI (h.eft e).pc.toNat).getD 0) } }

/-- An eft whose instruction had its effect `t` and that goes on with the next word. -/
def Eft.onward (t : Eft) : Eft := { t with pc := t.pc + 4#32 }

/-- The instruction `i` of eft `e` issues, leaves the eft's own registers as `u` and goes on with the next word; nothing else
that the device holds is touched. -/
def Retires (i : Instr) (s : State) (e : Fin 4) (u : Eft) : Prop := Does i s ((s.hw.issued e).setEft e u.onward)

/-- A data operation: Drd takes `v`, and C and V take `c` and `o`; N and Z come from `v` (07 R234). -/
def Computes (i : Instr) (s : State) (e : Fin 4) (rd : Fin 8) (v : Word) (c o : Bool) : Prop :=
  let t := s.hw.eft e
  Retires i s e { t with d := t.d.set rd v, sr := { t.sr with n := v.msb, z := v == 0#32, c := c, v := o } }

/-- A data operation that leaves C and V. -/
def ComputesNZ (i : Instr) (s : State) (e : Fin 4) (rd : Fin 8) (v : Word) : Prop :=
  Computes i s e rd v (s.hw.eft e).sr.c (s.hw.eft e).sr.v

/-- The signed sum or difference `r` of a data operation overflows: `i` is its exact value. -/
def overflows (r : Word) (i : Int) : Bool := decide (r.toInt ≠ i)

/-- A comparison: the flags of `x - y`, and no register (07 R234). -/
def Compares (i : Instr) (s : State) (e : Fin 4) (x y : Word) : Prop :=
  let t := s.hw.eft e
  let r := x - y
  Retires i s e { t with sr := { t.sr with
    n := r.msb, z := r == 0#32, c := decide (x.toNat < y.toNat), v := overflows r (x.toInt - y.toInt) } }

/-- An operation into an accumulator: it takes the exact value `i` clamped to 48 bits, and a clamp sets AVn (07 R234). -/
def Accumulates (i : Instr) (s : State) (e : Fin 4) (n : Fin 2) (v : Int) : Prop :=
  let t := s.hw.eft e
  let c := if v < -(2 ^ 47) then -(2 ^ 47) else if 2 ^ 47 ≤ v then 2 ^ 47 - 1 else v
  Retires i s e { t with
    acc := t.acc.set n (BitVec.ofInt 48 c)
    sr := { t.sr with av0 := t.sr.av0 || (n == 0 && c != v), av1 := t.sr.av1 || (n == 1 && c != v) } }

/-! ## Exceptions of an eft (07 R256, R259) -/

/-- Eft `e` enters vector `v` with EXL clear before it: ESR takes SR, EPC and EFA as given, EBT the next word; EXL set, IE
cleared; mode and pc from the vector word at VBAR + 4 v. -/
def Hw.enters (h : Hw) (e : Fin 4) (v : Nat) (epc : Word) (efa : Option Word) : Hw :=
  let t := h.eft e
  let w := h.mem32 (h.rd F.EFT_VBAR_BASE * 64 + 4 * v)
  h.setEft e { t with
    esr := t.sr.word e
    epc := epc
    efa := efa.getD t.efa
    ebt := t.pc + 4#32
    sr := { t.sr with exl := true, ie := false, mode := bit w 0 }
    pc := BitVec.ofNat 32 (w / 4 * 4)
    wmask := 0#32 }

/-! ## Coprocessor slots (08 R291 to R296) -/

/-- The device after an on-chip slot took its front command: the queue's rest, and the result words until the result row. -/
def Hw.slotDone (h : Hw) (slot : Nat) (rest : List CopCmd) (c : CopCmd) (ws : List Word) : Hw :=
  { h with cop := { h.cop with slots := h.cop.slots.set slot rest, results := h.cop.results.set slot [(c, ws)] } }

/-- Slot `slot` is idle and has `c` in front of `rest`. -/
abbrev Hw.slotFront (h : Hw) (slot : Nat) (c : CopCmd) (rest : List CopCmd) : Prop :=
  h.cop.slots[slot]? = some (c :: rest) ∧ h.cop.results[slot]? = some [] ∧ h.cop.fenceWaits = []

/-- Only registers, put-off increments and pulses of the device differ from `h`. -/
def Hw.OnlyRegs (h g : Hw) : Prop := g = { h with regs := g.regs, ciDue := g.ciDue, varPulse := g.varPulse }

/-! ## Requests of the engine (04 R131 to R139) -/

/-- Port `p` takes requests at the port index `i` (04 R103, R137, R141). -/
def Sys.usable (s : Sys) (p : EngPort) (i : Nat) : Bool :=
  match p with
  | .sp => i == 0 && s.spListens && s.hw.pwr.goal != .enter .deep
  | .hp => i == 1 && s.hpListens
  | .mb => i == 2 && s.mbListens
  | .dp => i == 3 && s.dpListens
  | .lk node tag => s.lkListens && s.slotFor node == some i && (s.port i).node == some node.val && (s.port i).tag == tag.val

/-- Request `q` reaches the port of index `i`: the port can be used, nothing executes there, and no reply waits there (04 R103,
R137, R141). -/
abbrev Sys.reaches (s : Sys) (q : EngReq) (i : Nat) : Prop :=
  (s.port i).exec = none ∧ (s.port i).ready = none ∧ (s.port i).discard = false ∧ s.usable q.port i = true

/-- Request `q` of opcode `op` passes checks 1 to 11 of 04 R131 and the common part of check 12 at the port of index `i`: its
opcode's row does not hold it back, and its length and values fit the row. -/
abbrev Sys.accepts (s : Sys) (op : Nat) (q : EngReq) (i : Nat) : Prop :=
  s.reaches q i ∧ (q.flags = 0#8 ∨ q.flags = 1#8 ∧ ∀ x ∈ (s.port i).stored, (x.1, x.2.1) ≠ (op, q.seq.toNat)) ∧
    q.par.length ≤ 4100 ∧ s.early i op 0 q.par = none ∧ (opRow op).map (fun r => s.held r q.par || s.misfit r q.par) = some false

/-- The reply OK of an executed request: stored, and made ready at its port or sent to its node (04 R133, R138; 17 R591). -/
def Sys.replied (s : Sys) (i op : Nat) (q : EngReq) (data : List Byte) : Sys :=
  let pkt := replyPacket op 0 q.seq.toNat data
  (s.modPort i fun p => { p with exec := none, discard := false, stored := some (op, q.seq.toNat, pkt) }).putReply i pkt

/-- Command `i`, a request of class I that is accepted, executes at once: it leaves `r` with the reply OK and `data`, which its
caller can receive. -/
def Executes (i : Instr) (s : State) (op : Nat) (q : EngReq) (n : Nat) (r : Sys) (data : List Byte) : Prop :=
  s.sys.accepts op q n → data.length ≤ (s.sys.port n).rxmax → DoesSys i s (r.replied n op q data)

/-- Command `i`, a request of class I that is accepted, executes at once and replies OK with `data`; what it leaves before its
reply satisfies `P`. -/
def Answers (i : Instr) (s : State) (op : Nat) (q : EngReq) (n : Nat) (data : List Byte) (P : Sys → Prop) : Prop :=
  s.sys.accepts op q n → data.length ≤ (s.sys.port n).rxmax → ∃ r, DoesSys i s (r.replied n op q data) ∧ P r

/-- Command `i`, a request that passes checks 1 to 11, is refused by its particular checks with status `st` and `data`: nothing
changes but the reply and what its port counts (04 R131). -/
def Refuses (i : Instr) (s : State) (op : Nat) (q : EngReq) (n st : Nat) (data : List Byte) : Prop :=
  s.sys.accepts op q n → DoesSys i s (s.sys.refuse n op q.seq.toNat (st, data))

/-- Command `i`, a request of class N or J that is accepted, begins: its port executes it, and what it leaves satisfies `P`
(04 R134, R135). -/
def Begins (i : Instr) (s : State) (op : Nat) (q : EngReq) (n : Nat) (P : Sys → Prop) : Prop :=
  s.sys.accepts op q n → ∃ r, DoesSys i s r ∧ P r

/-- The commands of the engine for a request, each with its OPCODE (04 R129). -/
def engineCommands (q : EngReq) : List (Instr × Nat) :=
  [(.hello q, 0x01), (.select q, 0x02), (.status q, 0x03), (.resetSoft q, 0x04), (.powerState q, 0x10), (.domainSet q,
    0x11), (.retainSet q, 0x12), (.wakeConfig q, 0x13), (.domainGet q, 0x14), (.runsetWrite q, 0x15), (.startPolicy q,
    0x16), (.imageBegin q, 0x20), (.imageData q, 0x21), (.imageEnd q, 0x22), (.imageBootFlash q, 0x23), (.appStart q,
    0x24), (.appStop q, 0x25), (.imageInfo q, 0x26), (.penCellSet q, 0x30), (.penCellEnable q, 0x31), (.penStoreWrite q,
    0x32), (.penPaletteWrite q, 0x33), (.penMode q, 0x34), (.penAlarmClear q, 0x35), (.penGapSet q, 0x36), (.sigtabWrite
    q, 0x37), (.avasConfig q, 0x38), (.penStatus q, 0x39), (.gpioOwnSet q, 0x40), (.gpioOwnGet q, 0x41), (.gpioWrite q,
    0x42), (.gpioRead q, 0x43), (.ledgerCapSet q, 0x50), (.ledgerQuery q, 0x51), (.ledgerShedOrder q, 0x52),
    (.ledgerCommit q, 0x53), (.nvmRead q, 0x60), (.nvmWrite q, 0x61), (.nvmWear q, 0x62), (.calWrite q, 0x63),
    (.restoreFactory q, 0x64), (.factoryLock q, 0x65), (.secretStore q, 0x66), (.linkEnum q, 0x70), (.linkStatus q,
    0x71), (.linkPolicy q, 0x72), (.linkPrbs q, 0x73), (.linkForward q, 0x74), (.matrixRelease q, 0x80), (.resetSystem
    q, 0x81), (.bankRetire q, 0x82), (.eftRestart q, 0x83), (.recoveryLog q, 0x84), (.debugOpen q, 0x90), (.debugStatus
    q, 0x91), (.lifecycleSet q, 0x92), (.keyhashProgram q, 0x93), (.keyhashRevoke q, 0x94), (.telemRead q, 0xA0),
    (.telemConfig q, 0xA1), (.eventLog q, 0xA2)]

/-- A transaction of the store that `r` has queued over `s`: `k` logical rows to write, then the commit record, after which
`recs` are in force and `after` follows; nothing of it counts yet (19 R651). -/
def Sys.Journals (s r : Sys) (k : Nat) (recs : List NvRec) (after : NvAfter) : Prop :=
  (∃ w, r.eng.work = s.eng.work ++ [w] ∧ w.steps.length = k + 1 ∧ w.steps.getLast? = some .commit ∧ w.taken.length = k ∧
    w.recs = recs ∧ w.after = after) ∧ r.nv.rows = s.nv.rows ∧ r.nv.map = s.nv.map

/-! ## Anole's pixels (13 R439 to R449, R454) -/

/-- Pixel (x, y) of the surface that an entry describes, as memory holds it (13 R439). -/
def Hw.surfPixel (h : Hw) (l : List Nat) (x y : Nat) : Nat :=
  let d := anoDepth (sfFmt l)
  let at_ := sfBase l + y * sfPitch l + x * d / 8
  if d < 8 then (h.byte at_).toNat / 2 ^ (x * d % 8) % 2 ^ d else fieldAt (h.bytes at_ (d / 8)) 0 (d / 8)

/-- The source pixel that operation `o` gives destination pixel (x, y); none where it gives none (13 R445 to R449). -/
def AnoOp.source (o : AnoOp) (h : Hw) (x y : Nat) : Option AnoPx :=
  let t := o.st
  let e := o.entry
  let df := sfFmt t.dst
  let ink := fun (c : Nat) (a : Nat) => let v := anoPenIn df c; some (⟨v, df, v, a⟩ : AnoPx)
  let inside := eX (ew e 2) ≤ x ∧ x < eX (ew e 2) + eX (ew e 3) ∧ eY (ew e 2) ≤ y ∧ y < eY (ew e 2) + eY (ew e 3)
  let v := h.surfPixel t.src (eX (ew e 1) + (x - eX (ew e 2))) (eY (ew e 1) + (y - eY (ew e 2)))
  let fg := ew t.pen 1
  match anoCmd e with
  | 0x10 => if inside then some ⟨v, sfFmt t.src, anoConvert (sfFmt t.src) df v, if sfFmt t.src = 4 then v / 2 ^ 24 else 0xFF⟩ else none
  | 0x11 => if inside then ink fg (fg / 2 ^ 24) else none
  | 0x12 =>
    if ¬ inside then none
    else if sfFmt t.src = 5 then (if v = 1 then ink fg 0xFF else if t.bgen then ink (ew t.pen 2) 0xFF else none)
    else if t.blends = false ∧ v = 0 then none
    else ink fg v
  | 0x13 => if (x, y) ∈ linePoints (eX (ew e 1)) (eY (ew e 1)) (eX (ew e 2)) (eY (ew e 2)) then ink fg (fg / 2 ^ 24) else none
  | _ => if triHas (triPoints e) x y then ink fg (fg / 2 ^ 24) else none

/-- Work memory answers every access: no locked sequence is open or broken, no bank is retired, every bank is on. -/
abbrev Hw.openMemory (h : Hw) : Prop :=
  h.mtx.lock = none ∧ h.mtx.broken = [] ∧ h.mtx.retired = [] ∧ ∀ b < 16, h.on (4 + b) = true

/-- `a` lies in a row of the surface's pixels. -/
abbrev inSurface (l : List Nat) (a : Nat) : Prop :=
  ∃ y < sfH l, sfBase l + y * sfPitch l ≤ a ∧ a < sfBase l + y * sfPitch l + cdiv (sfW l * anoDepth (sfFmt l)) 8

/-! ## The store and the fuses -/

/-- Every bit of `a` is set in `b`. -/
abbrev Covers (a b : Nat) : Prop := a &&& b = a

/-- What the fuses and the permanent records can only gain (19 R660, R661): no fuse bit is cleared, the security version
floor does not fall, the factory lock stays. -/
def Nv.Grows (a b : Nv) : Prop :=
  (∀ k, Covers (a.kh.getD k 0) (b.kh.getD k 0)) ∧ Covers a.prg b.prg ∧ Covers a.rev b.rev ∧ Covers a.life b.life ∧ a.svn ≤ b.svn ∧
    (a.factoryLock = true → b.factoryLock = true)

/-- The store's form: canonical maps, the journal's place within its ring of 512 rows, one count and one refusal flag for
each of the four regions, four key-hash fuses (19 R647, R651, R655, R661). -/
def Nv.Inv (n : Nv) : Bool :=
  Store.wf (fun _ => erasedRow) n.rows && Store.wf (fun _ => 0) n.counts && Store.wf (fun k => k) n.map
    && decide (n.journal < 512) && decide (n.writes.length = 4) && decide (n.refused.length = 4) && decide (n.kh.length = 4)

/-- Memory is in its canonical form: addresses strictly rising, no byte listed that an unlisted address reads as. -/
abbrev Memory.wf (m : List Host.Cell) : Bool := Store.wf memReset m

end Sys2Proof.Machine
end

