-- ==== Sys2Proof/Certificates/Slice0/Obligations.lean ====
section
/-! DEFINITION. The statements for the provers. A statement that covers several rows is a conjunction of one part for each. -/

open Sys2Proof Sys2Proof.Machine

/-- One step performs the command at the front of the queue on the state with the queue's rest; on an empty queue a
register clock cycle passes (log 2): the cycle counter, the all-wait count and system time go on, and nothing of the store
changes. The idle cycle is the model's choice (log 2). -/
def Obligations.Steps : Prop :=
  (∀ (s : State) (c : Instr) (rest : List Instr), s.pending = c :: rest → step s = exec c { s with pending := rest }) ∧
  (∀ s : State, s.pending = [] → let h := s.hw
    ∃ t, step s = .next t ∧ t.pending = [] ∧ t.nv = s.nv ∧ t.hw.cycle = h.cycle + 1 ∧ t.hw.mem = h.mem ∧ t.hw.efts = h.efts ∧
      t.hw.pwr = h.pwr ∧ t.hw.eng = h.eng ∧
      (h.on 2 = true → h.allWait = true → t.hw.rd F.EFT_AWSTAT_LEN = min 256 (h.rd F.EFT_AWSTAT_LEN + 1)) ∧
      (h.on 2 = true → h.allWait = false → t.hw.rd F.EFT_AWSTAT_LEN = 0) ∧
      (h.on 21 = false ∨ (h.cycle + 1) % 4 ≠ 0 → t.hw.sysTime = h.sysTime) ∧
      (h.on 21 = true → (h.cycle + 1) % 4 = 0 → h.brg.slew = 0 → 0 ≤ h.brg.frac → h.brg.frac < 10000 →
        t.hw.sysTime = (h.sysTime + 1) % 2 ^ 64))

/-- What reset leaves: no command waits, every eft stopped, no pin owned, memory with nothing listed, the store in its form
and every fuse unblown, and the reset values that the register tables of 18 and 15 give. That memory lists nothing and that
no fuse is blown are the model's reset (logs 3, 5). -/
def Obligations.ResetValues : Prop :=
  let s := State.reset
  let h := s.hw
  s.pending = [] ∧ h.mem = [] ∧ Memory.wf h.mem = true ∧ s.nv.Inv = true ∧ s.nv.kh = [0, 0, 0, 0] ∧ s.nv.prg = 0 ∧ s.nv.rev = 0 ∧
  s.nv.life = 0 ∧ s.nv.svn = 0 ∧ (∀ e : Fin 4, (h.eft e).run = .stopped) ∧ (∀ n < 96, h.gpi.owner.getD n 0 = 0) ∧
  (∀ n < 96, h.rd F.GPI_PIN_PULL n = (if n = 8 then 2 else 1) ∧ h.rd F.GPI_PIN_DRIVE n = 1 ∧ h.rd F.GPI_PIN_FUNC n = 0) ∧
  h.rd F.XSP_CFG_SIZE = 24 ∧ h.rd F.XSP_CFG_ROP = 3 ∧ h.rd F.XSP_CFG_DIV = 3 ∧ h.rd F.CAN_CFG_AUTOREC = 1 ∧ h.rd F.CAN_CFG_MODE = 0 ∧
  (∀ c < 2, h.rd F.GPI_I2C_TIM_HIGH c = 60 ∧ h.rd F.GPI_I2C_TIM_LOW c = 130 ∧ h.rd F.GPI_UART_CFG_DIV c = 0x364 ∧
    h.rd F.GPI_UART_THR_RXTHR c = 1) ∧
  (∀ k < 8, h.rd F.GPI_PWM_CFG_PERIOD k = 5000 ∧ h.rd F.GPI_PWM_ACT_PERIOD k = 5000 ∧ h.rd F.GPI_PWM_CFG_EN k = 0)

/-- Every command completes in every state: no operand, mode or domain makes one stop; and what it does neither depends on
the commands that wait nor changes them. One command at a time is the model's form (logs 31, 84). -/
def Obligations.EveryCommandCompletes : Prop :=
  ∀ (i : Instr) (s : State), ∃ t, exec i s = .next t ∧ t.pending = s.pending ∧
    ∀ q, exec i { s with pending := q } = .next { t with pending := q }

/-- No step clears a fuse, lowers the security version floor or takes the factory lock back (19 R660, R661). -/
def Obligations.FusesOnlyGrow : Prop := ∀ s t : State, step s = .next t → s.nv.Grows t.nv

/-- Every step keeps the form of the non-volatile store (19 R647, R651, R655): canonical maps, the journal within its ring
of 512 rows, one count and one flag for each region. The numbering of rows is the model's (log 60). -/
def Obligations.StoreKeepsItsForm : Prop := ∀ s t : State, s.nv.Inv = true → step s = .next t → t.nv.Inv = true

/-- ADD to XOR: sums, differences and logic of two D registers, with their flags. SHL, SHR, SAR, ROR and SHI: a shift by n
(for a register, its low five bits), C the last bit shifted out and 0 for a count of 0, V 0; SHI with a reserved bit set
enters ILLEGAL. MOV to CLZ: moves, extensions, minimum and maximum, leading zeros; N and Z (CLZ: Z alone). The replacement
order of the caches is the model's (log 30). -/
def Obligations.RegisterOperations : Prop :=
  -- RegisterArithmetic
  (∀ (s : State) (e : Fin 4) (rd rs rt : Fin 8), s.hw.canIssue e false = true →
    let x := (s.hw.eft e).d[rs]
    let y := (s.hw.eft e).d[rt]
    let k := b2n (s.hw.eft e).sr.c
    Computes (.add e rd rs rt) s e rd (x + y) (decide (2 ^ 32 ≤ x.toNat + y.toNat)) (overflows (x + y) (x.toInt + y.toInt)) ∧
    Computes (.addc e rd rs rt) s e rd (x + y + BitVec.ofNat 32 k) (decide (2 ^ 32 ≤ x.toNat + y.toNat + k))
      (overflows (x + y + BitVec.ofNat 32 k) (x.toInt + y.toInt + (k : Int))) ∧
    Computes (.sub e rd rs rt) s e rd (x - y) (decide (x.toNat < y.toNat)) (overflows (x - y) (x.toInt - y.toInt)) ∧
    Computes (.subb e rd rs rt) s e rd (x - y - BitVec.ofNat 32 k) (decide (x.toNat < y.toNat + k))
      (overflows (x - y - BitVec.ofNat 32 k) (x.toInt - y.toInt - (k : Int))) ∧
    Computes (.andCmd e rd rs rt) s e rd (x &&& y) false false ∧
    Computes (.orCmd e rd rs rt) s e rd (x ||| y) false false ∧
    Computes (.xorCmd e rd rs rt) s e rd (x ^^^ y) false false) ∧
  -- Shifts
  (∀ (s : State) (e : Fin 4) (rd rs rt : Fin 8) (kind : Fin 4) (m : Fin 32) (high : BitVec 9), s.hw.canIssue e false = true →
    let x := (s.hw.eft e).d[rs]
    let shifted := fun (k n : Nat) =>
      match k with
      | 0 => (x <<< n, decide (n ≠ 0) && x.getLsbD (32 - n))
      | 1 => (x >>> n, decide (n ≠ 0) && x.getLsbD (n - 1))
      | 2 => (x.sshiftRight n, decide (n ≠ 0) && x.getLsbD (n - 1))
      | _ => (x.rotateRight n, decide (n ≠ 0) && (x.rotateRight n).msb)
    let n := (s.hw.eft e).d[rt].toNat % 32
    Computes (.shl e rd rs rt) s e rd (shifted 0 n).1 (shifted 0 n).2 false ∧
    Computes (.shr e rd rs rt) s e rd (shifted 1 n).1 (shifted 1 n).2 false ∧
    Computes (.sar e rd rs rt) s e rd (shifted 2 n).1 (shifted 2 n).2 false ∧
    Computes (.ror e rd rs rt) s e rd (shifted 3 n).1 (shifted 3 n).2 false ∧
    Computes (.shi e rd rs kind m 0#9) s e rd (shifted kind m).1 (shifted kind m).2 false ∧
    (high ≠ 0#9 → (s.hw.eft e).sr.exl = false →
      Does (.shi e rd rs kind m high) s ((s.hw.issued e).enters e 1 (s.hw.eft e).pc none))) ∧
  -- MovesAndExtensions
  (∀ (s : State) (e : Fin 4) (rd rs rt : Fin 8), s.hw.canIssue e false = true →
    let t := s.hw.eft e
    let x := t.d[rs]
    let y := t.d[rt]
    ComputesNZ (.mov e rd rs) s e rd x ∧ ComputesNZ (.notCmd e rd rs) s e rd (~~~x) ∧
    Computes (.neg e rd rs) s e rd (0#32 - x) (decide (0 < x.toNat)) (overflows (0#32 - x) (-x.toInt)) ∧
    ComputesNZ (.extB e rd rs) s e rd ((x.setWidth 8).signExtend 32) ∧
    ComputesNZ (.extH e rd rs) s e rd ((x.setWidth 16).signExtend 32) ∧
    ComputesNZ (.zxB e rd rs) s e rd (BitVec.ofNat 32 (x.toNat % 256)) ∧
    ComputesNZ (.zxH e rd rs) s e rd (BitVec.ofNat 32 (x.toNat % 65536)) ∧
    ComputesNZ (.minCmd e rd rs rt) s e rd (if x.toInt ≤ y.toInt then x else y) ∧
    ComputesNZ (.maxCmd e rd rs rt) s e rd (if x.toInt ≤ y.toInt then y else x) ∧
    (∀ n : Nat, n ≤ 32 → x.toNat < 2 ^ (32 - n) → (n < 32 → 2 ^ (31 - n) ≤ x.toNat) →
      Retires (.clz e rd rs) s e { t with d := t.d.set rd (BitVec.ofNat 32 n), sr := { t.sr with z := n == 0 } }))

/-- The immediate forms, the two comparisons of registers, and the flags of TST. The address operations and the moves
between the two classes. The replacement order of the caches is the model's (log 30). -/
def Obligations.ImmediatesAndAddresses : Prop :=
  -- ImmediatesAndComparisons
  (∀ (s : State) (e : Fin 4) (rd rs rt : Fin 8) (imm : BitVec 16), s.hw.canIssue e false = true →
    let t := s.hw.eft e
    let x := t.d[rs]
    let i := imm.signExtend 32
    let u := imm.setWidth 32
    Computes (.addi e rd rs imm) s e rd (x + i) (decide (2 ^ 32 ≤ x.toNat + i.toNat)) (overflows (x + i) (x.toInt + i.toInt)) ∧
    Computes (.andi e rd rs imm) s e rd (x &&& u) false false ∧ Computes (.ori e rd rs imm) s e rd (x ||| u) false false ∧
    Computes (.xori e rd rs imm) s e rd (x ^^^ u) false false ∧ ComputesNZ (.movi e rd imm) s e rd i ∧
    Retires (.lui e rd imm) s e { t with d := t.d.set rd (BitVec.ofNat 32 (imm.toNat * 65536)) } ∧
    Compares (.cmp e rs rt) s e x t.d[rt] ∧ Compares (.cmpi e rs imm) s e x i ∧ Compares (.cmpA e rs rt) s e t.a[rs] t.a[rt] ∧
    Retires (.tst e rs rt) s e { t with sr := { t.sr with
      n := (x &&& t.d[rt]).msb, z := (x &&& t.d[rt]) == 0#32, c := false, v := false } }) ∧
  -- AddressRegisters
  (∀ (s : State) (e : Fin 4) (rd rs rt : Fin 8) (imm : BitVec 16), s.hw.canIssue e false = true →
    let t := s.hw.eft e
    let puts := fun (i : Instr) (v : Word) => Retires i s e { t with a := t.a.set rd v }
    puts (.addiA e rd rs imm) (t.a[rs] + imm.signExtend 32) ∧ puts (.luiA e rd imm) (BitVec.ofNat 32 (imm.toNat * 65536)) ∧
    puts (.addA e rd rs rt) (t.a[rs] + t.a[rt]) ∧ puts (.subA e rd rs rt) (t.a[rs] - t.a[rt]) ∧
    puts (.movA e rd rs) t.a[rs] ∧ puts (.movDa e rd rs) t.d[rs] ∧ ComputesNZ (.movAd e rd rs) s e rd t.a[rs])

/-- The accumulator operations: the exact value, clamped to 48 bits, sets AVn where it clamps; no other flag changes.
RD.ACC and WR.ACC: the accumulator shifted right and clamped to 32 bits, V telling of the clamp, k to 47; a D register
shifted left into the accumulator, k to 16; a larger k enters ILLEGAL. The replacement order of the caches is the model's
(log 30). -/
def Obligations.AccumulatorOperations : Prop :=
  -- Accumulators
  (∀ (s : State) (e : Fin 4) (n m : Fin 2) (rs rt : Fin 8) (k : BitVec 6), s.hw.canIssue e false = true →
    let t := s.hw.eft e
    let a := t.acc[n].toInt
    let h := ((t.d[rs].setWidth 16).toInt * (t.d[rt].setWidth 16).toInt)
    let w := (t.d[rs].toInt * t.d[rt].toInt) / 65536
    Accumulates (.mulH e n rs rt) s e n h ∧ Accumulates (.macH e n rs rt) s e n (a + h) ∧
    Accumulates (.msuH e n rs rt) s e n (a - h) ∧ Accumulates (.mulW e n rs rt) s e n w ∧
    Accumulates (.macW e n rs rt) s e n (a + w) ∧ Accumulates (.msuW e n rs rt) s e n (a - w) ∧
    Accumulates (.clrAcc e n) s e n 0 ∧ Accumulates (.addAcc e n m) s e n (a + t.acc[m].toInt) ∧
    Accumulates (.shaAcc e n k) s e n
      (if 0 ≤ k.toInt then a * 2 ^ k.toInt.toNat else a / 2 ^ (-k.toInt).toNat)) ∧
  -- AccumulatorMoves
  (∀ (s : State) (e : Fin 4) (rd rs : Fin 8) (n : Fin 2) (k : Fin 64), s.hw.canIssue e false = true →
    let t := s.hw.eft e
    let v := t.acc[n].toInt / 2 ^ k.val
    let c := if v < -(2 ^ 31) then -(2 ^ 31) else if 2 ^ 31 ≤ v then 2 ^ 31 - 1 else v
    (k.val ≤ 47 → Computes (.rdAcc e rd n k) s e rd (BitVec.ofInt 32 c) t.sr.c (decide (c ≠ v))) ∧
    (k.val ≤ 16 → Retires (.wrAcc e n rs k) s e
      { t with acc := t.acc.set n (BitVec.ofInt 48 (t.d[rs].toInt * 2 ^ k.val)) }) ∧
    (t.sr.exl = false → (47 < k.val → Does (.rdAcc e rd n k) s ((s.hw.issued e).enters e 1 t.pc none)) ∧
      (16 < k.val → Does (.wrAcc e n rs k) s ((s.hw.issued e).enters e 1 t.pc none))))

/-- LD, LDU and LD.A of the local RAM: the register's value comes behind the next instruction, the base is updated by its
code. ST, ST.A and STUL to the local RAM: the low bytes of the register stand at the address, least significant first.
Bytes stored are read back, and every other byte of memory reads as before. The replacement order of the caches is the
model's (log 30). -/
def Obligations.LocalRamAccess : Prop :=
  -- LocalRamLoads
  (∀ (s : State) (e : Fin 4) (rv an : Fin 8) (size addr : Fin 4) (disp : BitVec 16) (key : Nat), s.hw.canIssue e false = true →
    addr ≠ 3 →
    let t := s.hw.eft e
    let sum := t.a[an] + disp.signExtend 32
    let a := if addr = 2 then t.a[an] else sum
    let w : Nat := 2 ^ size.val
    let n : Nat := s.hw.mem32 key w
    let begins := fun (i : Instr) (toA signed : Bool) (v : Word) => Retires i s e { t with
      a := t.a.set an (if addr = 0 then t.a[an] else sum)
      pend := some ⟨toA, rv, w, signed, a.toNat, false, .got v, t.pc, none, false⟩ }
    lramKey e a.toNat = some key → a.toNat % w = 0 →
    (size ≠ 3 → begins (.ld e rv an size addr disp .clean) false true
      (BitVec.ofInt 32 (if n < 2 ^ (8 * w - 1) then (n : Int) else (n : Int) - 2 ^ (8 * w)))) ∧
    (size.val ≤ 1 → begins (.ldu e rv an size addr disp .clean) false false (BitVec.ofNat 32 n)) ∧
    (size = 2 → (rv ≠ an ∨ addr = 0) → begins (.ldA e rv an size addr disp .clean) true true (BitVec.ofNat 32 n)) ∧
    (size = 2 → addr = 0 → s.hw.caches.dlines = [] →
      begins (.ldl e rv an size addr disp .clean) false true (BitVec.ofNat 32 n))) ∧
  -- LocalRamStores
  (∀ (s : State) (e : Fin 4) (rv an : Fin 8) (size addr : Fin 4) (disp : BitVec 16) (key : Nat), s.hw.canIssue e false = true →
    addr ≠ 3 →
    let t := s.hw.eft e
    let sum := t.a[an] + disp.signExtend 32
    let a := if addr = 2 then t.a[an] else sum
    let w : Nat := 2 ^ size.val
    let stores := fun (i : Instr) (v : Word) => Does i s (((s.hw.issued e).setBytes key (leBytes w v.toNat)).setEft e
      { t with a := t.a.set an (if addr = 0 then t.a[an] else sum), pc := t.pc + 4#32 })
    lramKey e a.toNat = some key → a.toNat % w = 0 →
    (size ≠ 3 → stores (.st e rv an size addr disp .clean) t.d[rv]) ∧
    (size = 2 → stores (.stA e rv an size addr disp .clean) t.a[rv]) ∧
    (size = 2 → addr = 0 → stores (.stul e rv an size addr disp .clean) t.d[rv])) ∧
  -- StoredBytes
  (∀ (h : Hw) (a : Nat) (l : List Byte) (x : Nat),
    (h.setBytes a l).byte x = if a ≤ x ∧ x < a + l.length then l.getD (x - a) 0#8 else h.byte x)

/-- A data access ends in an exception: a misaligned address, a reserved size or addressing code, an uncorrectable error of
the local RAM. LDL of work memory opens a locked sequence of the eft on M1, and STUL closes it; the access itself is made
uncached. The replacement order of the caches is the model's (log 30). Details of a locked sequence are the model's reading
(log 39). -/
def Obligations.AccessExceptionsAndLocks : Prop :=
  -- AccessExceptions
  (∀ (s : State) (e : Fin 4) (rv an : Fin 8) (size addr : Fin 4) (disp : BitVec 16) (ecc : Ecc) (bad : Nat),
    s.hw.canIssue e false = true → (s.hw.eft e).sr.exl = false →
    let t := s.hw.eft e
    let a := if addr = 2 then t.a[an] else t.a[an] + disp.signExtend 32
    let enters := fun (i : Instr) (v : Nat) (efa : Option Word) => Does i s ((s.hw.issued e).enters e v t.pc efa)
    ((size = 3 ∨ addr = 3) → enters (.ld e rv an size addr disp ecc) 1 none ∧ enters (.st e rv an size addr disp ecc) 1 none) ∧
    ((2 ≤ size.val ∨ addr = 3) → enters (.ldu e rv an size addr disp ecc) 1 none) ∧
    ((size ≠ 2 ∨ addr = 3) → enters (.stA e rv an size addr disp ecc) 1 none ∧ enters (.ldA e rv an size addr disp ecc) 1 none) ∧
    (addr = 1 ∨ addr = 2 → enters (.ldA e an an size addr disp ecc) 1 none) ∧
    ((size ≠ 2 ∨ addr ≠ 0) → enters (.ldl e rv an size addr disp ecc) 1 none ∧
      enters (.stul e rv an size addr disp ecc) 1 none) ∧
    (size ≠ 3 → addr ≠ 3 → a.toNat % 2 ^ size.val ≠ 0 →
      enters (.ld e rv an size addr disp ecc) 6 (some a) ∧ enters (.st e rv an size addr disp ecc) 6 (some a)) ∧
    (size ≠ 3 → addr ≠ 3 → a.toNat % 2 ^ size.val = 0 → (lramKey e a.toNat).isSome →
      Does (.ld e rv an size addr disp (.double bad)) s
        (((s.hw.issued e).inc F.EFT_LRAMERR_UE).enters e 5 t.pc (some a)))) ∧
  -- LockedSequence
  (∀ (s : State) (e : Fin 4) (rv an : Fin 8) (disp : BitVec 16), s.hw.canIssue e false = true →
    let t := s.hw.eft e
    let a := (t.a[an] + disp.signExtend 32).toNat
    let m := s.hw.mtx
    a < 0x01000000 → a % 4 = 0 → s.hw.on (4 + a / 0x100000) = true → m.retired.contains (a / 0x100000) = false →
    s.hw.caches.dlines = [] → m.out = [] → m.held = [] → m.stalled = [] → m.broken = [] → m.promoted = [] →
    m.waking = [] → m.sleep[a / 0x100000]? = some 0 → s.hw.pwr.filling = [] →
    (m.lock = none → Does (.ldl e rv an 2 0 disp .clean) s
      (({ s.hw.issued e with mtx := { m with lock := some ⟨1, e, a / 0x100000 % 4, some (a / 64), 1, s.hw.cycle⟩ } } : Hw).setEft e
        { t with pc := t.pc + 4#32, pend := some ⟨false, rv, 4, true, a, false, .got (BitVec.ofNat 32 (s.hw.mem32 a)), t.pc, none, false⟩ })) ∧
    (∀ n c, m.lock = some ⟨1, e, a / 0x100000 % 4, some (a / 64), n, c⟩ → n < 8 → Does (.stul e rv an 2 0 disp .clean) s
      ((({ s.hw.issued e with mtx := { m with lock := none } } : Hw).setBytes a (leBytes 4 t.d[rv].toNat)).setEft e
        { t with pc := t.pc + 4#32 })))

/-- A load or store of work memory whose line the data cache holds: it is read and written there, the line is then dirty.
Behind a load that has its data, the next instruction completes it: the loaded value stands over what the instruction
itself wrote to the same register. The CACHE instructions: a line cleaned reaches memory, one made invalid is gone, and the
eft is STALLED behind them. The replacement order of the caches is the model's (log 30). A CACHE instruction acts at once
(log 62). -/
def Obligations.CachedMemory : Prop :=
  -- CachedAccess
  (∀ (s : State) (e : Fin 4) (rv an : Fin 8) (disp : BitVec 16) (i : Nat) (l : DLine), s.hw.canIssue e false = true →
    let t := s.hw.eft e
    let a := (t.a[an] + disp.signExtend 32).toNat
    let c := s.hw.caches
    a < 0x01000000 → a % 4 = 0 → s.hw.uncached a = false → s.hw.lockCovers 1 e a = false → c.find a = some (i, l) → t.fillBad = none →
    let h : Hw := { s.hw.issued e with caches := { (s.hw.issued e).caches with dlru := lruTouch c.dlru i } }
    let new : DLine := ⟨l.base, l.data.take (a % 32) ++ leBytes 4 t.d[rv].toNat ++ l.data.drop (a % 32 + 4), true⟩
    Does (.ld e rv an 2 0 disp .clean) s (h.setEft e
      { t with pc := t.pc + 4#32, pend := some ⟨false, rv, 4, true, a, false, .got (BitVec.ofNat 32 (fieldAt l.data (a % 32) 4)), t.pc, none, false⟩ }) ∧
    Does (.st e rv an 2 0 disp .clean) s
      (({ h with caches := h.caches.put i new } : Hw).setEft e { t with pc := t.pc + 4#32 })) ∧
  -- LoadDelaySlot
  (∀ (s : State) (e : Fin 4) (rd rs rt : Fin 8) (l : PendLoad) (w : Word), l.value = .got w → (s.hw.eft e).pend = some l →
    (s.hw.modEft e (fun t => { t with pend := none })).canIssue e false = true →
    let t := s.hw.eft e
    let x := t.d[rs] ^^^ t.d[rt]
    let d := t.d.set rd x
    Retires (.xorCmd e rd rs rt) s e { t with
      pend := none
      sr := { t.sr with n := x.msb, z := x == 0#32, c := false, v := false }
      d := if l.toA then d else d.set l.reg w
      a := if l.toA then t.a.set l.reg w else t.a }) ∧
  -- CacheInstructions
  (∀ (s : State) (e : Fin 4) (ra : Fin 8) (i : Nat) (l : DLine), s.hw.canIssue e false = true →
    let t := s.hw.eft e
    let a := t.a[ra].toNat
    let c := s.hw.caches
    let h := s.hw.issued e
    let held := { t with pc := t.pc + 4#32, run := .stalled, stall := .cacheOp }
    let leaves := fun (i : Instr) (c : Caches) => Does i s (({ h with caches := c } : Hw).setEft e held)
    (c.find a = some (i, l) → leaves (.cacheInvalidateLine e ra) (h.caches.kill i)) ∧
    (c.find a = some (i, l) → l.dirty = false → leaves (.cacheCleanInvalidateLine e ra) (h.caches.kill i)) ∧
    (c.findI a = some i → leaves (.cacheInvalidateIline e ra)
      { h.caches with ilines := h.caches.ilines.filter (fun p => p.1 != i) }) ∧
    leaves (.cacheInvalidateIcache e) { h.caches with ilines := [] } ∧
    (let m := s.hw.mtx
     let b := l.base
     b < 0x01000000 → b % 32 = 0 → l.data.length = 32 → s.hw.on (4 + b / 0x100000) = true →
     m.retired.contains (b / 0x100000) = false → m.out = [] → m.held = [] → m.stalled = [] → m.broken = [] → m.promoted = [] →
     m.lock = none → m.waking = [] → m.sleep[b / 0x100000]? = some 0 → s.hw.pwr.filling = [] → l.dirty = true →
     let cleaned := ({ h with caches := h.caches.put i { l with dirty := false } } : Hw).setBytes b l.data
     (c.find a = some (i, l) → Does (.cacheCleanLine e ra) s (cleaned.setEft e held) ∧
       Does (.cacheCleanInvalidateLine e ra) s
         (({ cleaned with caches := cleaned.caches.kill i } : Hw).setEft e held)) ∧
     (c.dlines = [(i, l)] → Does (.cacheCleanAll e) s (cleaned.setEft e held))))

/-- BCC, BSR, DBNZ and the jumps: execution goes on at the target behind the next word, the delay slot, which an untaken
branch with annulment makes ineffective. In a delay slot: an instruction has its effect and execution goes on at the
branch's target, in its mode; an annulled one has none; a branch, TRAP or another that must not stand there enters vector
2, with ESR.BD set and EBT the target. The replacement order of the caches is the model's (log 30). -/
def Obligations.BranchesAndSlots : Prop :=
  -- Branches
  (∀ (s : State) (e : Fin 4) (annul link : Bool) (cond : Fin 16) (rd an : Fin 8) (disp : BitVec 21), s.hw.canIssue e false = true →
    let t := s.hw.eft e
    let f := t.sr
    let target := t.pc + BitVec.ofInt 32 (4 * disp.toInt)
    let past := t.pc + 8#32
    let holds := [f.z, !f.z, f.c, !f.c, f.n, !f.n, f.v, !f.v, !f.c && !f.z, f.c || f.z, f.n == f.v, f.n != f.v,
      !f.z && (f.n == f.v), f.z || (f.n != f.v), true].getD cond false
    let v := t.d[rd] - 1#32
    (cond ≠ 15 → Retires (.bcc e annul cond disp) s e
      { t with slot := some ⟨if holds then target else past, false, annul && !holds⟩ }) ∧
    Retires (.bsr e false 0 disp) s e { t with a := t.a.set 6 past, slot := some ⟨target, false, false⟩ } ∧
    Retires (.dbnz e annul rd disp) s e
      { t with d := t.d.set rd v, slot := some ⟨if v ≠ 0#32 then target else past, false, annul && v == 0#32⟩ } ∧
    (t.a[an].toNat % 4 = 0 →
      Retires (.jmpA e link an) s e
        { t with a := if link then t.a.set 6 past else t.a, slot := some ⟨t.a[an], false, false⟩ } ∧
      Retires (.jmpT e link an) s e
        { t with a := if link then t.a.set 6 past else t.a, slot := some ⟨t.a[an], true, false⟩ }) ∧
    (f.exl = false →
      Does (.bcc e annul 15 disp) s ((s.hw.issued e).enters e 1 t.pc none) ∧
      (annul = true ∨ cond ≠ 0 → Does (.bsr e annul cond disp) s ((s.hw.issued e).enters e 1 t.pc none)) ∧
      (t.a[an].toNat % 4 ≠ 0 → Does (.jmpA e link an) s ((s.hw.issued e).enters e 6 t.pc (some t.a[an])) ∧
        Does (.jmpT e link an) s ((s.hw.issued e).enters e 6 t.pc (some t.a[an]))))) ∧
  -- DelaySlots
  (∀ (s : State) (e : Fin 4) (rd rs rt : Fin 8) (target : Word) (m annulled : Bool) (n : Fin 256) (disp : BitVec 21),
    (s.hw.eft e).slot = some ⟨target, m, annulled⟩ →
    (s.hw.modEft e (fun t => { t with slot := none })).canIssue e false = true →
    let t := s.hw.eft e
    let v := t.d[rs] ||| t.d[rt]
    let on := fun (t : Eft) => { t with pc := target, slot := none, sr := { t.sr with mode := m } }
    (annulled = false → Does (.orCmd e rd rs rt) s ((s.hw.issued e).setEft e (on { t with
      d := t.d.set rd v, sr := { t.sr with n := v.msb, z := v == 0#32, c := false, v := false } }))) ∧
    (annulled = true → Does (.orCmd e rd rs rt) s
      (({ s.hw.wr F.EFT_AWSTAT_LEN 0 with awArmed := false } : Hw).setEft e (on t))) ∧
    (annulled = false → t.sr.exl = false →
      let slotErr := (s.hw.issued e).enters e 2 t.pc none
      let after := slotErr.modEft e (fun u => { u with ebt := target, esr := u.esr ||| 0x400#32, slot := none })
      Does (.trap e n) s after ∧ Does (.bcc e false 14 disp) s after ∧ Does (.brk e) s after ∧ Does (.rte e) s after ∧
      Does (.wait e rd rs) s after))

/-- NOP, SYNC, EI, DI and the moves of SR and of the exception registers. A block's request routed to a flag sets it; a bus
write of FLAGSET sets the flags of its word; a stall that is over lets its eft go on. The replacement order of the caches
is the model's (log 30). -/
def Obligations.SystemRegisterMoves : Prop :=
  -- SystemRegisters
  (∀ (s : State) (e : Fin 4) (rd rs : Fin 8) (sel : Fin 4), s.hw.canIssue e false = true →
    let t := s.hw.eft e
    let f := t.sr
    let w := t.d[rs]
    let word := b2n f.c + 2 * b2n f.v + 4 * b2n f.z + 8 * b2n f.n + 16 * b2n f.av0 + 32 * b2n f.av1 + 256 * b2n f.ie
      + 512 * b2n f.exl + 65536 * e.val
    Retires (.nop e) s e t ∧ Retires (.sync e) s e t ∧
    Retires (.ei e) s e { t with sr := { f with ie := true } } ∧ Retires (.di e) s e { t with sr := { f with ie := false } } ∧
    Retires (.mfsr e rd) s e { t with d := t.d.set rd (BitVec.ofNat 32 word) } ∧
    Retires (.mtsr e rs) s e { t with sr := { f with
      c := w.getLsbD 0, v := w.getLsbD 1, z := w.getLsbD 2, n := w.getLsbD 3, av0 := w.getLsbD 4, av1 := w.getLsbD 5
      ie := w.getLsbD 8 } } ∧
    Retires (.mfx e rd sel) s e { t with d := t.d.set rd ([t.epc, t.esr, t.ebt, t.efa].getD sel 0#32) } ∧
    Retires (.mtx e rs 0) s e { t with epc := w } ∧ Retires (.mtx e rs 1) s e { t with esr := w } ∧
    Retires (.mtx e rs 2) s e { t with ebt := w } ∧ Retires (.mtx e rs 3) s e { t with efa := w }) ∧
  -- FlagSources
  (∀ (s : State) (b : Fin 23) (m : Fin 12) (v : Word) (e : Fin 4),
    (s.hw.on 2 = true → s.hw.irq (blockBase b) = true → s.hw.rdB F.EFT_IRQROUTE_FEN b = true →
      Does (.blockIrqRise b) s (s.hw.wr F.EFT_FLAGS_FLAGS (s.hw.rd F.EFT_FLAGS_FLAGS ||| 2 ^ s.hw.rd F.EFT_IRQROUTE_FLAG b))) ∧
    (s.hw.on 2 = true → s.hw.reaches m = true → ∃ h, Does (.eftFlagsetWrite m v) s h ∧ h.flags = s.hw.flags ||| v.toNat) ∧
    (let t := s.hw.eft e
     t.run = .stalled → t.late = none → t.out = [] → t.stall = .cacheOp →
       Does (.eftStallEnd e) s (s.hw.setEft e { t with run := .ready })))

/-- SIGNAL sets flags, POLL and WAIT take those of their mask: the register tells which, and they are cleared; WAIT without
one waits. WAIT_RELEASE gives a set flag to the waiting eft of the lowest number whose mask has it: that eft takes it, the
flag is cleared, and the eft goes on behind its WAIT. The all-wait detector fires: every eft that is not STOPPED waits, no
source is armed. With a target, eft `e` enters vector 10, else the notice and the recovery record are given, once an
episode. The replacement order of the caches is the model's (log 30). -/
def Obligations.EventsAndAllWait : Prop :=
  -- EventFlags
  (∀ (s : State) (e : Fin 4) (rd rs : Fin 8) (f : Fin 256), s.hw.canIssue e false = true →
    let t := s.hw.eft e
    let mask := t.d[rs]
    let h := s.hw.issued e
    let got := h.rd F.EFT_FLAGS_FLAGS &&& mask.toNat
    let left := h.rd F.EFT_FLAGS_FLAGS &&& (got ^^^ 0xFFFFFFFF)
    (f.val ≤ 31 → Does (.signal e f) s
      ((h.wr F.EFT_FLAGS_FLAGS (h.rd F.EFT_FLAGS_FLAGS ||| 2 ^ f.val)).setEft e t.onward)) ∧
    (31 < f.val → t.sr.exl = false → Does (.signal e f) s (h.enters e 1 t.pc none)) ∧
    Does (.signalD e rs) s ((h.wr F.EFT_FLAGS_FLAGS (h.rd F.EFT_FLAGS_FLAGS ||| mask.toNat)).setEft e t.onward) ∧
    Does (.poll e rd rs) s ((h.wr F.EFT_FLAGS_FLAGS left).setEft e { t with
      pc := t.pc + 4#32, d := t.d.set rd (BitVec.ofNat 32 got), sr := { t.sr with z := BitVec.ofNat 32 got == 0#32 } }) ∧
    (got ≠ 0 → Does (.wait e rd rs) s ((h.wr F.EFT_FLAGS_FLAGS left).setEft e
      { t with pc := t.pc + 4#32, d := t.d.set rd (BitVec.ofNat 32 got) })) ∧
    (got = 0 → Does (.wait e rd rs) s (h.setEft e { t with run := .waiting, wmask := mask, waitTo := .d rd }))) ∧
  -- WaitRelease
  (∀ (s : State) (e : Fin 4) (rd : Fin 8), let t := s.hw.eft e
    let flags := s.hw.rd F.EFT_FLAGS_FLAGS
    let got := flags &&& t.wmask.toNat
    t.run = .waiting → t.waitTo = .d rd → t.sr.mode = false → t.pend = none → t.slot = none → t.out = [] → got ≠ 0 →
    (∀ k : Fin 4, k ≠ e → (s.hw.eft k).run = .stopped ∧ (s.hw.eft k).out = []) →
    Does .waitRelease s (({ (s.hw.wr F.EFT_FLAGS_FLAGS (flags &&& (got ^^^ 0xFFFFFFFF))).wr F.EFT_AWSTAT_LEN 0 with
      awArmed := false } : Hw).setEft e
      { t with run := .ready, wmask := 0#32, pc := t.pc + 4#32, d := t.d.set rd (BitVec.ofNat 32 got) })) ∧
  -- AllWait
  (∀ (s : State) (e : Fin 4), let t := s.hw.eft e
    t.run = .waiting → t.slot = none → t.pend = none → t.late = none → t.fly = [] → t.sr.exl = false → t.sr.ie = false →
    s.hw.rd F.EFT_FLAGS_FLAGS = 0 → t.storeErrs = [] → (∀ k : Fin 4, k ≠ e → (s.hw.eft k).run = .stopped) →
    (∀ b, b < 23 → s.hw.rdB F.EFT_IRQROUTE_FEN b = false) →
    (bit (s.hw.rd F.EFT_AWEN_EN) e = true → Does .allwaitFire s
      (((((({ s.hw with efts := s.hw.efts } : Hw).enters e 10 t.pc none).modEft e (fun u => { u with run := .ready })).raiseBit bEFT 0).inc
        F.EFT_AWSTAT_COUNT).wr F.EFT_AWSTAT_TARGET e |>.wr F.EFT_AWSTAT_LEN 0)) ∧
    (bit (s.hw.rd F.EFT_AWEN_EN) e = false → s.hw.awArmed = false → Does .allwaitFire s
      (({ (s.hw.raiseBit bEFT 1).notice 5 0 0 with awArmed := true } : Hw).recover 5 0xFF (2 ^ e.val) 0 0 0)))

/-- TRAP, BRK, an undefined word and a fetch from outside executable memory enter their vectors; RTE restores SR from ESR
and goes on at EPC. At a boundary an eft takes an interrupt, a store's error response, or its place in an all-wait: vector
11, 5 or 10. While EXL is 1, a synchronous exception is a double fault: the eft halts, EFT_EVT.DFAULT sets, a recovery
record of kind 4 is written. A fetch from an address that is not executable raises IBUS, one from a page of the other mode
FETCH. The replacement order of the caches is the model's (log 30). EBT outside a delay slot is the model's reading (log
62). -/
def Obligations.Exceptions : Prop :=
  -- ExceptionsAndReturn
  (∀ (s : State) (e : Fin 4) (n : Fin 256), s.hw.canIssue e false = true →
    let t := s.hw.eft e
    let h := s.hw.issued e
    let w := t.esr
    (t.sr.exl = false →
      Does (.trap e n) s (h.enters e 7 (t.pc + 4#32) (some (BitVec.ofNat 32 n.val))) ∧
      Does (.brk e) s (h.enters e 8 t.pc none) ∧ Does (.undefinedInstruction e) s (h.enters e 1 t.pc none)) ∧
    Does (.rte e) s (h.setEft e { t with
      pc := t.epc
      slot := if w.getLsbD 10 then some ⟨t.ebt, w.getLsbD 12, false⟩ else none
      sr := ⟨w.getLsbD 0, w.getLsbD 1, w.getLsbD 2, w.getLsbD 3, w.getLsbD 4, w.getLsbD 5, w.getLsbD 8, w.getLsbD 9,
        w.getLsbD 12⟩ })) ∧
  -- AsynchronousExceptions
  (∀ (s : State) (e : Fin 4) (a : Word) (rest : List Word), let t := s.hw.eft e
    t.run = .ready → t.slot = none → t.pend = none → t.late = none → t.fly = [] → t.out = [] → t.sr.exl = false →
    (t.sr.ie = true → s.hw.irqPend e ≠ 0 → t.storeErrs = [] → Does (.interruptEntry e) s (s.hw.enters e 11 t.pc none)) ∧
    (t.storeErrs = a :: rest → Does (.storeErrorDbus e) s
      (((s.hw.modEft e (fun t => { t with storeErrs := rest })).enters e 5 t.pc (some a)).raiseBit bEFT 3))) ∧
  -- DoubleFault
  (∀ (s : State) (e : Fin 4), s.hw.canIssue e false = true → (s.hw.eft e).sr.exl = true →
    let t := s.hw.eft e
    Does (.brk e) s ((((s.hw.issued e).setEft e { t with run := .halted }).raiseBit bEFT 2).recover 4 0xFF e 8 t.pc.toNat 0)) ∧
  -- RefusedFetch
  (∀ (s : State) (e : Fin 4), let t := s.hw.eft e
    let a := t.pc.toNat
    let h : Hw := { s.hw.wr F.EFT_AWSTAT_LEN 0 with awArmed := false }
    t.run = .ready → t.slot = none → t.pend = none → t.late = none → t.out = [] → t.fly = [] → t.sr.exl = false →
    (executable a = false → Does (.instructionFetchRefused e) s (h.enters e 4 t.pc (some t.pc))) ∧
    (executable a = true → s.hw.uncached a = false → (s.hw.caches.findI a).isSome → s.hw.pageMode a ≠ t.sr.mode →
      Does (.instructionFetchRefused e) s (h.enters e 3 t.pc (some t.pc))))

/-- The ALU triggers: result and flags of O operation v, v the source's value, O the operand O.ALU; CMP and TST leave the
result. The shift triggers: O.SHF shifted by the low five bits of the source's value. The multiply triggers: the exact
value, clamped to 48 bits, stands in the accumulator from the word after the next on; a clamp sets AVn at once. The
replacement order of the caches is the model's (log 30). -/
def Obligations.TModeDataTriggers : Prop :=
  -- TModeAlu
  (∀ (s : State) (e : Fin 4) (src : Fin 256), s.hw.canIssue e true = true → canRead src = true → resSlot src = none →
    let t := s.hw.eft e
    let v := t.readPort e 0x1F1F#16 src
    let o := t.bank.alu
    let k := b2n t.sr.c
    let flags := fun (r : Word) (c ov : Bool) => { t.sr with n := r.msb, z := r == 0#32, c := c, v := ov }
    let gives := fun (i : Fin 4 → Fin 256 → BitVec 16 → Instr) (r : Word) (c ov : Bool) => Retires (i e src 0x1F1F#16) s e
      { t.modBank (fun b => { b with aluR := r }) with sr := flags r c ov }
    let tests := fun (i : Fin 4 → Fin 256 → BitVec 16 → Instr) (r : Word) (c ov : Bool) =>
      Retires (i e src 0x1F1F#16) s e { t with sr := flags r c ov }
    let less := decide (o.toNat < v.toNat)
    gives .tAdd (o + v) (decide (2 ^ 32 ≤ o.toNat + v.toNat)) (overflows (o + v) (o.toInt + v.toInt)) ∧
    gives .tAddc (o + v + BitVec.ofNat 32 k) (decide (2 ^ 32 ≤ o.toNat + v.toNat + k))
      (overflows (o + v + BitVec.ofNat 32 k) (o.toInt + v.toInt + (k : Int))) ∧
    gives .tSub (o - v) less (overflows (o - v) (o.toInt - v.toInt)) ∧
    gives .tSubb (o - v - BitVec.ofNat 32 k) (decide (o.toNat < v.toNat + k))
      (overflows (o - v - BitVec.ofNat 32 k) (o.toInt - v.toInt - (k : Int))) ∧
    gives .tAnd (o &&& v) false false ∧ gives .tOr (o ||| v) false false ∧ gives .tXor (o ^^^ v) false false ∧
    gives .tMin (if o.toInt ≤ v.toInt then o else v) t.sr.c t.sr.v ∧
    gives .tMax (if o.toInt ≤ v.toInt then v else o) t.sr.c t.sr.v ∧
    tests .tCmp (o - v) less (overflows (o - v) (o.toInt - v.toInt)) ∧ tests .tTst (o &&& v) false false) ∧
  -- TModeShifts
  (∀ (s : State) (e : Fin 4) (src : Fin 256), s.hw.canIssue e true = true → canRead src = true → resSlot src = none →
    let t := s.hw.eft e
    let x := t.bank.shf
    let n := (t.readPort e 0x1F1F#16 src).toNat % 32
    let gives := fun (i : Fin 4 → Fin 256 → BitVec 16 → Instr) (r : Word) (c : Bool) => Retires (i e src 0x1F1F#16) s e
      { t.modBank (fun b => { b with shfR := r }) with
        sr := { t.sr with n := r.msb, z := r == 0#32, c := decide (n ≠ 0) && c, v := false } }
    gives .tShl (x <<< n) (x.getLsbD (32 - n)) ∧ gives .tShr (x >>> n) (x.getLsbD (n - 1)) ∧
    gives .tSar (x.sshiftRight n) (x.getLsbD (n - 1)) ∧ gives .tRor (x.rotateRight n) (x.rotateRight n).msb) ∧
  -- TModeMultiply
  (∀ (s : State) (e : Fin 4) (n : Fin 2) (src : Fin 256), s.hw.canIssue e true = true → canRead src = true → resSlot src = none →
    let t := s.hw.eft e
    let v := t.readPort e 0x1F1F#16 src
    let o := t.bank.mul
    let a := t.acc[n].toInt
    let h := (o.setWidth 16).toInt * (v.setWidth 16).toInt
    let w := (o.toInt * v.toInt) / 65536
    let gives := fun (i : Fin 4 → Fin 2 → Fin 256 → BitVec 16 → Instr) (x : Int) =>
      let c := if x < -(2 ^ 47) then -(2 ^ 47) else if 2 ^ 47 ≤ x then 2 ^ 47 - 1 else x
      Retires (i e n src 0x1F1F#16) s e { t with
        fly := [⟨.acc n, BitVec.ofInt 48 c, 1⟩]
        sr := { t.sr with av0 := t.sr.av0 || (n == 0 && c != x), av1 := t.sr.av1 || (n == 1 && c != x) } }
    gives .tMulH h ∧ gives .tMacH (a + h) ∧ gives .tMsuH (a - h) ∧ gives .tMulW w ∧ gives .tMacW (a + w) ∧ gives .tMsuW (a - w))

/-- Loads and stores of the local RAM: at O.LSUB plus the source's value; a load's result stands in R.LSU from the word
after the next on, a store writes O.LSUD. The replacement order of the caches is the model's (log 30). -/
def Obligations.TModeMemoryTriggers : Prop :=
  ∀ (s : State) (e : Fin 4) (src : Fin 256) (kind : Fin 5) (store : Fin 3) (key : Nat), s.hw.canIssue e true = true →
    canRead src = true → resSlot src = none →
    let t := s.hw.eft e
    let a := (t.bank.lsuB + t.readPort e 0x1F1F#16 src).toNat
    let w : Nat := [4, 2, 2, 1, 1].getD kind 1
    let n : Nat := s.hw.mem32 key w
    let signed := kind.val ≠ 2 ∧ kind.val ≠ 4
    let x : Int := if signed ∧ 2 ^ (8 * w - 1) ≤ n then (n : Int) - 2 ^ (8 * w) else n
    let ws : Nat := [4, 2, 1].getD store 1
    t.wordData = none → t.fillBad = none → lramKey e a = some key →
    (a % w = 0 → Retires (.tLoad e kind src 0x1F1F#16 .clean) s e
      { t with fly := [⟨.lsu t.sr.exl, (BitVec.ofInt 32 x).setWidth 48, 1⟩] }) ∧
    (a % ws = 0 → Does (.tStore e store src 0x1F1F#16 .clean) s
      (((s.hw.issued e).setBytes key (leBytes ws t.bank.lsuD.toNat)).setEft e t.onward)) ∧
    (a % w ≠ 0 → t.sr.exl = false → Does (.tLoad e kind src 0x1F1F#16 .clean) s
      ((s.hw.issued e).enters e 6 t.pc (some (BitVec.ofNat 32 a)))) ∧
    (a % ws ≠ 0 → t.sr.exl = false → Does (.tStore e store src 0x1F1F#16 .clean) s
      ((s.hw.issued e).enters e 6 t.pc (some (BitVec.ofNat 32 a))))

/-- The branch triggers: relative ones from the word's address, each with one delay word; JSR leaves the return address in
A6. The replacement order of the caches is the model's (log 30). -/
def Obligations.TModeBranchTriggers : Prop :=
  ∀ (s : State) (e : Fin 4) (src : Fin 256), s.hw.canIssue e true = true → canRead src = true → resSlot src = none →
    let t := s.hw.eft e
    let f := t.sr
    let v := t.readPort e 0x1F1F#16 src
    let rel := t.pc + (v <<< 2)
    let past := t.pc + 8#32
    let cond := t.bank.brC.toNat % 16
    let holds := [f.z, !f.z, f.c, !f.c, f.n, !f.n, f.v, !f.v, !f.c && !f.z, f.c || f.z, f.n == f.v, f.n != f.v,
      !f.z && (f.n == f.v), f.z || (f.n != f.v), true].getD cond false
    let leaps := fun (u : Eft) (target : Word) (m : Bool) => { u with slot := some (Slot.mk target m false) }
    (t.pc.toNat % 4 = 0 →
      Retires (.tBra e src 0x1F1F#16) s e (leaps t rel true) ∧
      (cond ≠ 15 → Retires (.tBrc e src 0x1F1F#16) s e (leaps t (if holds then rel else past) true))) ∧
    (v.toNat % 4 = 0 →
      Retires (.tJmpt e src 0x1F1F#16) s e (leaps t v true) ∧ Retires (.tJmpa e src 0x1F1F#16) s e (leaps t v false) ∧
      Retires (.tJsrt e src 0x1F1F#16) s e (leaps { t with a := t.a.set 6 past } v true) ∧
      Retires (.tJsra e src 0x1F1F#16) s e (leaps { t with a := t.a.set 6 past } v false)) ∧
    (f.exl = false → cond = 15 → Does (.tBrc e src 0x1F1F#16) s ((s.hw.issued e).enters e 1 t.pc none)) ∧
    (f.exl = false → v.toNat % 4 ≠ 0 → Does (.tJmpa e src 0x1F1F#16) s ((s.hw.issued e).enters e 6 t.pc (some v)))

/-- The event, system and cache triggers. The replacement order of the caches is the model's (log 30). -/
def Obligations.TModeSystemTriggers : Prop :=
  ∀ (s : State) (e : Fin 4) (src : Fin 256), s.hw.canIssue e true = true → canRead src = true → resSlot src = none →
    let t := s.hw.eft e
    let h := s.hw.issued e
    let v := t.readPort e 0x1F1F#16 src
    let flags := h.rd F.EFT_FLAGS_FLAGS
    let got := flags &&& v.toNat
    let taken := h.wr F.EFT_FLAGS_FLAGS (flags &&& (got ^^^ 0xFFFFFFFF))
    let r := t.modBank (fun b => { b with evR := BitVec.ofNat 32 got })
    let w := t.esr
    let held := { t with pc := t.pc + 4#32, run := .stalled, stall := .cacheOp }
    (got ≠ 0 → Does (.tEvWait e src 0x1F1F#16) s (taken.setEft e r.onward)) ∧
    (got = 0 → Does (.tEvWait e src 0x1F1F#16) s (h.setEft e { t with run := .waiting, wmask := v, waitTo := .evR })) ∧
    Does (.tEvPoll e src 0x1F1F#16) s (taken.setEft e
      { r with pc := t.pc + 4#32, sr := { t.sr with z := BitVec.ofNat 32 got == 0#32 } }) ∧
    Does (.tEvSig e src 0x1F1F#16) s ((h.wr F.EFT_FLAGS_FLAGS (flags ||| v.toNat)).setEft e t.onward) ∧
    Retires (.tSync e src 0x1F1F#16) s e t ∧
    (t.sr.exl = false →
      Does (.tTrap e src 0x1F1F#16) s (h.enters e 7 (t.pc + 4#32) (some (BitVec.ofNat 32 (v.toNat % 256)))) ∧
      Does (.tBrk e src 0x1F1F#16) s (h.enters e 8 t.pc none) ∧
      (5 < v.toNat → Does (.tCache e src 0x1F1F#16) s (h.enters e 1 t.pc none))) ∧
    Does (.tRte e src 0x1F1F#16) s (h.setEft e { t with
      pc := t.epc
      slot := if w.getLsbD 10 then some ⟨t.ebt, w.getLsbD 12, false⟩ else none
      sr := ⟨w.getLsbD 0, w.getLsbD 1, w.getLsbD 2, w.getLsbD 3, w.getLsbD 4, w.getLsbD 5, w.getLsbD 8, w.getLsbD 9,
        w.getLsbD 12⟩ }) ∧
    (v = 5#32 → Does (.tCache e src 0x1F1F#16) s
      (({ h with caches := { h.caches with ilines := [] } } : Hw).setEft e held)) ∧
    (∀ i l, v = 1#32 → s.hw.caches.find t.bank.cacheA.toNat = some (i, l) → Does (.tCache e src 0x1F1F#16) s
      (({ h with caches := h.caches.kill i } : Hw).setEft e held))

/-- A word of two moves between D and A registers: both sources are read before either destination is written. A
destination that both name, a port that cannot be read or written, and two triggers of one unit make the word ILLEGAL. A
result in flight for one more word is in place when that word ends. The replacement order of the caches is the model's (log
30). -/
def Obligations.TModeWords : Prop :=
  -- TModeMoves
  (∀ (s : State) (e : Fin 4) (p q x y : Fin 16) (word : Word) (ecc : Ecc), s.hw.canIssue e true = true →
    let t := s.hw.eft e
    let m0 := p.val * 256 + x.val
    let m1 := q.val * 256 + y.val
    let port := fun (k : Nat) => (t.d.toList ++ t.a.toList).getD k 0#32
    let put := fun (r : Vector Word 8 × Vector Word 8) (k : Nat) (v : Word) =>
      if k < 8 then (r.1.setIfInBounds k v, r.2) else (r.1, r.2.setIfInBounds (k - 8) v)
    let r := put (put (t.d, t.a) p (port x)) q (port y)
    (p ≠ q → Retires (.tmodeWord e (BitVec.ofNat 32 (m1 * 65536 + m0)) ecc) s e { t with d := r.1, a := r.2 }) ∧
    (t.sr.exl = false →
      Does (.tmodeWord e (BitVec.ofNat 32 ((p.val * 256 + y.val) * 65536 + m0)) ecc) s ((s.hw.issued e).enters e 1 t.pc none) ∧
      ((canRead (word.toNat % 256) = false ∨ canWrite (word.toNat / 256 % 256) = false) →
        Does (.tmodeWord e word ecc) s ((s.hw.issued e).enters e 1 t.pc none)) ∧
      (∀ d0 d1 : Nat, 0x21 ≤ d0 → d0 ≤ 0x2C → 0x21 ≤ d1 → d1 ≤ 0x2C → d0 ≠ 0x2A → d1 ≠ 0x2A →
        Does (.tmodeWord e (BitVec.ofNat 32 ((d1 * 256 + y.val) * 65536 + d0 * 256 + x.val)) ecc) s
          ((s.hw.issued e).enters e 1 t.pc none)))) ∧
  -- TModeLanding
  (∀ (s : State) (e : Fin 4) (n : Fin 2) (b : Bool) (v : BitVec 48) (ecc : Ecc),
    (s.hw.modEft e (fun t => { t with fly := [] })).canIssue e true = true →
    let t := s.hw.eft e
    let idle := Instr.tmodeWord e 0x1F1F1F1F#32 ecc
    (t.fly = [⟨.acc n, v, 1⟩] → Retires idle s e { t with fly := [], acc := t.acc.set n v }) ∧
    (t.fly = [⟨.lsu b, v, 1⟩] → Retires idle s e { t with
      fly := []
      bank0 := if b then t.bank0 else { t.bank0 with lsuR := v.setWidth 32 }
      bank1 := if b then { t.bank1 with lsuR := v.setWidth 32 } else t.bank1 }) ∧
    (t.fly = [⟨.acc n, v, 2⟩] → Retires idle s e { t with fly := [⟨.acc n, v, 1⟩] }))

/-- COP to an on-chip slot: the command goes to the slot and an entry into the eft's queue; a refused one raises COP with
its cause, a full queue of commands not complete stalls. COPR and COPR.P take the next result word of the oldest entry, the
entry with its last one; without a word COPR waits and COPR.P sets Z; with nothing to come COPR raises COP, cause 3.
COP_RESULT_READY gives the words to the entry; the response time-out of a remote slot fails its entry, cause 5. Cs.CMD and
a read of Cs.RES in T-mode: the command of O.CsA and O.CsB goes to the slot; the next result word to the destination, here
a D register. The replacement order of the caches is the model's (log 30). -/
def Obligations.CoprocessorQueues : Prop :=
  -- CopIssue
  (∀ (s : State) (e : Fin 4) (slot : Fin 8) (op : Fin 256) (rs rt : Fin 8), s.hw.canIssue e false = true → slot.val < 4 →
    let t := s.hw.eft e
    let h := s.hw.issued e
    let c := h.cop
    let a := t.d[rs]
    let b := t.d[rt]
    let q := s.hw.copQueue e slot
    let i := Instr.cop e slot op rs rt
    (∀ x ∈ q, x.fail = none) →
    (∀ k, h.copRefusal slot op a b = some k → t.sr.exl = false →
      Does i s (h.enters e 9 t.pc (some (BitVec.ofNat 32 (op.val * 65536 + slot.val * 256 + k))))) ∧
    (h.copRefusal slot op a b = none → q.length < 4 → Does i s
      (({ h with cop := { c with
        queues := c.queues.modify (8 * e.val + slot.val) (fun q => q ++ [⟨c.next, op, 0, false, [], none⟩])
        slots := c.slots.modify slot (fun l => l ++ [⟨.eft e c.next, op, a, b⟩])
        next := c.next + 1 } } : Hw).setEft e t.onward)) ∧
    (h.copRefusal slot op a b = none → 4 ≤ q.length → (∃ x ∈ q, x.done = false) →
      Does i s (h.setEft e { t with run := .stalled, stall := .copIssue slot }))) ∧
  -- CopRead
  (∀ (s : State) (e : Fin 4) (rd slot : Fin 8) (n op tag : Nat) (w : Word) (ws : List Word) (rest : List CopEntry),
    s.hw.canIssue e false = true →
    let t := s.hw.eft e
    let h := s.hw.issued e
    let c := h.cop
    let q := c.queues.getD (8 * e.val + slot.val) []
    let read := (h.modQueue e slot (fun _ => if ws = [] then rest else ⟨n, op, tag, true, ws, none⟩ :: rest)).setEft e
    (8 * e.val + slot.val < c.queues.length → (∀ x ∈ rest, x.fail = none ∧ x.entry ≠ n) → q = ⟨n, op, tag, true, w :: ws, none⟩ :: rest →
      Does (.copr e rd slot) s (read { t with pc := t.pc + 4#32, d := t.d.set rd w }) ∧
      Does (.coprP e rd slot) s (read { t with pc := t.pc + 4#32, d := t.d.set rd w, sr := { t.sr with z := false } })) ∧
    ((∀ x ∈ rest, x.fail = none) → q = ⟨n, 2, tag, false, [], none⟩ :: rest → slot = 2 →
      Does (.copr e rd slot) s (h.setEft e { t with run := .stalled, stall := .copRead slot }) ∧
      Does (.coprP e rd slot) s (h.setEft e { t with pc := t.pc + 4#32, sr := { t.sr with z := true } })) ∧
    (q = [] → t.sr.exl = false →
      Does (.copr e rd slot) s (h.enters e 9 t.pc (some (BitVec.ofNat 32 (slot.val * 256 + 3)))))) ∧
  -- CopCompletion
  (∀ (s : State) (slot e place f : Fin 4) (c : CopCmd) (ws : List Word) (n : Nat) (x : CopEntry),
    let r := { s.hw.cop with results := s.hw.cop.results.set slot [] }
    (s.hw.cop.results[slot.val]? = some [(c, ws)] → c.src = .eft f n → ws ≠ [] → Does (.copResultReady slot) s
      ({ s.hw with cop := { r with queues := r.queues.modify (8 * f.val + slot.val) (fun q =>
        q.map (fun t => if t.entry = n then { t with done := true, words := ws } else t)) } } : Hw)) ∧
    (s.hw.cop.results[slot.val]? = some [(c, [])] → c.src = .eft f n → Does (.copResultReady slot) s
      ({ s.hw with cop := { r with queues := r.queues.modify (8 * f.val + slot.val) (fun q =>
        q.filter (fun t => t.entry ≠ n)) } } : Hw)) ∧
    ((s.hw.copQueue e (4 + slot.val))[place.val]? = some x → s.hw.rd (copCfg (4 + slot.val) 31 16) ≠ 0 → x.done = false →
      x.fail = none → ∃ h, Does (.copRemoteTimeout slot e place) s h ∧
        h.cop.queues = s.hw.cop.queues.modify (8 * e.val + (4 + slot.val)) (fun q =>
          q.map (fun t => if !t.done && t.fail.isNone && decide (t.entry = x.entry) then { t with fail := some (5, 0) } else t)) ∧
        h = { s.hw with cop := h.cop, brg := h.brg })) ∧
  -- TModeCop
  (∀ (s : State) (e : Fin 4) (src : Fin 256) (slot rd : Fin 8) (n op : Nat) (w : Word), s.hw.canIssue e true = true →
    canRead src = true → resSlot src = none → slot.val < 4 →
    let t := s.hw.eft e
    let h := s.hw.issued e
    let c := h.cop
    let v := (t.readPort e 0x1F1F#16 src).toNat
    let q := s.hw.copQueue e slot
    let a := t.bank.opA[slot]
    let b := t.bank.opB[slot]
    ((∀ k < 8, ∀ x ∈ s.hw.copQueue e k, x.fail = none) → q.length < 4 → v < 256 → h.copRefusal slot v a b = none →
      Does (.tCsCmd e slot src 0x1F1F#16) s
        (({ h with cop := { c with
          queues := c.queues.modify (8 * e.val + slot.val) (fun q => q ++ [⟨c.next, v, 0, false, [], none⟩])
          slots := c.slots.modify slot (fun l => l ++ [⟨.eft e c.next, v, a, b⟩])
          next := c.next + 1 } } : Hw).setEft e t.onward)) ∧
    (q = [⟨n, op, 0, true, [w], none⟩] →
      Does (.tCsResRead e slot (Fin.ofNat 256 rd.val) 0x1F1F#16) s
        ((h.modQueue e slot (fun _ => [])).setEft e { t with pc := t.pc + 4#32, d := t.d.set rd w })) ∧
    (q = [] → t.sr.exl = false → Does (.tCsResRead e slot (Fin.ofNat 256 rd.val) 0x1F1F#16) s
      (h.enters e 9 t.pc (some (BitVec.ofNat 32 (slot.val * 256 + 3))))))

/-- The math unit (slot 2): quotients truncate toward zero, a zero divisor and an overflow saturate, roots and reciprocals
of Q16.16 numbers round down and toward zero; ARITH tells of each saturation. SINCOS and ATAN2 complete within their
bounds, whatever the free value: 4 units of 2^-30 around the sine and the cosine (`sin64`, in units of 2^-64), 4 units of
2^-32 of a turn around the angle (`atan64`). ATAN2(0, 0) is 0. RECIP truncates toward zero (log 17); the value within a
bound is free (log 1); the command is taken and done in one row (log 18). -/
def Obligations.MathSlot : Prop :=
  -- MathUnit
  (∀ (s : State) (c : CopCmd) (rest : List CopCmd), s.hw.slotFront 2 c rest →
    let a := c.a
    let b := c.b
    let takes := fun (i : Instr) (op : Nat) (arith : Bool) (ws : List Word) => c.op = op →
      Does i s ((if arith then s.hw.wr F.EFT_COPSTAT2_ARITH 1 else s.hw).slotDone 2 rest c ws)
    let sat := fun (i : Instr) (op : Nat) (x : Int) =>
      let y := if x < -(2 ^ 31) then -(2 ^ 31) else if 2 ^ 31 ≤ x then 2 ^ 31 - 1 else x
      takes i op (decide (y ≠ x)) [BitVec.ofInt 32 y]
    (b = 0#32 → takes .div 1 true [if a.toInt < 0 then 0x80000000#32 else 0x7FFFFFFF#32, a] ∧
      takes .divu 2 true [0xFFFFFFFF#32, a]) ∧
    (a = 0x80000000#32 → b = 0xFFFFFFFF#32 → takes .div 1 true [0x7FFFFFFF#32, 0#32]) ∧
    (b ≠ 0#32 → ¬(a = 0x80000000#32 ∧ b = 0xFFFFFFFF#32) →
      takes .div 1 false [BitVec.ofInt 32 (a.toInt.tdiv b.toInt), BitVec.ofInt 32 (a.toInt.tmod b.toInt)]) ∧
    (b ≠ 0#32 → takes .divu 2 false [BitVec.ofNat 32 (a.toNat / b.toNat), BitVec.ofNat 32 (a.toNat % b.toNat)]) ∧
    (∀ r : Nat, r * r ≤ a.toNat * 65536 → a.toNat * 65536 < (r + 1) * (r + 1) → takes .sqrt 3 false [BitVec.ofNat 32 r]) ∧
    (a = 0#32 → takes .recip 6 true [0x7FFFFFFF#32]) ∧ (a ≠ 0#32 → sat .recip 6 ((2 ^ 32 : Int).tdiv a.toInt)) ∧
    sat .sadd 7 (a.toInt + b.toInt) ∧ sat .ssub 8 (a.toInt - b.toInt) ∧ sat .smul 9 (a.toInt * b.toInt / 65536)) ∧
  -- Trigonometry
  (∀ (s : State) (c : CopCmd) (rest : List CopCmd), s.hw.slotFront 2 c rest →
    let near := fun (k : Nat) (x y : Int) => (x * 2 ^ k - y).natAbs ≤ 4 * 2 ^ k
    (c.op = 4 → ∃ x y : Int, Does .sincos s
        (({ s.hw with freeCount := s.hw.freeCount + 2 } : Hw).slotDone 2 rest c [BitVec.ofInt 32 x, BitVec.ofInt 32 y]) ∧
      near 34 x (sin64 c.a.toNat) ∧ near 34 y (sin64 (c.a.toNat + 2 ^ 30))) ∧
    (c.op = 5 → (c.a ≠ 0#32 ∨ c.b ≠ 0#32) → ∃ x : Int, Does .atan2 s
        (({ s.hw with freeCount := s.hw.freeCount + 1 } : Hw).slotDone 2 rest c [BitVec.ofInt 32 x]) ∧
      near 32 x (atan64 c.a.toInt c.b.toInt)) ∧
    (c.op = 5 → c.a = 0#32 → c.b = 0#32 →
      Does .atan2 s (({ s.hw with freeCount := s.hw.freeCount + 1 } : Hw).slotDone 2 rest c [0#32])))

/-- The voice slot's commands wait for the next period boundary, POS answers at once; Varan's answer state and time, MARK
and SWTRIG act on the streams they name. The row is the cycle in which the slot takes the command (log 18). -/
def Obligations.VoiceAndVaranSlots : Prop :=
  ∀ (s : State) (c : CopCmd) (rest : List CopCmd),
    let a := c.a.toNat
    let waits := fun (v : VCmd) => ({ s.hw with voc := { s.hw.voc with cmds := s.hw.voc.cmds ++ [v] } } : Hw).slotDone 1 rest c []
    (s.hw.slotFront 1 c rest →
      (c.op = 1 → Does .keyOn s (waits (.keyOn a c.b.toNat))) ∧ (c.op = 2 → Does .keyOff s (waits (.keyOff a))) ∧
      (c.op = 3 → Does .pitch s (waits (.pitch a c.b.toNat))) ∧
      (c.op = 4 → Does .pos s (s.hw.slotDone 1 rest c
        [BitVec.ofNat 32 ((s.hw.voice a).pos / 65536 % 2 ^ 24 + (s.hw.voice a).state * 2 ^ 28)]))) ∧
    (s.hw.slotFront 3 c rest →
      (c.op = 3 → Does .varStateCmd s (s.hw.slotDone 3 rest c [s.hw.reg (0x040C021C + 0x80 * (a % 4))])) ∧
      (c.op = 4 → Does .stime s (s.hw.slotDone 3 rest c [BitVec.ofNat 32 s.hw.sysTime, BitVec.ofNat 32 (s.hw.sysTime / 2 ^ 32)])) ∧
      (∀ k : Fin 4, s.hw.on 39 = true → (∀ j : Fin 4, j ≠ k → s.hw.streamRuns j = false) →
        (c.op = 2 → s.hw.streamRuns k = true → (s.hw.stream k).marks = true → Does .varMarkCmd s
          ((s.hw.stage k ⟨5, [s.hw.sysTime], [], a, c.b.toNat, 0, false⟩).slotDone 3 rest c [])) ∧
        (c.op = 1 → a = 2 ^ k.val →
          let h : Hw := { s.hw with cop := { s.hw.cop with slots := s.hw.cop.slots.set 3 rest } }
          Does .swtrig s { h.trigger k s.hw.sysTime false with
            cop := { h.cop with results := h.cop.results.set 3 [(c, [])] } })))

/-- A write of a plane, object, line-list or audio-stream register that hardware leaves alone in the same cycle: every RW
and SH field takes its bits of the word, every RO field stays, and so does every other register. EVT bits are cleared by
writing 1, and hardware's set of the same cycle stands, as does GPI_EVT's of a UART level that holds (18 R644); EVTEN takes
the word. COMMIT of a block with shadows: ARM is set, or cleared by DISARM which wins; XFERS takes its value; a write in
the transfer cycle is reported as LATE, with EVT.COLL. A master that the map gives no path to the registers, or the
debugger while vendor debug access is closed, reaches none; nor does any while PD21 is off. That such a row changes nothing
is log 38. Wide values: a read of the lower register latches the upper one for its next read; a write of the upper register
makes the lower value written before take effect with it. COMMIT takes XFERS with it (log 83). One command is one register
cycle (log 31). -/
def Obligations.RegisterRows : Prop :=
  -- RegisterWrite
  (∀ (s : State) (m : Fin 12) (a : Nat) (v : Word), a / 0x10000 ∈ [0x0404, 0x0405, 0x0407, 0x0412] → 0x40 ≤ a % 0x10000 →
    a % 0x10000 < 0x8000 → s.hw.on (regDomain a) = true → s.hw.reaches m = true →
    ∃ h, Does (.registerWrite m a v Cyc.quiet) s h ∧ s.hw.OnlyRegs h ∧ (∀ x, x ≠ a → h.reg x = s.hw.reg x) ∧
      ∀ f ∈ fieldsOf a,
        ((f.acc = .rw ∨ f.acc = .sh) → getBits (h.reg a) f.hi f.lo = getBits v f.hi f.lo) ∧
        (f.acc = .ro → getBits (h.reg a) f.hi f.lo = getBits (s.hw.reg a) f.hi f.lo)) ∧
  -- EventRegisters
  (∀ (s : State) (m : Fin 12) (block : Fin 23) (v set : Word), s.hw.reaches m = true → s.hw.blockTakes m block = true →
    let base := 0x04000000 + 0x10000 * block.val
    let held := if block.val = 14 then s.hw.uartHeld else 0
    s.hw.on (regDomain base) = true →
    (∃ h, Does (.evtWrite m block v set) s h ∧ s.hw.OnlyRegs h ∧ (∀ x, x ≠ base → x ≠ base + 8 → h.reg x = s.hw.reg x) ∧
      ∀ f ∈ fieldsOf base, ∀ i, f.lo ≤ i → i ≤ f.hi →
        (h.reg base).getLsbD i = (set.getLsbD i || held.testBit i || ((s.hw.reg base).getLsbD i && !v.getLsbD i))) ∧
    (∃ h, Does (.evtenWrite m block v) s h ∧ s.hw.OnlyRegs h ∧ h.reg (base + 4) = v ∧ ∀ x, x ≠ base + 4 → h.reg x = s.hw.reg x)) ∧
  -- CommitRegister
  (∀ (s : State) (m : Fin 12) (block : Fin 23) (xfers : BitVec 16) (arm transfer : Bool) (b : RegBlock),
    let base := 0x04000000 + 0x10000 * block.val
    s.hw.reaches m = true → s.hw.blockTakes m block = true → s.hw.on (regDomain base) = true → blockOf base = some b →
    b.shadowed = true →
    let late := fun (h : Hw) => transfer = true → h.rdB (collideLate base) = true ∧ bit (h.rd (evtF base)) 31 = true
    (∃ h, Does (.commitArm m block xfers transfer) s h ∧ s.hw.OnlyRegs h ∧ h.rd (commitArm base) = 1 ∧
      h.rd (commitXfers base) = xfers.toNat ∧ late h) ∧
    (∃ h, Does (.commitDisarm m block xfers arm transfer) s h ∧ s.hw.OnlyRegs h ∧ h.rd (commitArm base) = 0 ∧
      h.rd (commitXfers base) = xfers.toNat ∧ late h)) ∧
  -- UnreachedRegisters
  (∀ (s : State) (m : Fin 12) (block : Fin 23) (a : Nat) (v w : Word) (c : Cyc) (x : BitVec 16) (p q : Bool) (k : Fin 3) (n : Fin 96)
    (u : Fin 1027) (r : MReq),
    s.hw.reaches m = (s.hw.on 21 && (m == 1 || m == 2 || m == 9 || (m == 11 && s.hw.rdB F.NVS_STAT_DEBUG))) ∧
    (s.hw.reaches m = false →
      Does (.registerWrite m a v c) s s.hw ∧ Does (.evtWrite m block v w) s s.hw ∧ Does (.evtenWrite m block v) s s.hw ∧
      Does (.commitArm m block x p) s s.hw ∧ Does (.commitDisarm m block x p q) s s.hw ∧ Does (.eftFlagsetWrite m v) s s.hw ∧
      Does (.timRunStart m) s s.hw ∧ Does (.timRunStop m) s s.hw ∧ Does (.gpiOutWrite m k v) s s.hw ∧ Does (.gpiOeWrite m k v) s s.hw ∧
      Does (.gpiPinWrite m n v) s s.hw ∧ DoesSys (.mbxSend m p) s s.sys ∧ DoesSys (.mbxRequestWrite m u v) s s.sys ∧
      DoesSys (.mbxRfree m) s s.sys) ∧
    (r.master = 11 → s.hw.rdB F.NVS_STAT_DEBUG = false → Does (.matrixRequest r) s s.hw)) ∧
  -- WideRegisters
  (∀ (s : State) (k : Fin 5) (v lo : Word),
    let a := [0x04160040, 0x04160048, 0x04160050, 0x040D0050, 0x04150064].getD k 0
    (s.hw.on (regDomain a) = true → ∃ h, Does (.wideLowerRead k) s h ∧ h = { s.hw with wideRead := h.wideRead } ∧
      (h.readReg (a + 4)).2 = readMask a (s.hw.liveWord (a + 4)) ∧ (h.readReg (a + 4)).1 = h) ∧
    (s.hw.wideWrite = [(0x04160050, lo)] → ∃ h, Does (.wideUpperWrite v) s h ∧
      h = { s.hw with regs := h.regs, ciDue := h.ciDue, wideWrite := [] } ∧ h.reg 0x04160050 = lo ∧
      getBits (h.reg 0x04160054) 15 0 = v.toNat % 65536 ∧
      ∀ x, x ≠ 0x04160050 → x ≠ 0x04160054 → h.reg x = s.hw.reg x))

/-- A wake event of an enabled source: awake, its SYS_WAKESRC bit, SYS_EVT.WAKE and notice bit 11 set; in DEEP, the exit to
STANDBY begins. A disabled source does nothing. The two alarms of the timer: the event of TMR_EVT once the count has
reached the compare; alarm 0 also wakes. The count comes with the row (log 33). -/
def Obligations.WakeAndTimer : Prop :=
  -- WakeEvents
  (∀ (s : State) (k : Fin 8) (p : Fin 2), s.hw.pwr.inPor = false →
    ∀ x ∈ ([(.spCsWake, 0, s.hw.rdB F.SYS_WAKECFG_EN_SPCS), (.wakeBall, 1, s.hw.rdB F.SYS_WAKECFG_EN_WAKE),
        (.linkActivityWake p, 3 + p.val, if p = 0 then s.hw.rdB F.SYS_WAKECFG_EN_LNK0 else s.hw.rdB F.SYS_WAKECFG_EN_LNK1),
        (.gpioWake k, 8 + k.val, bit (s.hw.rd F.SYS_WAKECFG_EN_GPIO) k)] : List (Instr × Nat × Bool)),
      (x.2.2 = false → DoesSys x.1 s s.sys) ∧
      (x.2.2 = true → s.hw.pstate ≠ 0 → s.hw.pwr.goal ≠ .enter .deep → DoesSys x.1 s (s.sys.mapHw fun h =>
        ((h.setReg 0x0400005C (h.reg 0x0400005C ||| BitVec.ofNat 32 (2 ^ x.2.1))).raiseBit bSYS 8).notice 11 0 0)) ∧
      (x.2.2 = true → s.hw.inDeep = true → LeavesSys x.1 s fun r =>
        r.hw.rd F.SYS_STATE_TARGET = 1 ∧ r.hw.rd F.SYS_STATE_TRANSIT = 1 ∧ r.hw.rd F.SYS_WAKESTAMP_STAMP = s.hw.rd F.TMR_CNTLO_COUNT ∧
        (r.hw.reg 0x0400005C).getLsbD x.2.1 = true ∧ r.hw.pwr.waves = [[1, 48]] ∧ r.hw.pwr.goal = .enter .standby ∧
        r.hw.pwr.dom = s.hw.pwr.dom ∧ r.acts = [])) ∧
  -- TimerAlarms
  (∀ (s : State) (count : BitVec 48), s.hw.pwr.inPor = false →
    let n := count.toNat
    let now := s.hw.rd F.TMR_CNTLO_COUNT + s.hw.rd F.TMR_CNTHI_COUNT * 2 ^ 32
    let fires := fun (h : Hw) (k : Nat) => ((h.wr F.TMR_CNTLO_COUNT n).wr F.TMR_CNTHI_COUNT (n / 2 ^ 32)).raiseBit bTMR k
    now ≤ n →
    (s.hw.rd F.TMR_ALM0LO_CMP + s.hw.rd F.TMR_ALM0HI_CMP * 2 ^ 32 ≤ n → s.hw.rdB F.SYS_WAKECFG_EN_TMR = false →
      DoesSys (.tmrAlm0 count) s (s.sys.mapHw fun h => fires h 0)) ∧
    (s.hw.rd F.TMR_ALM0LO_CMP + s.hw.rd F.TMR_ALM0HI_CMP * 2 ^ 32 ≤ n → s.hw.rdB F.SYS_WAKECFG_EN_TMR = true →
      s.hw.pstate ≠ 0 → s.hw.pwr.goal ≠ .enter .deep → DoesSys (.tmrAlm0 count) s (s.sys.mapHw fun h =>
        let g := fires h 0
        ((g.setReg 0x0400005C (g.reg 0x0400005C ||| 4#32)).raiseBit bSYS 8).notice 11 0 0)) ∧
    (s.hw.rd F.TMR_ALM1LO_CMP + s.hw.rd F.TMR_ALM1HI_CMP * 2 ^ 32 ≤ n →
      DoesSys (.tmrAlm1 count) s (s.sys.mapHw fun h => fires h 1)))

/-- The slow clock's switch to the crystal and its failure, XT24 running, PLL_SYS locked on the way to RUN. Clock
fail-safe, at a failure of XT24 and at a loss of PLL_SYS's lock: every domain but PD00, PD01, PD48 and PD49 off or
retained, the device in STANDBY, SYS_EVT.XT24FAIL, notice bit 4, PENN_ALARM's cause and the recovery record of kind 6. What
the fail-safe leaves of the sessions is the model's reading (log 66). -/
def Obligations.ClocksAndFailSafe : Prop :=
  -- Clocks
  (∀ (s : State), let h := s.hw
    (h.pwr.inPor = false → h.rdB F.SYS_CLKSTAT_LSC_SRC = false → h.rdB F.SYS_CLKSTAT_LSC_FAIL = false →
      DoesSys .lscSwitch s (s.sys.mapHw fun h => (h.wr F.SYS_CLKSTAT_LSC_SRC 1).raiseBit bSYS 7)) ∧
    (h.pwr.inPor = false → h.rdB F.SYS_CLKSTAT_LSC_SRC = false →
      DoesSys .lscCrystalFail s (s.sys.mapHw fun h => h.wr F.SYS_CLKSTAT_LSC_FAIL 1)) ∧
    (h.pwr.xtEnabled = true → DoesSys .xt24Ready s (s.sys.mapHw fun h => h.wr F.SYS_CLKSTAT_XT24_OK 1)) ∧
    (h.pwr.goal = .enter .run → h.rdB F.SYS_CLKSTAT_XT24_OK = true → h.rdB F.SYS_CLKSTAT_SYS_LOCK = false →
      h.pwr.unlocked = false → DoesSys .pllSysLock s (s.sys.mapHw fun h => h.wr F.SYS_CLKSTAT_SYS_LOCK 1))) ∧
  -- ClockFailSafe
  (∀ (s : State) (i : Instr), s.hw.pwr.dom.length = 50 → s.hw.eng.ports.length = 8 →
    (i = .xt24Fail ∧ s.hw.pwr.xtEnabled = true ∧ s.hw.rdB F.SYS_CLKSTAT_XT24_OK = true ∨
      i = .pllSysUnlock ∧ s.hw.rdB F.SYS_CLKSTAT_SYS_LOCK = true) →
    LeavesSys i s fun r =>
      (∀ d, d ∉ [0, 1, 48, 49] → r.hw.on d = false) ∧ r.hw.pwr.failSafe = true ∧ r.hw.rd F.SYS_CLKSTAT_XT24_OK = 0 ∧
      r.hw.rd F.SYS_CLKSTAT_SYS_LOCK = 0 ∧ r.hw.rd F.SYS_STATE_TRANSIT = 0 ∧ r.hw.pstate = 1 ∧
      bit (r.hw.rd (evtF bSYS)) 2 = true ∧ bit r.hw.pen.cause 6 = true ∧ bit (r.hw.eport 0).notices 4 = true ∧
      (∃ x ∈ r.hw.recLog, x.kind = 6) ∧ r.hw.pwr.unlocked = (if i = .pllSysUnlock then true else s.hw.pwr.unlocked))

/-- Domains switch in turn: those of the front wave all on; the front one of those going off off, or retained on leaving
RUN; every other domain as it was. A bank's zero fill ends; nothing else that power holds changes. See log 63. -/
def Obligations.DomainsAndBanks : Prop :=
  -- DomainSwitching
  (∀ (s : State) (w : List Nat) (waves : List (List Nat)) (d : Nat) (rest : List Nat),
    let p := s.hw.pwr
    p.dom.length = 50 → p.goal = .domains → p.boot = 0 →
    (p.waves = w :: waves → p.offs = [] → waves ≠ [] → (∀ x ∈ w, x < 50) → LeavesSys .domainWaveDone s fun r =>
      (∀ x, r.hw.domState x = if x ∈ w then .on else s.hw.domState x) ∧ r.hw.pwr.waves = waves ∧
      bit (r.hw.rd (evtF bSYS)) 1 = true ∧ r.acts = []) ∧
    (p.offs = d :: rest → rest ≠ [] → d < 50 → s.hw.on d = true → s.sys.offWaits d = false → LeavesSys .domainOffDone s fun r =>
      (∀ x, r.hw.domState x = if x = d then .off else s.hw.domState x) ∧ r.hw.pwr.offs = rest ∧
      bit (r.hw.rd (evtF bSYS)) 1 = true) ∧
    (p.offs = d :: rest → LeavesSys .masterDrainTimeout s fun r =>
      (∀ m ∈ s.hw.domainMasters d, r.hw.masterBusy m = false) ∧ r.hw.pwr = p ∧ r.acts = [])) ∧
  -- BankFill
  (∀ (s : State) (b : Fin 16), s.hw.pwr.goal ≠ .image → s.hw.eng.img.state = 0 →
    DoesSys (.bankZeroFillDone b) s (s.sys.mapHw fun h =>
      { h with pwr := { h.pwr with filling := h.pwr.filling.filter (· ≠ b.val) } }))

/-- The states are entered: STANDBY and RUN with SYS_STATE, SYS_EVT.STATECHG and an event record; DEEP with the engine's
state of PD01 lost. COLD_START with nothing pending and no device key due follows the start policy: policy 4 stays in
STANDBY, policies 0 to 3 go to RUN. AUTORUN_START goes to RUN. What DEEP loses is the model's reading (logs 64, 65); the
default run set is presumed (log 67). -/
def Obligations.StatesAndStarts : Prop :=
  -- PowerTransitions
  (∀ (s : State), let p := s.hw.pwr
    p.offs = [] → p.waves = [] → p.boot = 0 →
    let entered := fun (r : Sys) (st : Nat) => r.hw.rd F.SYS_STATE_STATE = st ∧ r.hw.rd F.SYS_STATE_TARGET = st ∧
      r.hw.rd F.SYS_STATE_TRANSIT = 0 ∧ r.hw.pwr.goal = .idle ∧ bit (r.hw.rd (evtF bSYS)) 0 = true
    (p.goal = .enter .standby → s.hw.pstate = 2 → LeavesSys .powerTransitionDone s fun r => entered r 1 ∧
      r.hw.rd F.SYS_CLKSTAT_SYS_LOCK = 0 ∧ r.hw.rd F.SYS_CLKSTAT_AUD_LOCK = 0 ∧ r.hw.rd F.SYS_CLKSTAT_PIX_LOCK = 0 ∧
      r.hw.rd F.SYS_CLKSTAT_LNK_LOCK = 0) ∧
    (p.goal = .enter .run → s.hw.pstate = 1 → s.hw.rdB F.SYS_CLKSTAT_SYS_LOCK = true → LeavesSys .powerTransitionDone s fun r =>
      entered r 2 ∧ r.hw.pwr.dom = p.dom ∧ r.hw.mem = s.hw.mem) ∧
    (p.goal = .enter .deep → s.hw.pstate = 1 → p.heldWake = [] → LeavesSys .powerTransitionDone s fun r =>
      entered r 0 ∧ r.hw.eng.ports = Eng.reset.ports ∧ r.hw.pwr.failSafe = false ∧ r.hw.mem = s.hw.mem) ∧
    (p.goal = .enter .standby → s.hw.pstate = 0 → LeavesSys .powerTransitionDone s fun r =>
      entered r 1 ∧ r.hw.rd F.SYS_RSTCAUSE_DEEPEXIT = 1 ∧ r.hw.pwr.starting = true ∧ r.hw.pwr.fromDeep = true)) ∧
  -- Starts
  (∀ (s : State), let p := s.hw.pwr
    (p.starting = true → p.stage = 1 → p.inPor = false → p.fromDeep = false → s.nv.pendingZero = none → s.nv.key.isSome →
      s.hw.on 49 = true →
      (s.nv.policy = some 4 → LeavesSys .coldStart s fun r => r.hw.pwr.starting = false ∧ r.hw.pwr.started = true ∧
        r.hw.pwr.stage = 0 ∧ r.eng.debugOpen = false ∧ r.eng.devKey = s.nv.key ∧ r.hw.rd F.SYS_STATE_STATE = s.hw.rd F.SYS_STATE_STATE) ∧
      (s.nv.policy.getD 0 < 4 → LeavesSys .coldStart s fun r => r.hw.pwr.starting = false ∧ r.hw.rd F.SYS_STATE_TARGET = 2 ∧
        r.hw.rd F.SYS_STATE_TRANSIT = 1 ∧ r.hw.pwr.goal = .enter .run ∧ r.hw.pwr.xtEnabled = true ∧
        r.hw.pwr.boot = (if s.nv.policy.getD 0 ≤ 1 then 1 else 2))) ∧
    (p.starting = true → p.stage = 1 → p.inPor = false → s.nv.pendingZero = some true → LeavesSys .coldStart s fun r =>
      r.eng.zero = true ∧ r.eng.devKey = none ∧ r.hw.rd F.SYS_RSTCAUSE_ZRESUME = 1 ∧ r.hw.pwr.stage = 2) ∧
    (p.autorun = true → p.starting = false → s.hw.pstate = 1 → s.hw.transit = false → p.failSafe = false →
      LeavesSys .autorunStart s fun r => r.hw.pwr.autorun = false ∧ r.hw.rd F.SYS_STATE_TARGET = 2 ∧
        r.hw.rd F.SYS_STATE_TRANSIT = 1 ∧ r.hw.pwr.goal = .enter .run ∧ r.hw.pwr.boot ≠ 0))

/-- A rail's dip holds everything at its reset values with every domain off until its end; a pin reset keeps the timer, the
wake and retention settings, the logs and the retained banks; a TAP reset changes none of this state. See log 74. -/
def Obligations.Resets : Prop :=
  ∀ (s : State),
    (LeavesSys .railDip s fun r => r.hw = { Hw.reset with
      cycle := s.hw.cycle, freeCount := s.hw.freeCount, brg := { Brg.reset with lead := s.hw.brg.lead }
      gpi := { Hw.reset.gpi with ext := s.hw.gpi.ext }
      pwr := { Pwr.reset with inPor := true, started := s.hw.pwr.started, dom := List.replicate 50 .off } }) ∧
    (s.hw.pwr.inPor = true → DoesSys .porRelease s (s.sys.mapHw fun h =>
      { h.wr F.SYS_RSTCAUSE_BOR (b2n h.pwr.started) with pwr := Pwr.reset })) ∧
    (s.hw.pwr.inPor = false → LeavesSys .pinReset s fun r =>
      r.hw.rd F.SYS_RSTCAUSE_PIN = 1 ∧ r.hw.rd F.SYS_STATE_STATE = 1 ∧ r.hw.efts = Vector.replicate 4 Eft.reset ∧
      r.hw.pwr.starting = true ∧ r.hw.eng = Eng.reset ∧ r.hw.recLog = s.hw.recLog ∧ r.hw.evLog = s.hw.evLog ∧
      (∀ a, 0x04160040 ≤ a → a < 0x04160058 → r.hw.reg a = s.hw.reg a) ∧
      r.hw.rd F.SYS_BANKRET_MASK = s.hw.rd F.SYS_BANKRET_MASK ∧
      ∀ a, r.hw.byte a = if a < 0x01000000 ∧ s.hw.domState (4 + a / 0x100000) = .retain then s.hw.byte a else memReset a) ∧
    DoesSys .tapReset s s.sys

/-- A row write: one more write of its physical row; verified, the row holds its bytes and the transaction goes on with its
next row write; failed, it is made again. The commit record's verify makes a transaction whole: its logical rows map to the
rows written, its records are in force. A wear move takes a free row for the least-written row of its pool; a fuse
operation blows its fuse, and only that. Which of several equal rows is taken is the model's (log 69). -/
def Obligations.StoreRows : Prop :=
  -- RowWrites
  (∀ (s : State) (l p : Nat) (d : List Byte) (n : NvStep) (rest : List NvStep) (w : NvWork),
    let e := s.hw.eng
    e.wearRow = false → e.wear = none → e.work = [w] → w.steps = .row l p d :: n :: rest → s.hw.on 48 = true → s.hw.pwr.stage = 0 →
    s.hw.pwr.goal = .idle → e.job = none → s.nv.inPlace n = none →
    (s.nv.count p + 1 < 1000000 → LeavesSys (.nvmRowWriteDone true) s fun r => r.nv.count p = s.nv.count p + 1 ∧ r.nv.rowBytes p = d ∧
      r.eng.work = [{ w with steps := n :: rest, fails := 0 }] ∧ r.nv.map = s.nv.map ∧
      (∀ q, q ≠ p → r.nv.rowBytes q = s.nv.rowBytes q ∧ r.nv.count q = s.nv.count q)) ∧
    (w.fails < 2 → LeavesSys (.nvmRowWriteDone false) s fun r => r.nv.count p = s.nv.count p + 1 ∧ r.nv.rows = s.nv.rows ∧
      r.eng.work = [{ w with fails := w.fails + 1 }] ∧ r.nv.map = s.nv.map)) ∧
  -- Commit
  (∀ (s : State) (l p : Nat) (item : NvRec) (m : Nat),
    let e := s.hw.eng
    e.wearRow = false → e.wear = none → e.work = [⟨[.commit], [item], [(l, p)], 0, .nothing⟩] → s.hw.on 48 = true →
    s.hw.pwr.stage = 0 → s.hw.pwr.goal = .idle → e.job = none → item = .runSet m → l ≠ p →
    LeavesSys (.nvmRowWriteDone true) s fun r => r.nv.phys l = p ∧ (∀ k, k ≠ l → r.nv.phys k = s.nv.phys k) ∧ r.nv.runSet = some m ∧
      r.nv.journal = (s.nv.journal + 1) % 512 ∧ r.eng.work = []) ∧
  -- WearAndFuses
  (∀ (s : State) (l p k h : Nat), let e := s.hw.eng
    (e.wear = none → s.hw.on 48 = true → e.zero = false → s.nv.pendingZero = none → s.hw.pwr.goal ≠ .enter .deep →
      s.nv.wearPick false = some (l, p) → LeavesSys .wearMove s fun r =>
        r.eng.wear = some ⟨[.row l p (s.nv.rowBytes (s.nv.phys l)), .commit], [], [(l, p)], 0, .nothing⟩ ∧ r.nv.map = s.nv.map ∧
        r.nv.rows = s.nv.rows) ∧
    (e.ncur = none → e.job = none →
      (e.fuse = some (.keyhash k h) → LeavesSys (.fuseBlowDone false) s fun r =>
        r.nv = { s.nv with kh := s.nv.kh.modify k (fun x => x ||| h), prg := s.nv.prg ||| 2 ^ k } ∧ r.eng.fuse = none) ∧
      (e.fuse = some (.revoke k) → LeavesSys (.fuseBlowDone false) s fun r =>
        r.nv = { s.nv with rev := s.nv.rev ||| 2 ^ k } ∧ r.eng.fuse = none) ∧
      (e.fuse = some (.life 1) → LeavesSys (.fuseBlowDone false) s fun r =>
        r.nv = { s.nv with life := s.nv.life ||| 1 } ∧ r.eng.debugOpen = false ∧ r.eng.work ≠ [])))

/-- An image whose checks are done: one that verifies has its run set switched on; one that fails leaves its code, the
event and the notice. No valid header in flash ends its command with TIMEOUT. See logs 71, 72. -/
def Obligations.ImageVerification : Prop :=
  ∀ (s : State) (flash : List Byte), let g := s.hw.eng.img
    g.checking = true → s.hw.pwr.offs = [] → s.hw.pwr.waves = [] →
    (g.src = 0 → s.sys.imageBad g.data (some g.total) = 0 → s.hw.on 2 = false → s.nv.runSet = none →
      LeavesSys (.imageVerifyDone flash) s fun r => r.img = { g with
        state := 2, checking := false, header := g.data.take 256, digest := (imgDigest g.data).take 16 } ∧
        r.hw.pwr.goal = .image ∧ r.hw.pwr.waves ≠ [] ∧ r.acts = []) ∧
    (g.src = 0 → s.sys.imageBad g.data (some g.total) ≠ 0 → LeavesSys (.imageVerifyDone flash) s fun r =>
      r.img = { Img.reset with resident := g.resident } ∧
      r.hw.rd F.NVS_IMGERR_CODE = s.sys.imageBad g.data (some g.total) ∧ bit (r.hw.rd (evtF bNVS)) 3 = true ∧
      r.hw.efts = s.hw.efts) ∧
    (g.src = 1 → g.port ≠ 0xFF → LeavesSys .flashHeaderTimeout s fun r => r.img = { Img.reset with resident := g.resident } ∧
      (∀ j, s.hw.eng.job = some j → j.op = 0x23 → j.result = none → r.eng.job = some { j with result := some (refuseWith 11) }))

/-- HELLO opens the session and answers its record; SELECT selects an offered mask; STATUS answers the status record and
clears the notices it returned, but on MB. -/
def Obligations.Sessions : Prop :=
  ∀ (s : State) (q : EngReq) (n : Nat), n < 8 → s.hw.eng.ports.length = 8 →
    let d := s.sys
    let b := byteAt q.par
    let m := fieldAt q.par 0 4
    (b 0 = 1 → 24 ≤ (d.port n).rxmax → Answers (.hello q) s 0x01 q n
      ([1#8, 0#8] ++ leBytes 4 (s.hw.rd F.SYS_REVID_REV) ++ leBytes 1 (portCode n) ++ leBytes 1 s.nv.lifecycle
        ++ leBytes 1 (if s.hw.on 21 then s.hw.nodeId else 0xFF) ++ leBytes 1 s.hw.pstate
        ++ leBytes 2 (if n = 0 ∨ n = 1 ∨ n = 3 then 4100 else 256) ++ leBytes 4 (d.offer n) ++ [1#8, 0#8, 0#8, 0#8] ++ zeros 4)
      fun r => (r.port n).session = 1 ∧ (r.port n).mask = 0 ∧
        (r.port n).rxmax = max 24 (min 4096 (fieldAt q.par 2 2)) ∧ (∀ k, k ≠ n → r.port k = d.port k) ∧ r.nv = s.nv ∧ r.acts = []) ∧
    (b 0 ≠ 1 → Refuses (.hello q) s 0x01 q n 6 [0#8, 0#8]) ∧
    ((d.port n).session ≠ 2 → bit m 0 = true → (∀ k < 32, bit m k = true → bit (d.offer n) k = true) →
      Executes (.select q) s 0x02 q n (d.modPort n fun p => { p with session := 2, mask := m }) (q.par.take 4)) ∧
    ((d.port n).session = 2 ∨ bit m 0 = false ∧ m < 256 → Refuses (.select q) s 0x02 q n 6
      (if (d.port n).session = 2 then [0xFF#8, 0xFF#8] else [0#8, 0#8])) ∧
    (let p := d.port n
     let job := s.hw.eng.job
     Executes (.status q) s 0x03 q n (if n = 2 then d else d.modPort n fun p => { p with notices := 0 })
      ([s.hw.pstate + 128 * b2n s.hw.transit, s.nv.lifecycle,
        b2n job.isSome + 2 * b2n s.hw.eng.zero + 4 * b2n s.hw.allWait + 8 * b2n s.hw.pwr.failSafe + 16 * b2n s.hw.pennAlarm
          + 32 * b2n s.hw.eng.storeBusy + 64 * b2n d.debugOpen,
        (match job with | some j => j.op | none => 0), d.jobPort, p.session].map (BitVec.ofNat 8)
        ++ leBytes 2 (if n = 2 then s.hw.rd F.MBX_NOTICE_NOTICES else p.notices) ++ leBytes 2 p.overrun ++ leBytes 2 p.rejects
        ++ [p.lastStat, p.lastOp, p.framing, p.lost].map (BitVec.ofNat 8)))

/-- RETAIN_SET, WAKE_CONFIG, DOMAIN_GET; the GPIO commands: owners of pins that have none, the pins of the caller alone;
the telemetry and the logs. The ledger family, NVM reads, link records and MATRIX_RELEASE. Offsets of BAD_PARAM and unnamed
bits are the model's reading (logs 37, 77). -/
def Obligations.PowerAndLedgerCommands : Prop :=
  -- PowerGpioTelemetry
  (∀ (s : State) (q : EngReq) (n : Nat), let d := s.sys
    let b := byteAt q.par
    let put := fun (h : Hw) => ({ d with hw := h } : Sys)
    (Answers (.retainSet q) s 0x12 q n [] fun r =>
      (∀ k, k < 16 → bit (r.hw.rd F.SYS_BANKRET_MASK) k =
        (if k ∈ s.hw.mtx.retired then bit (s.hw.rd F.SYS_BANKRET_MASK) k else bit (fieldAt q.par 0 2) k)) ∧
      r = put { s.hw with regs := r.hw.regs }) ∧
    (bit (fieldAt q.par 0 4) 0 = true → Answers (.wakeConfig q) s 0x13 q n [] fun r =>
      r.hw.rdB F.SYS_WAKECFG_EN_SPCS = true ∧ r.hw.rd F.SYS_WAKECFG_EN_GPIO = b 1 ∧
      r.hw.rd F.TMR_ALM0LO_CMP = fieldAt q.par 4 4 ∧ r.hw.rd F.TMR_ALM0HI_CMP = fieldAt q.par 8 2 ∧
      r = put { s.hw with regs := r.hw.regs }) ∧
    (fieldAt q.par 0 4 = 0 → Refuses (.wakeConfig q) s 0x13 q n 6 [0#8, 0#8]) ∧
    Executes (.domainGet q) s 0x14 q n d (s.hw.pdstat ++ leBytes 4 (s.hw.liveWord 0x04000050).toNat) ∧
    (b 0 ≤ 95 → 0 < b 1 → b 0 + b 1 ≤ 96 → 1 ≤ b 2 → b 2 ≤ 5 →
      ((∀ k < 96, b 0 ≤ k → k < b 0 + b 1 → s.hw.owner k = 0) → Answers (.gpioOwnSet q) s 0x40 q n [] fun r =>
        (∀ k, k < 96 → r.hw.owner k = if b 0 ≤ k ∧ k < b 0 + b 1 then b 2 else s.hw.owner k) ∧ r.nv = s.nv ∧ r.acts = [] ∧
        r.hw.mem = s.hw.mem ∧ r.hw.eng = s.hw.eng ∧ r.hw.efts = s.hw.efts) ∧
      (∀ k, b 0 ≤ k → k < b 0 + b 1 → s.hw.owner k ≠ 0 → Refuses (.gpioOwnSet q) s 0x40 q n 8 [])) ∧
    Executes (.gpioOwnGet q) s 0x41 q n d ((List.range 96).map fun k => BitVec.ofNat 8 (s.hw.owner k)) ∧
    ((∀ k < 96, bit (fieldAt q.par 0 12) k = true → s.hw.owner k = if n = 0 then 1 else 2) →
      Answers (.gpioWrite q) s 0x42 q n [] fun r => ∀ k < 96,
        bit (r.hw.rd F.GPI_OUT_OUT (k / 32)) (k % 32) = (if bit (fieldAt q.par 0 12) k then bit (fieldAt q.par 12 12) k
          else bit (s.hw.rd F.GPI_OUT_OUT (k / 32)) (k % 32)) ∧
        bit (r.hw.rd F.GPI_OE_OE (k / 32)) (k % 32) = (if bit (fieldAt q.par 0 12) k then bit (fieldAt q.par 24 12) k
          else bit (s.hw.rd F.GPI_OE_OE (k / 32)) (k % 32))) ∧
    (∀ k, k < 96 → bit (fieldAt q.par 0 12) k = true → s.hw.owner k ≠ (if n = 0 then 1 else 2) →
      Refuses (.gpioWrite q) s 0x42 q n 8 []) ∧
    Executes (.gpioRead q) s 0x43 q n d (([0, 1, 2] : List Nat).flatMap fun k => leBytes 4 (s.hw.gpiIn k).toNat) ∧
    (b 0 ≤ 3 → (∀ r, bit s.hw.eng.telMask (b 0) = true → s.hw.eng.telRecs[b 0]? = some (some r) →
        Executes (.telemRead q) s 0xA0 q n d r) ∧
      (b 0 ≠ 0 → bit s.hw.eng.telMask (b 0) = false → Executes (.telemRead q) s 0xA0 q n d (s.hw.sample (b 0)).2)) ∧
    (3 < b 0 → Refuses (.telemRead q) s 0xA0 q n 6 [0#8, 0#8]) ∧
    (fieldAt q.par 2 2 ≤ 15 → Answers (.telemConfig q) s 0xA1 q n [] fun r =>
      r.eng.telPeriod = fieldAt q.par 0 2 ∧ r.eng.telMask = fieldAt q.par 2 2 ∧
      r = d.modEng fun e => { e with telPeriod := r.eng.telPeriod, telMask := r.eng.telMask, telRecs := r.eng.telRecs }) ∧
    (15 < fieldAt q.par 2 2 → Refuses (.telemConfig q) s 0xA1 q n 6 [2#8, 0#8]) ∧
    (fieldAt q.par 0 2 ≤ 255 → Executes (.eventLog q) s 0xA2 q n d
      (match s.hw.evLog[fieldAt q.par 0 2]? with
        | some x => [x.kind, x.port, x.detail0, x.detail1].map (BitVec.ofNat 8) ++ leBytes 4 x.aux ++ leBytes 4 x.frame ++ leBytes 4 x.stamp
        | none => 0xFF#8 :: zeros 15)) ∧
    (b 0 ≤ 31 → Executes (.recoveryLog q) s 0x84 q n d
      (match s.hw.recLog[b 0]? with
        | some x => [x.kind, x.port, x.unit, x.sub].map (BitVec.ofNat 8) ++ leBytes 4 x.a ++ leBytes 4 x.b ++ leBytes 4 x.stamp
        | none => zeros 16)) ∧
    Executes (.debugStatus q) s 0x91 q n d
      ([s.nv.lifecycle, b2n d.debugOpen + 2 * b2n s.nv.pendingZero.isSome + 4 * b2n s.hw.eng.zero + 8 * b2n s.hw.eng.devKey.isSome
          + 16 * b2n s.nv.factoryLock + 32 * b2n d.evaluated, s.nv.rev + 16 * s.nv.prg, s.nv.svn].map (BitVec.ofNat 8)
        ++ leBytes 4 s.nv.zeroCount)) ∧
  -- LedgerNvmLink
  (∀ (s : State) (q : EngReq) (n : Nat), let d := s.sys
    let b := byteAt q.par
    let cap := fieldAt q.par 0 2
    let region := fieldAt q.par 1 4
    let len := fieldAt q.par 5 2
    (100 ≤ cap → cap ≤ 1400 → s.hw.booked ≤ cap → (∀ p < 4, s.hw.bookedOn p ≤ cap / 4) →
      Answers (.ledgerCapSet q) s 0x50 q n [] fun r => r.hw.ldg.cap = cap ∧ r.acts = [] ∧ r.hw.mem = s.hw.mem ∧ r.hw.efts = s.hw.efts) ∧
    (cap < 100 ∨ 1400 < cap → Refuses (.ledgerCapSet q) s 0x50 q n 6 [0#8, 0#8]) ∧
    (100 ≤ cap → cap ≤ 1400 → cap < s.hw.booked → Refuses (.ledgerCapSet q) s 0x50 q n 7 (leBytes 2 s.hw.booked ++ leBytes 2 s.hw.ldg.cap)) ∧
    Executes (.ledgerQuery q) s 0x51 q n d (leBytes 2 s.hw.ldg.cap ++ leBytes 2 s.hw.effcap
      ++ leBytes 2 (s.hw.booked % 2048 + s.hw.rd F.LDG_STAT_REFPORT * 2048 + s.hw.rd F.LDG_STAT_OVER * 32768)
      ++ leBytes 2 (2 * s.hw.rd F.LDG_SHEDSTAT_SHED)
      ++ ([0, 1, 2, 3] : List Nat).flatMap fun p => leBytes 2 (s.hw.bookedOn p % 4096
        + b2n (s.hw.ldg.storm.getD p none).isSome * 16384 + b2n (s.hw.ldg.margin.getD p false) * 32768)) ∧
    (q.par ≠ [] → q.par.length ≤ 16 → (∀ c ∈ q.par, 1 ≤ c.toNat ∧ c.toNat ≤ 13) → q.par.Nodup →
      Answers (.ledgerShedOrder q) s 0x52 q n [] fun r => r.hw.ldg.order = q.par.map BitVec.toNat ∧
        r = d.mapHw fun h => { h with regs := r.hw.regs, ldg := { h.ldg with order := r.hw.ldg.order } }) ∧
    (q.par = [] → Refuses (.ledgerShedOrder q) s 0x52 q n 6 [0xFF#8, 0xFF#8]) ∧
    ((∀ k ∈ consumers, s.hw.pendLu k = 0 ∨ s.hw.pendMask k ≠ 0) →
      s.hw.failing (sumOver s.hw.pendLu) (fun p => sumOver fun k => portShare (s.hw.pendLu k) (s.hw.pendMask k) p) = none →
      Answers (.ledgerCommit q) s 0x53 q n (leBytes 2 (sumOver s.hw.pendLu) ++ leBytes 2 s.hw.ldg.cap) fun r =>
        (∀ k, 1 ≤ k → k ≤ 13 → r.hw.rd F.LDG_ACT_LU (k - 1) = s.hw.rd F.LDG_RES_LU (k - 1) ∧
          r.hw.rd F.LDG_ACT_BANKS (k - 1) = s.hw.rd F.LDG_RES_BANKS (k - 1)) ∧ r.acts = [] ∧ r.hw.mem = s.hw.mem) ∧
    (b 0 ≠ 2 → b 0 ≤ 3 → (n = 2 ∨ n = 3 → b 0 = 3) → 0 < len → len ≤ 4096 → region + len ≤ 64 * regionRows (b 0) →
      Executes (.nvmRead q) s 0x60 q n d (s.nv.read (b 0) region len)) ∧
    (b 0 = 2 → Refuses (.nvmRead q) s 0x60 q n 4 []) ∧
    (b 0 ≤ 3 → Executes (.nvmWear q) s 0x62 q n d (s.nv.wearSummary (b 0))) ∧
    (b 0 ≤ 1 → Executes (.linkStatus q) s 0x71 q n d (s.hw.linkStatus (b 0))) ∧
    (1 < b 0 → Refuses (.linkStatus q) s 0x71 q n 6 [0#8, 0#8]) ∧
    (policyBad q.par = none → bit (b 7) 0 = false → Executes (.linkPolicy q) s 0x72 q n
      (d.mapHw fun h => (h.wr F.BRG_POLICY_BYTES (fieldAt q.par 0 4)).wr F.BRG_POLICY1_BYTES (fieldAt q.par 4 4)) []) ∧
    (∀ i, policyBad q.par = some i → Refuses (.linkPolicy q) s 0x72 q n 6 (leBytes 2 i)) ∧
    (b 0 ≤ 11 → b 0 ≠ 2 → 2 ≤ (d.port n).rxmax → s.sys.accepts 0x80 q n → LeavesSys (.matrixRelease q) s fun r =>
      (∀ x ∈ r.hw.mtx.out, x.master.val ≠ b 0) ∧ (∀ l, r.hw.mtx.lock = some l → l.master ≠ b 0) ∧ r.hw.rd F.MTX_RELLOG_MASTER = b 0 ∧
      bit (r.hw.rd (evtF bMTX)) 4 = true) ∧
    (b 0 = 2 ∨ 11 < b 0 → Refuses (.matrixRelease q) s 0x80 q n 6 [0#8, 0#8]))

/-- Images by command: IMAGE_BEGIN, IMAGE_DATA in order, APP_START of the efts that are STOPPED, IMAGE_INFO; EFT_RESTART.
See logs 71, 72, 75. -/
def Obligations.ImageCommands : Prop :=
  ∀ (s : State) (q : EngReq) (n : Nat), let d := s.sys
    let b := byteAt q.par
    let g := s.hw.eng.img
    let m := fieldAt q.par 0 4
    let kept := fun (r : Sys) (e : Fin 4) => r.hw.eft e = s.hw.eft e
    let started := fun (r : Sys) (e : Fin 4) => (r.hw.eft e).run = .ready ∧ (r.hw.eft e).sr.mode = bit (s.hw.rd F.EFT_RSTVEC_VEC) 0 ∧
      (r.hw.eft e).pc = BitVec.ofNat 32 (s.hw.rd F.EFT_RSTVEC_VEC / 4 * 4) ∧ (r.hw.eft e).sr.exl = false ∧ (r.hw.eft e).sr.ie = false
    (0 < m → m ≤ 16777216 → (∀ e, (s.hw.eft e).run = .stopped) →
      Executes (.imageBegin q) s 0x20 q n (d.modEng fun e => { e with img :=
        { Img.reset with state := 1, total := m, port := portCode n, resident := g.resident } }) []) ∧
    (m = 0 ∨ 16777216 < m → Refuses (.imageBegin q) s 0x20 q n 6 [0#8, 0#8]) ∧
    (g.state = 1 → g.src = 0 → m = g.data.length → g.data.length + (q.par.drop 4).length ≤ g.total →
      (g.data.length + (q.par.drop 4).length < 256 → Executes (.imageData q) s 0x21 q n
        (d.modEng fun e => { e with img := { g with data := g.data ++ q.par.drop 4, bad := 0 } }) []) ∧
      Answers (.imageData q) s 0x21 q n [] fun r => r.eng.img.data = g.data ++ q.par.drop 4 ∧ r.hw.regs = s.hw.regs ∧
        r.hw.efts = s.hw.efts ∧ r.acts = [] ∧ (g.bad ≠ 0 → 256 ≤ g.data.length → g.bad = headerBad (g.data.take 256) (some g.total) →
          r.hw.mem = s.hw.mem)) ∧
    (g.state ≠ 1 → Refuses (.imageData q) s 0x21 q n 6 [0xFF#8, 0xFF#8]) ∧
    (2 ≤ g.state → 0 < b 0 → b 0 ≤ 15 → Answers (.appStart q) s 0x24 q n [] fun r => r.eng.img = { g with state := 3 } ∧
      (∀ e : Fin 4, if bit (b 0) e ∧ (s.hw.eft e).run = .stopped then started r e else kept r e) ∧
      r.hw.regs = s.hw.regs ∧ r.hw.mem = s.hw.mem) ∧
    (g.state < 2 → Refuses (.appStart q) s 0x24 q n 6 [0xFF#8, 0xFF#8]) ∧
    (g.header ≠ [] → Executes (.imageInfo q) s 0x26 q n d
      (leBytes 4 (fieldAt g.header 0x0C 4) ++ leBytes 4 (fieldAt g.header 8 4) ++ leBytes 4 (fieldAt g.header 0x10 4)
        ++ leBytes 4 (fieldAt g.header 0x14 4) ++ [byteAt g.header 0x1C, byteAt g.header 6, byteAt g.header 7, g.state].map (BitVec.ofNat 8)
        ++ fitBytes 12 g.digest)) ∧
    (0 < b 0 → b 0 ≤ 15 → Answers (.eftRestart q) s 0x83 q n [] fun r =>
      (∀ e : Fin 4, if bit (b 0) e then started r e else kept r e) ∧ r.hw.regs = s.hw.regs ∧ r.hw.mem = s.hw.mem ∧
      (∃ x, r.hw.recLog.head? = some x ∧ x.kind = 8 ∧ x.port = portCode n ∧ x.unit = b 0)) ∧
    (b 0 = 0 → Refuses (.eftRestart q) s 0x83 q n 6 [0#8, 0#8])

/-- The pennant family, SIGTAB_WRITE and AVAS_CONFIG: pending cells, enables, store bytes, palette, mode, gap; the fault
record read and cleared; the status record. See log 73. -/
def Obligations.PennantCommands : Prop :=
  ∀ (s : State) (q : EngReq) (n : Nat), let d := s.sys
    let b := byteAt q.par
    let pen := fun (p : Pen) => d.mapHw fun h => { h with pen := p }
    let off := fieldAt q.par 0 4
    let data := q.par.drop 4
    (b 0 ≤ 63 → s.hw.pen.cells.length = 64 → penCellBad (q.par.drop 1) = none → Executes (.penCellSet q) s 0x30 q n
      (pen { s.hw.pen with cells := s.hw.pen.cells.modify (b 0) fun c => { c with
        pend := [fieldAt q.par 1 4, fieldAt q.par 5 4, fieldAt q.par 9 4, fieldAt q.par 13 4], ready := false } }) []) ∧
    (63 < b 0 → Refuses (.penCellSet q) s 0x30 q n 6 [0#8, 0#8]) ∧
    (∀ i, b 0 ≤ 63 → penCellBad (q.par.drop 1) = some i → Refuses (.penCellSet q) s 0x30 q n 6 (leBytes 2 (1 + i))) ∧
    (Answers (.penCellEnable q) s 0x31 q n [] fun r => (∀ (k : Nat) (c : PenCell), s.hw.pen.cells[k]? = some c →
        r.hw.pen.cells[k]? = some ({ c with penEn := bit (fieldAt q.par 0 8) k } : PenCell)) ∧
      r = pen { s.hw.pen with cells := r.hw.pen.cells }) ∧
    (off + data.length ≤ 0x80000 → Answers (.penStoreWrite q) s 0x32 q n [] fun r =>
      (∀ a, r.hw.byte a = if 0x01000000 + off ≤ a ∧ a < 0x01000000 + off + data.length then data.getD (a - (0x01000000 + off)) 0
        else s.hw.byte a) ∧ r.hw.regs = s.hw.regs ∧ r.acts = []) ∧
    (0x80000 < off + data.length → Refuses (.penStoreWrite q) s 0x32 q n 6 [0#8, 0#8]) ∧
    (q.par.length = 3 + 4 * fieldAt q.par 1 2 → 0 < fieldAt q.par 1 2 → b 0 + fieldAt q.par 1 2 ≤ 256 →
      Answers (.penPaletteWrite q) s 0x33 q n [] fun r => (∀ k, Store.get (fun _ => 0) r.hw.pen.palPend k =
        if b 0 ≤ k ∧ k < b 0 + fieldAt q.par 1 2 then fieldAt q.par (3 + 4 * (k - b 0)) 3
        else Store.get (fun _ => 0) s.hw.pen.palPend k) ∧ r.hw.pen.palLat = s.hw.pen.palLat ∧ r.hw.mem = s.hw.mem) ∧
    (b 0 ≤ 1 → (b 0 = 1 → s.hw.on 31 = false ∨ s.hw.rd F.TIM_STAT_STATE ≠ 0) →
      Executes (.penMode q) s 0x34 q n (pen { s.hw.pen with modePend := decide (b 0 = 1) }) []) ∧
    Executes (.penAlarmClear q) s 0x35 q n
      ((pen { s.hw.pen with cause := 0, recKind := 0, recCell := 0xFF, recWatch := 0xFF, recF := 0 }).mapHw fun h =>
        h.setReg 0x04080000 0#32)
      ([s.hw.pen.cause, s.hw.pen.recKind, s.hw.pen.recCell, s.hw.pen.recWatch].map (BitVec.ofNat 8) ++ leBytes 4 s.hw.pen.recF) ∧
    (b 0 ≤ 8 → Executes (.penGapSet q) s 0x36 q n (d.mapHw fun h => h.wr F.PEN_STAT_GAPMAX (b 0)) []) ∧
    (8 < b 0 → Refuses (.penGapSet q) s 0x36 q n 6 [0#8, 0#8]) ∧
    (b 0 ≤ 31 → sigtabBad (q.par.drop 1) = none → Answers (.sigtabWrite q) s 0x37 q n [] fun r =>
      r.hw.pen.sigtab = s.hw.pen.sigtab.set (b 0) (q.par.drop 1) ∧ r.acts = [] ∧ r.hw.mem = s.hw.mem) ∧
    (31 < b 0 → Refuses (.sigtabWrite q) s 0x37 q n 6 [0#8, 0#8]) ∧
    ((s.hw.voc.recs.foldl Hw.avasApply s.hw).avasBad q.par = none → (b 0 ≠ 3 ∨ bit (b 1) 1 = false) →
      Executes (.avasConfig q) s 0x38 q n (d.mapHw fun h => { h with voc := { h.voc with recs := h.voc.recs ++ [q.par] } }) []) ∧
    (∀ i, (s.hw.voc.recs.foldl Hw.avasApply s.hw).avasBad q.par = some i →
      Refuses (.avasConfig q) s 0x38 q n 6 (leBytes 2 i)) ∧
    Executes (.penStatus q) s 0x39 q n d
      (leBytes 4 (s.hw.rd F.PEN_FAIL 0) ++ leBytes 4 (s.hw.rd F.PEN_FAIL 1)
        ++ [b2n s.hw.pen.modeLat + 2 * b2n s.hw.pennAlarm + 4 * b2n (s.hw.pen.cells.any fun c => !c.ready) + 8 * b2n s.hw.penWatching,
          s.hw.pen.cause, s.hw.rd F.PEN_STAT_GAPMAX, (s.hw.pen.cells.filter fun c => c.latEn).length].map (BitVec.ofNat 8)
        ++ leBytes 4 (s.hw.rd F.PEN_CHKCNT_FRAMES))

/-- The checks of R131 in their order, of every command at every port: the first that fails decides the reply, and nothing
else changes; a match of RETRY gives the stored reply again. A request taken while its port executes one is discarded and
counted; one taken while a reply waits replaces it. What makes a command BUSY is the model's reading (log 76). -/
def Obligations.RequestChecks : Prop :=
  -- CheckingOrder
  (∀ (s : State) (q : EngReq) (n : Nat), s.sys.reaches q n → q.par.length ≤ 4100 → ∀ x ∈ engineCommands q, ∀ r, opRow x.2 = some r →
    let d := s.sys
    let p := d.port n
    let refused := fun (st : Nat) (data : List Byte) => DoesSys x.1 s (d.refuse n x.2 q.seq.toNat (st, data))
    let limit := if p.session = 2 ∧ bit p.mask 15 then 4100 else 256
    let allowed := portCode n ∈ r.ports ∧ ¬(x.2 = 0x66 ∧ s.nv.lifecycle = 2) ∧ (4 ≤ n → s.hw.policyBars x.2 = false)
    (2 ≤ q.flags.toNat → refused 6 [0xFF#8, 0xFF#8]) ∧
    (q.flags.toNat ≤ 1 →
      (d.zeroizing = true → refused 1 []) ∧
      (d.zeroizing = false →
        (¬ allowed → refused 4 []) ∧
        (allowed → p.unnegotiated x.2 = true → refused 5 []) ∧
        (allowed → p.unnegotiated x.2 = false → limit < q.par.length → refused 6 [2#8, 0#8]) ∧
        (allowed → p.unnegotiated x.2 = false → q.par.length ≤ limit →
          (∀ k, q.flags = 1#8 → p.stored = some (x.2, q.seq.toNat, k) → DoesSys x.1 s (d.putReply n k)) ∧
          (q.flags = 0#8 → d.held r q.par = true → refused 1 []) ∧
          (q.flags = 0#8 → d.held r q.par = false → d.misfit r q.par = true → refused 6 [0xFF#8, 0xFF#8]))))) ∧
  -- OneCommandAtATime
  (∀ (s : State) (q : EngReq), q.port = .hp → s.sys.hpListens = true → ∀ x ∈ engineCommands q,
    let d := s.sys
    ((d.port 1).exec ≠ none → DoesSys x.1 s (d.modPort 1 fun p => { p with overrun := min 65535 (p.overrun + 1) })) ∧
    ((d.port 1).exec = none → (d.port 1).ready ≠ none → q.flags = 2#8 → q.par.length ≤ 4100 → DoesSys x.1 s
      ((d.modPort 1 fun p => { p with ready := none, lost := min 255 (p.lost + 1) }).refuse 1 x.2 q.seq.toNat (6, [0xFF#8, 0xFF#8]))))

/-- The commands that write the store or the fuses: each begins, its port executes it, nothing is valid before the commit;
a second one waits its turn. A class N command that arrives while another runs waits; CLASS_N_BEGIN begins the oldest.
Transactions and refusals as logs 60, 70 and 86 have them. -/
def Obligations.ClassNCommands : Prop :=
  -- ClassN
  (∀ (s : State) (q : EngReq) (n : Nat), n < 8 → s.hw.eng.ports.length = 8 → s.hw.eng.ncur = none → s.hw.eng.nq = [] →
    let d := s.sys
    let b := byteAt q.par
    let v := s.nv
    let begun := fun (r : Sys) (op : Nat) => r.eng.ncur = some ⟨n, op, q.seq.toNat, q.par⟩ ∧ (r.port n).exec = some (op, q.seq.toNat) ∧
      (r.port n).ready = none
    let m := fieldAt q.par 0 7
    let rows := fun (off len : Nat) => (off + len - 1) / 64 + 1 - off / 64
    let record := fun (i : Instr) (op : Nat) (x : NvRec) => v.fresh < 32768 → Begins i s op q n fun r =>
      begun r op ∧ d.Journals r 1 [x] (.reply 0 []) ∧ r.nv.policy = v.policy ∧ r.nv.runSet = v.runSet ∧ r.nv.factoryLock = v.factoryLock
    (m < 2 ^ 50 → needsHold ((List.range 50).filter fun k => bit m k || [0, 1, 21, 48].contains k) = true →
      record (.runsetWrite q) 0x15 (.runSet m)) ∧
    (2 ^ 50 ≤ m → Refuses (.runsetWrite q) s 0x15 q n 6 [6#8, 0#8]) ∧
    (b 0 ≤ 4 → record (.startPolicy q) 0x16 (.policy (b 0))) ∧
    (4 < b 0 → Refuses (.startPolicy q) s 0x16 q n 6 [0#8, 0#8]) ∧
    (let off := fieldAt q.par 1 4
     let len := q.par.length - 5
     (b 0 = 3 → 6 ≤ q.par.length → off + len ≤ 0x100000 → v.fresh + rows off len ≤ 32768 → Begins (.nvmWrite q) s 0x61 q n fun r =>
       begun r 0x61 ∧ d.Journals r (rows off len) [] (.reply 0 (leBytes 2 (rows off len + 1)))) ∧
     (b 0 ≠ 3 → Refuses (.nvmWrite q) s 0x61 q n 4 [])) ∧
    (let off := fieldAt q.par 1 2
     let len := q.par.length - 3
     (b 0 = 0 ∨ b 0 = 1 ∧ n = 0 ∧ v.factoryLock = false → 4 ≤ q.par.length → off + len ≤ 0x4000 → v.fresh + rows off len ≤ 32768 →
       Begins (.calWrite q) s 0x63 q n fun r => begun r 0x63 ∧ d.Journals r (rows off len) [] (.reply 0 [])) ∧
     (b 0 = 1 → n = 1 → Refuses (.calWrite q) s 0x63 q n 4 []) ∧
     (b 0 = 1 → n = 0 → v.factoryLock = true → Refuses (.calWrite q) s 0x63 q n 8 [])) ∧
    (let changed := (List.range 256).filter fun k => v.rowBytes (v.phys (256 + k)) ≠ v.rowBytes (v.phys k)
     (changed ≠ [] → v.fresh + changed.length ≤ 32768 → Begins (.restoreFactory q) s 0x64 q n fun r => begun r 0x64 ∧
       d.Journals r changed.length [] (.reply 0 (leBytes 2 (changed.length + 1)))) ∧
     (changed = [] → Begins (.restoreFactory q) s 0x64 q n fun r => r.eng.work = s.hw.eng.work ∧ r.eng.ncur = none ∧
       (n < 4 → (r.port n).ready = some (replyPacket 0x64 0 q.seq.toNat [0#8, 0#8])))) ∧
    (v.factoryLock = false → record (.factoryLock q) 0x65 .factoryLock) ∧
    (v.factoryLock = true → Refuses (.factoryLock q) s 0x65 q n 8 []) ∧
    (s.hw.eng.devKey ≠ none → bit (b 0) 6 = false → v.spares.Nodup → 2 ≤ v.spares.length → Begins (.secretStore q) s 0x66 q n fun r =>
      begun r 0x66 ∧ d.Journals r 2 [.secret (b 0 % 64) (bit (b 0) 7) (q.par.drop 1)] (.reply 0 []) ∧ r.nv.secrets = v.secrets) ∧
    (v.lifecycle = 0 ∧ b 0 = 1 ∧ (∃ k < 4, v.liveSlot k = true) ∨ v.lifecycle = 1 ∧ b 0 = 2 → Begins (.lifecycleSet q) s 0x92 q n fun r =>
      begun r 0x92 ∧ r.eng.fuse = some (.life (b 0)) ∧ r.nv = v) ∧
    (v.lifecycle = 2 → Refuses (.lifecycleSet q) s 0x92 q n 6 [0#8, 0#8]) ∧
    (v.lifecycle = 0 → b 0 ≤ 3 → bit v.prg (b 0) = false → bit v.rev (b 0) = false → Begins (.keyhashProgram q) s 0x93 q n fun r =>
      begun r 0x93 ∧ r.eng.fuse = some (.keyhash (b 0) (fieldAt q.par 1 32)) ∧ r.nv = v) ∧
    (v.lifecycle ≠ 0 → Refuses (.keyhashProgram q) s 0x93 q n 4 []) ∧
    (b 0 ≤ 3 → bit v.rev (b 0) = false → (v.liveSlot (b 0) = true → ∃ k < 4, k ≠ b 0 ∧ v.liveSlot k = true) →
      Begins (.keyhashRevoke q) s 0x94 q n fun r => begun r 0x94 ∧ r.eng.fuse = some (.revoke (b 0)) ∧ r.nv = v) ∧
    (b 0 ≤ 3 → v.liveSlot (b 0) = true → (∀ k < 4, k ≠ b 0 → v.liveSlot k = false) → Refuses (.keyhashRevoke q) s 0x94 q n 8 [])) ∧
  -- ClassNQueue
  (∀ (s : State) (q : EngReq) (n : Nat) (c x : NReq) (rest : List NReq), n < 8 → s.hw.eng.ports.length = 8 →
    (s.hw.eng.ncur = some c → byteAt q.par 0 ≤ 4 → Begins (.startPolicy q) s 0x16 q n fun r =>
      r.eng.ncur = some c ∧ r.eng.nq = s.hw.eng.nq ++ [⟨n, 0x16, q.seq.toNat, q.par⟩] ∧ r.eng.work = s.hw.eng.work ∧ r.acts = []) ∧
    (s.hw.eng.ncur = none → s.hw.eng.nq = x :: rest → s.sys.zeroizing = false → s.hw.eng.jobOp ≠ 0x90 → x.op = 0x16 →
      byteAt x.par 0 ≤ 4 → s.nv.fresh < 32768 → LeavesSys .classNBegin s fun r => r.eng.ncur = some x ∧ r.eng.nq = rest ∧
        s.sys.Journals r 1 [.policy (byteAt x.par 0)] (.reply 0 [])))

/-- The commands that begin a job. See logs 76, 77. -/
def Obligations.ClassJCommands : Prop :=
  ∀ (s : State) (q : EngReq) (n : Nat), n < 8 → s.hw.eng.ports.length = 8 → s.hw.pwr.dom.length = 50 →
    let d := s.sys
    let b := byteAt q.par
    let job := fun (r : Sys) (op : Nat) (par : List Byte) (res : Option Answer) => r.eng.job = some ⟨n, op, q.seq.toNat, par, res⟩
    let goes := fun (r : Sys) (st : Nat) (g : PState) => r.hw.rd F.SYS_STATE_TARGET = st ∧ r.hw.rd F.SYS_STATE_TRANSIT = 1 ∧
      r.hw.pwr.goal = .enter g ∧ job r 0x10 q.par none ∧ r.hw.pwr.dom = s.hw.pwr.dom ∧ r.acts = []
    ((∀ m ∈ [0, 1, 6], s.hw.masterBusy m = false) → s.hw.on 2 = true → s.hw.eng.img.header = [] →
      Begins (.resetSoft q) s 0x04 q n fun r => job r 0x04 q.par (some (0, [])) ∧ r.hw.rd F.SYS_RSTCAUSE_APP = 1 ∧
        r.hw.rd F.EFT_FLAGS_FLAGS = 0 ∧ (∀ e, (r.hw.eft e).run = if (s.hw.eft e).run = .stopped then .stopped else .ready) ∧
        (∃ x, r.hw.recLog.head? = some x ∧ x.kind = 9) ∧ r.hw.mem = s.hw.mem) ∧
    ((∃ m ∈ [0, 1, 6], s.hw.masterBusy m = true) → s.hw.on 34 = false → Begins (.resetSoft q) s 0x04 q n fun r =>
      job r 0x04 q.par none ∧ r.hw.efts = s.hw.efts ∧ r.hw.regs = s.hw.regs) ∧
    (s.hw.pwr.failSafe = false → (n ≠ 0 → s.hw.guarded (fun _ => true) = false) → b 1 ≤ 1 →
      (s.hw.pstate = 2 → b 0 = 2 → Begins (.powerState q) s 0x10 q n fun r => job r 0x10 q.par (some (0, [2#8])) ∧ r.hw.pwr = s.hw.pwr) ∧
      (s.hw.pstate = 2 → b 0 = 1 → Begins (.powerState q) s 0x10 q n fun r => goes r 1 .standby ∧ r.hw.pwr.waves = [] ∧
        ∀ k, k ∈ r.hw.pwr.offs ↔ k < 50 ∧ k ∉ [0, 1, 48] ∧ s.hw.on k = true) ∧
      (s.hw.pstate = 1 → b 0 = 2 → Begins (.powerState q) s 0x10 q n fun r => goes r 2 .run ∧ r.hw.pwr.offs = [] ∧
        r.hw.pwr.xtEnabled = true) ∧
      (s.hw.pstate = 1 → b 0 = 0 → Begins (.powerState q) s 0x10 q n fun r => goes r 0 .deep ∧ r.hw.pwr.waves = [] ∧
        ∀ k, k ∈ r.hw.pwr.offs ↔ k ∈ [49, 48, 1] ∧ s.hw.on k = true)) ∧
    (d.domainCheck n q.par = none → (∃ k < 50, bit (fieldAt q.par 7 7) k = true ∧ s.hw.on k = true) →
      Begins (.domainSet q) s 0x11 q n fun r => job r 0x11 q.par none ∧ r.hw.pwr.goal = .domains ∧
        (∀ k, k ∈ r.hw.pwr.offs ↔ k < 50 ∧ bit (fieldAt q.par 7 7) k = true ∧ s.hw.on k = true) ∧
        (∀ k, k ∈ r.hw.pwr.waves.flatten ↔ k < 50 ∧ bit (fieldAt q.par 0 7) k = true ∧ s.hw.on k = false) ∧
        (∀ k, s.hw.domState k ≠ .retain → r.hw.domState k = s.hw.domState k)) ∧
    (∀ st data, d.domainCheck n q.par = some (st, data) → Refuses (.domainSet q) s 0x11 q n st data) ∧
    (s.hw.eng.img.state = 1 → s.hw.eng.img.src = 0 → s.hw.eng.img.data.length = s.hw.eng.img.total →
      Begins (.imageEnd q) s 0x22 q n fun r => job r 0x22 q.par none ∧ r.hw.on 49 = true ∧
        r.eng.img = { s.hw.eng.img with checking := true, port := portCode n }) ∧
    (s.hw.eng.img.state ≠ 1 → Refuses (.imageEnd q) s 0x22 q n 6 [0xFF#8, 0xFF#8]) ∧
    (Begins (.imageBootFlash q) s 0x23 q n fun r => job r 0x23 q.par none ∧ r.hw.on 49 = true ∧
      r.eng.img = { Img.reset with state := 1, src := 1, checking := true, port := portCode n, resident := s.hw.eng.img.resident } ∧
      ∀ k, 8 ≤ k → k ≤ 13 → r.hw.rd F.GPI_PIN_FUNC k = 1) ∧
    ((∀ e, (s.hw.eft e).out = []) → Begins (.appStop q) s 0x25 q n fun r => job r 0x25 q.par (some (0, [])) ∧
      (∀ e, (r.hw.eft e).run = .stopped) ∧ (∃ x, r.hw.recLog.head? = some x ∧ x.kind = 7) ∧ r.hw.mem = s.hw.mem) ∧
    (Begins (.linkEnum q) s 0x70 q n fun r => job r 0x70 (leBytes 8 s.hw.brg.enumCount) none ∧
      (s.hw.brg.lead = true → r.hw.brg.enumDue = true) ∧ r.hw.regs = s.hw.regs ∧ r.acts = []) ∧
    (b 0 ≤ 1 → b 1 / 16 ≤ 4 → b 1 % 16 ≤ 3 → fieldAt q.par 2 2 ≠ 0 → s.hw.brg.ports.length = 2 → Begins (.linkPrbs q) s 0x73 q n fun r =>
      job r 0x73 q.par none ∧ (r.hw.bport (b 0)).prbs = some (b 1) ∧ r.hw.rd F.BRG_P_STAT_STATE (b 0) = 4 ∧
        r.hw.rd F.BRG_P_PRBS_ERRS (b 0) = 0) ∧
    (s.hw.reachable (b 0) = true → Begins (.linkForward q) s 0x74 q n fun r =>
      job r 0x74 [BitVec.ofNat 8 (b 0), BitVec.ofNat 8 s.hw.brg.tag] none ∧ r.eng.repFrag = [] ∧ r.hw.mem = s.hw.mem ∧ r.acts = []) ∧
    (s.hw.reachable (b 0) = false → Refuses (.linkForward q) s 0x74 q n 6 [0#8, 0#8]) ∧
    (b 0 ≤ 15 → b 0 ∉ s.hw.mtx.retired → Begins (.bankRetire q) s 0x82 q n fun r => job r 0x82 q.par (some (0, [])) ∧
      b 0 ∈ r.hw.mtx.retired ∧ r.hw.domState (4 + b 0) = .off ∧ (∀ k, k ≠ 4 + b 0 → r.hw.domState k = s.hw.domState k) ∧
      (∀ x ∈ r.hw.mtx.out, x.addr < 0x01000000 → x.addr / 0x100000 ≠ b 0)) ∧
    (b 0 ≤ 15 → b 0 ∈ s.hw.mtx.retired → Refuses (.bankRetire q) s 0x82 q n 6 [0#8, 0#8]) ∧
    (d.debugOpen = false → s.hw.eng.ncur = none → s.hw.eng.zero = false → s.hw.eng.work = [] →
      Begins (.debugOpen q) s 0x90 q n fun r => job r 0x90 q.par none ∧ r.eng.debugUsed = true ∧
        r.eng.work = [zeroWork true .debug] ∧ r.nv = s.nv) ∧
    (Begins (.resetSystem q) s 0x81 q n fun r => r.hw.rd F.SYS_RSTCAUSE_SYSCMD = 1 ∧ r.hw.rd F.SYS_STATE_STATE = 1 ∧
      r.hw.pwr.starting = true ∧ r.hw.eng = Eng.reset ∧ r.hw.recLog = s.hw.recLog ∧ r.hw.evLog = s.hw.evLog ∧
      r.hw.efts = Vector.replicate 4 Eft.reset)

/-- Transactions of SP, HP and DP: the port status byte first, the reply once, framing errors counted; a whole request is
the command that it spells; where SP does not listen it is held low. Command packets of the link: a bad CRC is counted and
nothing else; a whole request is the command that it spells; a reply ends the forwarded job. Nodes that no UP port leads to
become unreachable. LK slots are given as log 78 says, lost nodes as log 79 says. -/
def Obligations.PortTransactions : Prop :=
  -- PortTransactions
  (∀ (s : State) (k : Nat) (bs : List Byte) (q : EngReq), let d := s.sys
    let shifted := fun (n : Nat) (l : List Byte) => d.modEng fun e => { e with out := fitBytes n l }
    let psb := fun (i : Nat) => BitVec.ofNat 8 (128 + 8 * b2n s.hw.eng.zero + 4 * b2n (d.port i).exec.isSome
      + 2 * b2n ((d.port i).notices != 0) + b2n (d.port i).ready.isSome)
    let frames := fun (i : Nat) => (shifted 1 [psb i]).modPort i fun p => { p with framing := min 255 (p.framing + 1) }
    let readout := fun (i : Nat) => match (d.port i).ready with
      | some p => if p.length < k then (shifted k (psb i :: p)).modPort i fun p => { p with ready := none } else shifted k (psb i :: p)
      | none => shifted k [psb i]
    let pkt := fun (op : Nat) => withCrc ([0xA5#8] ++ leBytes 1 op ++ leBytes 2 q.par.length ++ [q.seq, q.flags] ++ q.par)
    let after := fun (n : Nat) (l : List Byte) => ({ s with hw := (shifted n l).hw } : State)
    (d.spListens = true → DoesSys .spPsbRead s (shifted 1 [psb 0]) ∧ DoesSys .spFramingError s (frames 0) ∧
      DoesSys (.spRead k) s (readout 0) ∧ (bs.head? ≠ some 0xA5#8 → DoesSys (.spRequest bs) s (shifted bs.length [psb 0])) ∧
      (q.port = .sp → q.par.length ≤ 4100 → ∀ x ∈ engineCommands q,
        exec (.spRequest (pkt x.2)) s = exec x.1 (after (pkt x.2).length [psb 0])) ∧
      (∀ body, 6 ≤ body.length → body.head? = some 0xA5#8 → fieldAt body 2 2 = body.length - 6 → fieldAt body 2 2 ≤ 4100 →
        s.hw.pwr.goal ≠ .enter .deep → (d.port 0).exec = none → (d.port 0).ready = none → ∀ crc, crc < 65536 → crc ≠ crc16 body →
        DoesSys (.spRequest (body ++ leBytes 2 crc)) s
          ((shifted (body.length + 2) [psb 0]).refuse 0 (byteAt body 1) (byteAt body 4) (2, [])))) ∧
    (d.spListens = false → s.hw.pwr.inPor = false → DoesSys .spPsbRead s (shifted 1 []) ∧ DoesSys (.spRead k) s (shifted k []) ∧
      DoesSys (.spRequest bs) s (shifted bs.length []) ∧ DoesSys .spFramingError s (shifted 1 [])) ∧
    (d.hpListens = true → DoesSys .hpPsbRead s (shifted 1 [psb 1]) ∧ DoesSys .hpFramingError s (frames 1) ∧
      ∀ quad, (quad = false ∨ (d.port 1).session = 2 ∧ bit (d.port 1).mask 16 = true → DoesSys (.hpRead quad k) s (readout 1) ∧
          (bs.head? ≠ some 0xA5#8 → DoesSys (.hpRequest quad bs) s d) ∧
          (q.port = .hp → q.par.length ≤ 4100 → ∀ x ∈ engineCommands q, exec (.hpRequest quad (pkt x.2)) s = exec x.1 s)) ∧
        (quad = true → (d.port 1).session ≠ 2 → DoesSys (.hpRead quad k) s (frames 1) ∧ DoesSys (.hpRequest quad bs) s (frames 1))) ∧
    (d.dpListens = true → (bs.head? ≠ some 0xA5#8 → DoesSys (.dpDrScan bs k) s (readout 3)) ∧
      (q.port = .dp → q.par.length ≤ 4100 → ∀ x ∈ engineCommands q,
        exec (.dpDrScan (pkt x.2) k) s = exec x.1 { s with hw := (readout 3).hw }))) ∧
  -- CommandPackets
  (∀ (s : State) (p : Fin 2) (k : LPkt) (q : EngReq) (j : Job) (node : Fin 128) (tag : Fin 256), s.hw.portUp p = true →
    (k.crcOk = false → DoesSys (.cmdreqPacket p k) s (s.sys.mapHw fun h => h.inc F.BRG_P_ERR_CRC 1 p) ∧
      DoesSys (.cmdrepPacket p k) s (s.sys.mapHw fun h => h.inc F.BRG_P_ERR_CRC 1 p)) ∧
    (k.crcOk = true → k.dst = s.hw.nodeId → k.frag = 0 → k.last = true →
      (k.kind = 1 → q.port = .lk node tag → k.src = node.val → k.tag = tag.val → s.hw.answersTo k.src k.tag 1 = [] → q.par.length ≤ 1008 →
        ∀ x ∈ engineCommands q,
          k.payload = withCrc ([0xA5#8] ++ leBytes 1 x.2 ++ leBytes 2 q.par.length ++ [q.seq, q.flags] ++ q.par) →
          exec (.cmdreqPacket p k) s = exec x.1 { s with hw := s.hw.modEng fun e => { e with
            reqFrag := e.reqFrag.filter fun f => !(f.1 = k.src && f.2.1 = k.tag) } }) ∧
      (k.kind = 2 → s.hw.eng.job = some j → j.op = 0x74 → j.result = none → byteAt j.par 0 = k.src → byteAt j.par 1 = k.tag →
        k.payload.length ≤ min 4096 (s.sys.port j.port).rxmax → LeavesSys (.cmdrepPacket p k) s fun r =>
          r.eng.job = some { j with result := some (0, k.payload) } ∧ r.hw.mem = s.hw.mem ∧ r.hw.efts = s.hw.efts)) ∧
    (s.hw.on 21 = true → (∃ n < 128, bit (s.hw.rd F.BRG_REACH_BITS (n / 32)) (n % 32) = true ∧ s.hw.leadsTo n = false) →
      LeavesSys .pathLost s fun r => (∀ n < 128, bit (r.hw.rd F.BRG_REACH_BITS (n / 32)) (n % 32) =
        (bit (s.hw.rd F.BRG_REACH_BITS (n / 32)) (n % 32) && s.hw.leadsTo n)) ∧ bit (r.hw.rd (evtF bBRG)) 5 = true ∧ r.hw.mem = s.hw.mem))

/-- The mailbox: the request buffer, SEND, the copy, RFREE and the reply as it is placed. -/
def Obligations.Mailbox : Prop :=
  ∀ (s : State) (m : Fin 12) (w : Fin 1027) (v : Word) (q : EngReq) (rest : List Byte), let d := s.sys
    let only := fun (r : Sys) => s.hw.OnlyRegs r.hw ∧ r.nv = s.nv ∧ r.acts = []
    let buffer := (List.range 1027).flatMap fun k => leBytes 4 (s.hw.rd F.MBX_REQUEST k)
    s.hw.on 2 = true → s.hw.reaches m = true →
    (s.hw.rdB F.MBX_CTRL_SEND = false →
      (LeavesSys (.mbxRequestWrite m w v) s fun r => only r ∧ r.hw.rd F.MBX_REQUEST w = v.toNat ∧
        ∀ a, a ≠ 0x04141000 + 4 * w.val → r.hw.reg a = s.hw.reg a) ∧
      (∀ c, LeavesSys (.mbxSend m c) s fun r => only r ∧ r.hw.rd F.MBX_CTRL_SEND = 1 ∧
        ∀ a, a ≠ 0x04140040 → r.hw.reg a = s.hw.reg a)) ∧
    (s.hw.rdB F.MBX_CTRL_SEND = true →
      DoesSys (.mbxRequestWrite m w v) s (d.mapHw fun h => h.raiseBit bMBX 3) ∧
      (LeavesSys (.mbxSend m false) s fun r => only r ∧ r.hw.rd F.MBX_CTRL_SEND = 1 ∧ r.hw.rd (collideIgnored bMBX) = 1) ∧
      (d.mbListens = true → byteAt buffer 0 ≠ 0xA5 →
        DoesSys .mbxRequestCopied s (d.mapHw fun h => h.wr F.MBX_CTRL_SEND 0) ∧
        (LeavesSys (.mbxSend m true) s fun r => only r ∧ r.hw.rd F.MBX_CTRL_SEND = 1 ∧ r.hw.rd (collideRestart bMBX) = 1)) ∧
      (d.mbListens = true → q.port = .mb → q.par.length ≤ 4100 → ∀ x ∈ engineCommands q,
        buffer = withCrc ([0xA5#8] ++ leBytes 1 x.2 ++ leBytes 2 q.par.length ++ [q.seq, q.flags] ++ q.par) ++ rest →
        exec .mbxRequestCopied s = exec x.1 { s with hw := s.hw.wr F.MBX_CTRL_SEND 0 })) ∧
    (LeavesSys (.mbxRfree m) s fun r => only r ∧ r.hw.rd F.MBX_STAT_RFULL = 0 ∧ r.hw.rd F.MBX_CTRL_SEND = s.hw.rd F.MBX_CTRL_SEND) ∧
    (∀ p, (d.port 2).ready = some p → s.hw.eng.ports.length = 8 → s.hw.rdB F.MBX_STAT_RFULL = false → s.hw.pstate = 2 → p.length ≤ 4104 →
      LeavesSys .mbxReplyPlaced s fun r => (r.port 2).ready = none ∧ r.hw.rd F.MBX_STAT_RFULL = 1 ∧ r.hw.rd F.MBX_STAT_RLEN = p.length ∧
        (∀ i < p.length, byteAt (leBytes 4 (r.hw.rd F.MBX_REPLY (i / 4))) (i % 4) = byteAt p i) ∧ bit (r.hw.rd (evtF bMBX)) 0 = true ∧
        r.nv = s.nv ∧ r.acts = [])

/-- Ends of jobs, LK slots, telemetry and background slots. See logs 75, 78, 85. -/
def Obligations.EngineEvents : Prop :=
  ∀ (s : State) (slot : Fin 4) (j : Job) (a : Answer) (b : Fin 16), let d := s.sys
    (DoesSys (.lkSlotTimeout slot) s (d.modPort (4 + slot.val) fun p => { p with
      session := 0, mask := 0, rxmax := 24, stored := none, node := none, ready := none, discard := p.exec.isSome })) ∧
    (s.hw.eng.job = some j → j.result = some a → DoesSys .jobComplete s
      ((d.modEng fun e => { e with job := none }).complete j.port j.op j.seq a)) ∧
    (s.hw.eng.job = none → DoesSys .jobComplete s d) ∧
    (s.hw.eng.job = some j → j.result = none → j.op = 0x74 → DoesSys .jobComplete s d ∧
      (j.port < 4 → s.hw.eng.ports.length = 8 → LeavesSys .linkForwardTimeout s fun r => r.eng.job = none ∧
        ((d.port j.port).discard = false → (r.port j.port).ready = some (replyPacket 0x74 11 j.seq [])) ∧ r.hw.mem = s.hw.mem)) ∧
    (s.hw.eng.job = some j → j.result = none → j.op = 0x70 → j.par = leBytes 8 s.hw.brg.enumCount → j.port < 4 →
      s.hw.eng.ports.length = 8 → LeavesSys .linkEnumTimeout s fun r => r.eng.job = none ∧
        ((d.port j.port).discard = false → (r.port j.port).ready = some (replyPacket 0x70 11 j.seq []))) ∧
    (s.hw.eng.job = some j → j.result = none → j.op = 0x70 → leBytes 8 s.hw.brg.enumCount ≠ j.par → j.port < 4 →
      s.hw.eng.ports.length = 8 → (d.port j.port).discard = false → LeavesSys .jobComplete s fun r =>
        (r.port j.port).ready = some (replyPacket 0x70 0 j.seq (leBytes 1 (s.hw.rd F.BRG_STAT_NODES) ++ leBytes 1 s.hw.nodeId))) ∧
    (∀ n e l, s.hw.eng.job = some j → j.op = 0x73 → j.port < 4 → s.hw.eng.ports.length = 8 → (d.port j.port).discard = false →
      byteAt j.par 1 / 16 ≠ 3 → LeavesSys (.linkPrbsDone n e l 1) s fun r => r.eng.job = none ∧
        (r.port j.port).ready = some (replyPacket 0x73 0 j.seq (leBytes 8 n.toNat ++ leBytes 4 e.toNat ++ leBytes 2 l.toNat ++ [1#8]
          ++ leBytes 1 (byteAt j.par 1))) ∧ bit (r.hw.rd (evtF bBRG)) 13 = true ∧ (r.hw.bport (byteAt j.par 0)).prbs = none) ∧
    (d.spListens = true → s.hw.eng.telPeriod ≠ 0 → s.hw.eng.telRecs.length = 4 → LeavesSys .telemetrySample s fun r =>
      (∀ g, 1 ≤ g → g ≤ 3 → r.eng.telRecs[g]? = some (if bit s.hw.eng.telMask g then some (s.hw.sample g).2
        else s.hw.eng.telRecs.getD g none)) ∧ r.hw.regs = s.hw.regs ∧ r.hw.mem = s.hw.mem ∧ r.acts = []) ∧
    (s.hw.eng.telPeriod = 0 → DoesSys .telemetrySample s d) ∧
    (s.hw.on 21 = true →
      let h := (s.hw.inc F.LDG_BGSTAT_FORCED).raiseBit bLDG 7
      DoesSys (.backgroundForcedSlot (.refresh b)) s (d.mapHw fun _ => if s.hw.mtx.sleep.getD b 0 = 2
        then { h with ldg := { h.ldg with refreshes := h.ldg.refreshes.modify b (· + 1) } } else h) ∧
      DoesSys (.backgroundForcedSlot .phy) s (d.mapHw fun _ => if s.hw.on 32 ∧ s.hw.rd F.TIM_STAT_STATE = 2
        then { h with ldg := { h.ldg with phySteps := h.ldg.phySteps + 1 } } else h) ∧
      DoesSys (.backgroundForcedSlot .wearMove) s (d.mapHw fun _ => { h with eng := { h.eng with
        wearRow := h.eng.wear.isSome, wearDue := false } }) ∧
      (s.hw.eng.telPeriod = 0 → DoesSys (.backgroundForcedSlot .telemetry) s (d.mapHw fun _ => h)) ∧
      (∀ e, s.hw.bankUp b = false → DoesSys (.backgroundForcedSlot (.patrol b e)) s (d.mapHw fun _ => h)) ∧
      (∀ p : Fin 4, ∀ e, s.hw.ldg.wbq.getD p [] = [] → DoesSys (.backgroundForcedSlot (.writeback p e)) s (d.mapHw fun _ => h)))

/-- Presentation: a request waits in the cases of R175, reaches its target, or ends with a decode error, recorded; LOCK
opens the one lock. A held request is presented when its case has ended. A target's answer: the bytes of a read; the bytes
of a write stored; an uncorrectable error answers with an error and stores nothing. Details of a lock are the model's
reading (log 39). -/
def Obligations.MatrixTraffic : Prop :=
  -- MatrixRequests
  (∀ (s : State) (r : MReq) (i : Nat), s.hw.on 21 = true → s.hw.silent r.master = false →
    let h := s.hw
    let same := fun (q : MReq) => q.master = r.master ∧ q.id = r.id
    let waits := (∃ q ∈ h.mtx.out, same q ∧ reqTarget q ≠ reqTarget r) ∨ (∃ q ∈ h.mtx.held, same q) ∨ 8 ≤ h.outCount r.master r.write ∨
      ∃ q ∈ h.mtx.stalled, same q.1
    let free := h.heldBack h.mtx.held r = false
    let reached := fun (g : Hw) => g.mtx.out = h.mtx.out ++ [r] ∧ g.mem = h.mem ∧ g.efts = h.efts ∧
      (r.lock = true → g.mtx.lock = some ⟨r.master, r.id, reqTarget r, granuleOf (reqTarget r) r.addr, 1, h.cycle⟩) ∧
      (r.lock = false → h.mtx.lock = none → g.mtx.lock = none)
    let answered := fun (g : Hw) (k : Nat) => (∃ x, g.mtx.resp.getLast? = some x ∧ x.master = r.master.val ∧ x.id = r.id ∧
      x.addr = r.addr ∧ x.data = none) ∧ g.mtx.out = h.mtx.out ∧ g.mem = h.mem ∧ bit (g.rd (evtF bMTX)) 0 = true ∧
      (h.rdB F.MTX_DERRINFO_VALID = false → g.rd F.MTX_DERRINFO_KIND = k ∧ g.rd F.MTX_DERRINFO_MASTER = r.master.val ∧
        g.rd F.MTX_DERRADDR_ADDR = r.addr % 2 ^ 32)
    (waits → Does (.matrixRequest r) s { h with mtx := { h.mtx with held := h.mtx.held ++ [r] } }) ∧
    (free → h.decodeErr r = none → Leaves (.matrixRequest r) s fun g => reached g ∧ g.mtx.held = h.mtx.held) ∧
    (free → targetOf r.addr = none → h.brg.serving = [] → Leaves (.matrixRequest r) s fun g => answered g 0) ∧
    (free → (∃ t ∈ targetOf r.addr, (pathOf r.master t = 0 ∨ r.write = true ∧ pathOf r.master t = 1)) → h.brg.serving = [] →
      Leaves (.matrixRequest r) s fun g => answered g 1) ∧
    (h.mtx.held[i]? = some r → h.heldBack (h.mtx.held.take i) r = false → h.decodeErr r = none → Leaves (.heldRequestPresented i) s fun g =>
      reached g ∧ g.mtx.held = h.mtx.held.eraseIdx i) ∧
    (h.mtx.held[i]? = some r → h.heldBack (h.mtx.held.take i) r = true → Does (.heldRequestPresented i) s h)) ∧
  -- MatrixResponses
  (∀ (s : State) (r : MReq) (syn : Nat), let h := s.hw
    h.mtx.out = [r] → h.brg.serving = [] → reqTarget r < 4 → h.mtx.waking = [] → h.pwr.filling = [] → ¬(r.master.val = 6 ∧ h.regRuns = true) →
    let last := fun (g : Hw) (d : Option (List Byte)) => g.mtx.resp.getLast? = some ⟨r.master, r.id, r.addr, r.write, d⟩ ∧ g.mtx.out = []
    (r.write = false → Leaves (.matrixResponse 0 .clean) s fun g => last g (some (h.bytes r.addr (reqLen r))) ∧ g.mem = h.mem ∧ g.regs = h.regs) ∧
    (r.write = true → Leaves (.matrixResponse 0 .clean) s fun g => last g (some []) ∧ g.regs = h.regs ∧
      ∀ a, g.byte a = if r.addr ≤ a ∧ a < r.addr + reqLen r then (fitBytes (reqLen r) r.data).getD (a - r.addr) 0 else h.byte a) ∧
    (r.write = false → Leaves (.matrixResponse 0 (.double syn)) s fun g => last g none ∧ g.mem = h.mem ∧
      bit (g.rd (evtF bMTX)) 2 = true ∧ (h.rdB F.MTX_ECCINFO_VALID = false → g.rd F.MTX_ECCINFO_UE = 1 ∧
        g.rd F.MTX_ECCINFO_BANK = r.addr / 0x100000 ∧ g.rd F.MTX_ECCINFO_SYNDROME = syn % 256)) ∧
    (∀ i e, 1 ≤ i → Does (.matrixResponse i e) s h))

/-- Promotion, STALL regions, path holds and bank retirement. Remote windows: a served request of another node, refused
while the window is closed or read-only; the answers to this node's accesses, their retries and their time-out. BRG_WERR
keeps the last error (log 41). -/
def Obligations.MatrixAndRemote : Prop :=
  -- MatrixTimeouts
  (∀ (s : State) (r : MReq) (i limit n : Nat) (l : MLock) (b : Fin 16), let h := s.hw
    let normal := h.classOf r = .normal ∨ h.classOf r = .low
    (h.mtx.out[i]? = some r → (normal → Does (.requestAgePromotion i) s { h with mtx := { h.mtx with promoted := h.mtx.promoted ++ [r] } }) ∧
      (¬ normal → Does (.requestAgePromotion i) s h)) ∧
    (h.mtx.stalled[i]? = some (r, limit) →
      (h.decodeErr r = none → Leaves (.stallRelease i) s fun g => g.mtx.out = h.mtx.out ++ [r] ∧
        g.mtx.stalled = h.mtx.stalled.eraseIdx i ∧ g.mem = h.mem) ∧
      (h.decodeErr r ≠ none → Does (.stallRelease i) s h) ∧
      (limit = 0 → Does (.stallTimeout i) s h) ∧
      (limit ≠ 0 → h.brg.serving = [] → Leaves (.stallTimeout i) s fun g => g.mtx.stalled = h.mtx.stalled.eraseIdx i ∧
        g.mtx.out = h.mtx.out ∧ g.mtx.resp.getLast? = some ⟨r.master, r.id, r.addr, r.write, none⟩ ∧ bit (g.rd (evtF bMTX)) 5 = true ∧
        (h.rdB F.MTX_DERRINFO_VALID = false → g.rd F.MTX_DERRINFO_KIND = 6))) ∧
    (h.mtx.lock = some l → Leaves (.pathHoldTimeout none n) s fun g => g.mtx.lock = none ∧
      g.mtx.broken = h.mtx.broken ++ [(l.master, l.id, l.target)] ∧ bit (g.rd (evtF bMTX)) 3 = true ∧
      (∃ x, g.recLog.head? = some x ∧ x.kind = 2 ∧ x.unit = l.master ∧ x.sub = l.target) ∧ g.mem = h.mem) ∧
    (h.mtx.lock = none → Does (.pathHoldTimeout none n) s h) ∧
    (h.mtx.out[i]? = some r → 1 < r.beats → r.write = false → h.mtx.lock = none → h.brg.serving = [] →
      Leaves (.pathHoldTimeout (some i) n) s fun g => g.mtx.out = h.mtx.out.erase r ∧ g.mem = h.mem ∧
        g.mtx.resp.getLast? = some ⟨r.master, r.id, r.addr, r.write, none⟩ ∧ bit (g.rd (evtF bMTX)) 3 = true) ∧
    (let thr := h.rd F.MTX_ECCCFG_UETHR
     (thr = 0 ∨ h.rd F.MTX_ECCCNT_UE b < thr → Does (.bankRetirement b) s h) ∧
     (thr ≠ 0 → thr ≤ h.rd F.MTX_ECCCNT_UE b → b.val ∉ h.mtx.retired → h.pwr.dom.length = 50 → h.voc.plen = 0 → Leaves (.bankRetirement b) s fun g =>
       b.val ∈ g.mtx.retired ∧ g.domState (4 + b) = .off ∧ (∀ k, k ≠ 4 + b.val → g.domState k = h.domState k) ∧
       (∀ a, g.byte a = if a / 0x100000 = b.val then memReset a else h.byte a) ∧
       (∀ x ∈ g.mtx.out, x.addr < 0x01000000 → x.addr / 0x100000 ≠ b.val)))) ∧
  -- RemoteWindows
  (∀ (s : State) (p : Fin 2) (k : LPkt) (w : WinAcc) (node : Fin 128) (tag : Fin 256), let h := s.hw
    let arrives := h.portUp p = true ∧ k.crcOk = true ∧ k.dst = h.nodeId
    let reply := fun (st kind : Nat) (d : List Byte) => ({ h with brg := { h.brg with
      out := h.brg.out ++ [⟨5, k.src, h.nodeId, k.tag, 0, true, leBytes 1 st ++ leBytes 1 kind ++ d, true⟩]
      answered := ⟨k.src, k.tag, k.kind, ⟨5, k.src, h.nodeId, k.tag, 0, true, leBytes 1 st ++ leBytes 1 kind ++ d, true⟩, h.sysTime⟩ ::
        h.brg.answered } } : Hw)
    (arrives → h.nodeId ≠ 0xFF → h.linkAnswered k.src k.tag k.kind = none → h.brg.serving = [] →
      (h.policyByte 2 % 4 = 0 → (k.kind = 3 → Does (.wrdPacket p k) s (reply 1 0 [])) ∧ (k.kind = 4 → Does (.wwrPacket p k) s (reply 1 0 []))) ∧
      (h.policyByte 2 % 4 = 1 → h.policyByte 3 < 16 → k.kind = 4 → Does (.wwrPacket p k) s (reply 2 0 [])) ∧
      (h.policyByte 2 % 4 ≠ 0 → h.policyByte 3 < 16 → h.policyByte 3 ∉ h.mtx.retired → h.on (4 + h.policyByte 3) = true →
        h.mtx.out = [] → h.mtx.held = [] → h.mtx.stalled = [] → h.mtx.lock = none → h.mtx.broken = [] → h.mtx.waking = [] →
        h.pwr.filling = [] → h.mtx.sleep.getD (h.policyByte 3) 0 = 0 →
        let a := 0x100000 * h.policyByte 3 + fieldAt k.payload 0 4 % 0x100000
        (byteAt k.payload 4 = 2 → a % 4 = 0 → byteAt k.payload 5 = 0 →
          (k.kind = 3 → Leaves (.wrdPacket p k) s fun g => g.mem = h.mem ∧
            (∃ x, g.brg.out.getLast? = some x ∧ x.dst = k.src ∧ x.payload = [0#8, 0#8] ++ h.bytes a 4)) ∧
          (k.kind = 4 → h.policyByte 2 % 4 ≠ 1 → k.payload.length = 10 → Leaves (.wwrPacket p k) s fun g =>
            (∀ x, g.byte x = if a ≤ x ∧ x < a + 4 then k.payload.getD (6 + (x - a)) 0 else h.byte x) ∧
            (∃ x, g.brg.out.getLast? = some x ∧ x.dst = k.src ∧ x.payload = [0#8, 0#8]))))) ∧
    (h.portUp p = true → k.crcOk = false → (∀ c ∈ ([.wrdPacket p k, .wwrPacket p k, .wrspPacket p k] : List Instr),
      Does c s (h.inc F.BRG_P_ERR_CRC 1 p))) ∧
    (arrives → k.kind = 5 → h.brg.wins = [] → Does (.wrspPacket p k) s (h.inc F.BRG_WCNT_LATE)) ∧
    (arrives → k.kind = 5 → h.brg.wins = [w] → w.pkt.dst = k.src → w.pkt.tag = k.tag → h.brg.serving = [] →
      (byteAt k.payload 0 = 0 → Leaves (.wrspPacket p k) s fun g => g.brg.wins = [] ∧ g.mtx.out = h.mtx.out.erase w.req ∧
        g.mtx.resp.getLast? = some ⟨w.req.master, w.req.id, w.req.addr, w.req.write,
          some (if w.req.write then [] else fitBytes w.req.size (k.payload.drop 2))⟩ ∧ g.regs = h.regs) ∧
      (byteAt k.payload 0 = 4 → Leaves (.wrspPacket p k) s fun g => g.brg.wins = [{ w with busy := true }] ∧ g.mtx = h.mtx ∧ g.regs = h.regs)) ∧
    (h.brg.wins = [w] → w.pkt.dst = node.val → w.pkt.tag = tag.val →
      (w.busy = true → h.nodeId ≠ 0xFF → Leaves (.windowBusyRetry node tag) s fun g => g.brg.wins = [{ w with busy := false }] ∧
        g.brg.out = h.brg.out ++ [w.pkt] ∧ g.rd F.BRG_WCNT_RETRY = min 65535 (h.rd F.BRG_WCNT_RETRY + 1)) ∧
      (w.busy = false → Does (.windowBusyRetry node tag) s h) ∧
      (h.rd F.BRG_WCFG_TIMEOUT = 0 → Does (.windowTimeout node tag) s h) ∧
      (h.rd F.BRG_WCFG_TIMEOUT ≠ 0 → h.brg.serving = [] → Leaves (.windowTimeout node tag) s fun g => g.brg.wins = [] ∧
        g.mtx.resp.getLast? = some ⟨w.req.master, w.req.id, w.req.addr, w.req.write, none⟩ ∧ g.rd F.BRG_WERR_STATUS = 5 ∧
        g.rd F.BRG_WERR_NODE = node.val ∧ bit (g.rd (evtF bBRG)) 10 = true)))

/-- The ledger's own rows: credits up to the BURST limit, the end of a storm, bank sleep and its wakes, scrub, refresh.
Refresh is only counted (log 34). -/
def Obligations.LedgerRows : Prop :=
  ∀ (s : State) (b : Fin 16) (p : Fin 4) (k syn : Nat), s.hw.on 21 = true →
    let h := s.hw
    let slept := fun (st : Nat) => ({ h with mtx := { h.mtx with sleep := h.mtx.sleep.set b st, waking := h.mtx.waking.filter (· ≠ b.val) } } : Hw)
    let idle := h.on (4 + b) = true ∧ b.val ∉ h.mtx.retired ∧ (∀ x ∈ h.mtx.out, 0x01000000 ≤ x.addr ∨ x.addr / 0x100000 ≠ b.val) ∧
      h.mtx.sleep.getD b 0 = 0
    let allows := fun (n : Nat) => ∀ t ∈ h.bankTol b, n + h.rd F.LDG_SLEEPCFG_GUARD ≤ t
    (1 ≤ k → k ≤ 13 → ∀ c : Fin 16, c.val = k →
      (h.rd F.LDG_ACT_LU (k - 1) = 0 → Does (.creditGain c) s h) ∧
      (h.rd F.LDG_ACT_LU (k - 1) = 400 → h.ldg.acc.getD k 0 = 0 → h.ldg.acc.length = 16 → Does (.creditGain c) s
        (h.wr F.LDG_CRED_CREDIT (min (8 * max 1 (h.rd F.LDG_RES_BURST (k - 1))) (h.rd F.LDG_CRED_CREDIT (k - 1) + 1)) (k - 1)))) ∧
    (h.rd F.LDG_STORMCFG_LO < (h.ldg.wbq.getD p []).length → Does (.scrubStormEnd p) s h) ∧
    ((h.ldg.storm.getD p none).isSome = true → (h.ldg.wbq.getD p []).length ≤ h.rd F.LDG_STORMCFG_LO →
      h.rd F.LDG_STORMCFG_LO ≤ h.rd F.LDG_STORMCFG_HI → Leaves (.scrubStormEnd p) s fun g => g.ldg.storm = h.ldg.storm.set p none ∧
        g.ldg.wbq = h.ldg.wbq ∧ g.mem = h.mem) ∧
    (idle → h.rdB F.LDG_SLEEPCFG_EN_RET = true → allows 1000 → Does (.bankSleepEntry b) s (slept 2)) ∧
    (idle → h.rdB F.LDG_SLEEPCFG_EN_RET = false → h.rdB F.LDG_SLEEPCFG_EN_LIGHT = true → allows 20 → Does (.bankSleepEntry b) s (slept 1)) ∧
    (idle → h.rdB F.LDG_SLEEPCFG_EN_RET = false → h.rdB F.LDG_SLEEPCFG_EN_LIGHT = false → Does (.bankSleepEntry b) s h) ∧
    (h.mtx.sleep.getD b 0 = 2 → ¬ allows 1000 → b.val ∉ h.mtx.waking → Does (.bankWakeAhead b) s
      { h with mtx := { h.mtx with waking := h.mtx.waking ++ [b.val] } }) ∧
    (h.mtx.sleep.getD b 0 = 2 → allows 1000 → Does (.bankWakeAhead b) s h) ∧
    (b.val ∈ h.mtx.waking → Does (.bankWakeDone b) s (slept 0)) ∧
    (b.val ∉ h.mtx.waking → Does (.bankWakeDone b) s h) ∧
    (Leaves (.retentionRefresh b) s fun g => g.mem = h.mem ∧ g.mtx = h.mtx ∧ g.regs = h.regs ∧
      (h.mtx.sleep.getD b 0 ≠ 2 → g = h)) ∧
    (h.on (4 + b) = true → b.val ∉ h.mtx.retired →
      let moved := fun (g : Hw) => g.ldg.patrol = h.ldg.patrol.modify b (fun n => (n + 8) % 0x100000)
      (Leaves (.patrolScrub b .clean) s fun g => moved g ∧ g = { h with ldg := g.ldg }) ∧
      (h.rd F.LDG_STORMCFG_HI > (h.ldg.wbq.getD (b % 4) []).length → h.rdB F.MTX_ECCINFO_VALID = false → (h.ldg.patrol.getD b 0) < 0x100000 →
        Leaves (.patrolScrub b (.single syn)) s fun g => moved g ∧ bit (g.rd (evtF bMTX)) 1 = true ∧ g.rd F.MTX_ECCINFO_BANK = b.val ∧
          g.rd F.MTX_ECCINFO_MASTER = 15 ∧ g.rd F.MTX_ECCINFO_UE = 0 ∧ g.mem = h.mem)) ∧
    (∀ a l, h.ldg.wbq[p.val]? = some (a :: l) → Leaves (.eccWriteback p .clean) s fun g => g.ldg.wbq = h.ldg.wbq.set p l ∧ g.mem = h.mem ∧
      g.mtx = h.mtx ∧ g.rd F.LDG_PORT_WBQ p = min 63 l.length) ∧
    (h.on 32 = true → h.rd F.TIM_STAT_STATE ≠ 2 → Does .phyCalibrationStep s h) ∧
    (h.on 32 = true → h.rd F.TIM_STAT_STATE = 2 → Does .phyCalibrationStep s { h with ldg := { h.ldg with phySteps := h.ldg.phySteps + 1 } })

/-- RUN, the states of the timing engine, PLL_PIX and seams (09 R311 to R316, R332 to R335). -/
def Obligations.DisplayTiming : Prop :=
  ∀ (s : State) (m : Fin 12) (n : Nat), let h := s.hw
    let takes := h.reaches m = true ∧ h.on 31 = true ∧ (h.pen.modeLat = false ∨ m = 2)
    let st := h.rd F.TIM_STAT_STATE
    let starts := fun (g : Hw) => g.rd F.TIM_STAT_STATE = 2 ∧ g.rd F.TIM_POS_LINE = h.rdA F.TIM_V0_VACT ∧ g.tim.ras = h.timActive ∧
      g.rd F.SYS_CLKSTAT_PIX_LOCK = 1 ∧ bit (g.rd (evtF bTIM)) 1 = true ∧ g.mem = h.mem
    (takes → st = 0 → Leaves (.timRunStart m) s fun g => g.rd F.TIM_CTRL_RUN = 1 ∧ g.rd F.TIM_STAT_STATE = 1 ∧ g.rd F.TIM_FRAME_COUNT = 0 ∧
      g.pwr.pixWanted = true ∧ g = { h with regs := g.regs, pwr := { h.pwr with pixWanted := true } }) ∧
    (takes → st = 4 → Does (.timRunStart m) s ((h.wr F.TIM_CTRL_RUN 1).wr F.TIM_STAT_STATE 2)) ∧
    (takes → st = 2 → Does (.timRunStart m) s (h.wr F.TIM_CTRL_RUN 1) ∧
      Does (.timRunStop m) s ((h.wr F.TIM_CTRL_RUN 0).wr F.TIM_STAT_STATE 4)) ∧
    (takes → st = 1 ∨ st = 3 → h.pen.modeLat = false → Leaves (.timRunStop m) s fun g => g.rd F.TIM_STAT_STATE = 0 ∧
      g.rd F.TIM_CTRL_RUN = 0 ∧ g.rd F.SYS_CLKSTAT_PIX_LOCK = 0 ∧ g.pwr.pixWanted = false ∧ g.tim.lines = [] ∧ g.mem = h.mem) ∧
    (h.reaches m = false ∨ h.on 31 = false ∨ h.pen.modeLat = true ∧ m ≠ 2 → Does (.timRunStart m) s h ∧ Does (.timRunStop m) s h) ∧
    (h.pwr.pixWanted = false ∨ h.rdB F.SYS_CLKSTAT_PIX_LOCK = true → Does (.pllPixLock n) s h) ∧
    (h.pwr.pixWanted = true → h.rdB F.SYS_CLKSTAT_PIX_LOCK = false → h.rdB (commitArm bTIM) = false →
      (st = 1 → Leaves (.pllPixLock n) s starts) ∧
      (st = 3 → h.tim.seamPll = true → Leaves (.pllPixLock n) s fun g => starts g ∧ g.rd F.TIM_SEAM_LAST = min 65535 n ∧
        bit (g.rd (evtF bTIM)) 6 = true)) ∧
    (h.pwr.pixWanted = true → h.rdB F.SYS_CLKSTAT_PIX_LOCK = true →
      (st = 2 → Leaves .pllPixUnlock s fun g => g.rd F.TIM_STAT_STATE = 3 ∧ g.tim.seamPll = true ∧ g.rd F.SYS_CLKSTAT_PIX_LOCK = 0 ∧
        g.rd F.TIM_SEAM_COUNT = min 65535 (h.rd F.TIM_SEAM_COUNT + 1) ∧ bit (g.rd (evtF bTIM)) 5 = true ∧
        bit (g.rd (evtF bSYS)) 4 = true ∧ g.mem = h.mem) ∧
      (st = 4 → h.pen.modeLat = false → Leaves .pllPixUnlock s fun g => g.rd F.TIM_STAT_STATE = 0 ∧ bit (g.rd (evtF bSYS)) 4 = true) ∧
      (st = 3 → h.tim.seamPll = false → h.rdB (commitArm bTIM) = false → Leaves (.seamEnd n) s fun g => starts g ∧
        g.rd F.TIM_SEAM_LAST = min 65535 n ∧ bit (g.rd (evtF bTIM)) 6 = true) ∧
      (st ≠ 3 ∨ h.tim.seamPll = true → Does (.seamEnd n) s h)) ∧
    (2 ≤ st → Does .stoppedTransfer s h) ∧
    (st ≤ 1 → (∀ k < 4, h.rd F.CMP_FLIP_CTRL_BLOCKS k = 0) → Leaves .stoppedTransfer s fun g => ∀ base ∈ flipBlocks,
      h.rdB (commitArm base) = true → g.rd (commitArm base) = 0 ∧ bit (g.rd (evtF base)) 30 = true ∧
        ∀ a, base ≤ a → a < base + 0x10000 → ∀ f ∈ fieldsOf a, f.acc = .sh →
          getBits (g.actReg a) f.hi f.lo = getBits (h.reg a) f.hi f.lo)

/-- The line and the frame that begin, the external lock (09 R313, R317 to R323). POS.PIXEL is 0 at a line's row (log 56).
-/
def Obligations.LinesAndLock : Prop :=
  ∀ (s : State) (phase pull : Int) (i : Fin 2) (rising : Bool) (gap : Nat), let h := s.hw
    let st := h.rd F.TIM_STAT_STATE
    let runs := st = 2 ∨ st = 4
    let y := if h.tim.vtot ≤ h.rd F.TIM_POS_LINE + 1 then 0 else h.rd F.TIM_POS_LINE + 1
    let lock := h.rd F.TIM_LOCKSTAT_STATE
    let chosen := h.lockSrc = 1 + i.val ∧ h.rdAB F.TIM_LOCK_XEDGE ≠ rising ∧ h.fnActive (6 + i.val) = true
    (¬ runs → Does (.lineStart phase pull) s h ∧ Does .referenceMissing s h ∧ Does .lockAcquired s h) ∧
    (runs → h.tim.vtot ≤ 4096 → Leaves (.lineStart phase pull) s fun g => g.rd F.TIM_POS_LINE = y ∧ g.rd F.TIM_POS_PIXEL = 0 ∧
      (h.rd F.TIM_LINEIRQ_LINE = y → bit (g.rd (evtF bTIM)) 2 = true) ∧
      (y = 0 → h.timActive.vact ≠ 0 → g.rd F.TIM_FRAME_COUNT = (h.rd F.TIM_FRAME_COUNT + 1) % 2 ^ 32 ∧ bit (g.rd (evtF bTIM)) 0 = true ∧
        g.tim.ras = h.timActive ∧ g.tim.final = []) ∧
      (y = h.tim.ras.vact → y ≠ 0 → bit (g.rd (evtF bTIM)) 1 = true)) ∧
    (runs → lock = 1 → 4 ≤ h.tim.near → Leaves .lockAcquired s fun g => g.rd F.TIM_LOCKSTAT_STATE = 2 ∧ bit (g.rd (evtF bTIM)) 8 = true ∧
      g = { h with regs := g.regs, ciDue := g.ciDue, varPulse := g.varPulse, tim := g.tim }) ∧
    (lock ≠ 1 ∨ h.tim.near < 4 → Does .lockAcquired s h) ∧
    (runs → lock ≠ 0 → lock ≠ 3 → Leaves .referenceMissing s fun g => g.rd F.TIM_LOCKSTAT_STATE = 3 ∧ g.tim.refSeen = false ∧
      (lock = 2 → bit (g.rd (evtF bTIM)) 9 = true ∧ g.rd F.TIM_LOCKCNT_UNLOCKS = min 65535 (h.rd F.TIM_LOCKCNT_UNLOCKS + 1))) ∧
    (lock = 0 ∨ lock = 3 → Does .referenceMissing s h) ∧
    (¬ chosen → Does (.xsyncEdge i rising gap) s h) ∧
    (chosen → runs → lock = 1 → h.tim.outRange = 0 → h.tim.refSeen = false → Does (.xsyncEdge i rising gap) s
      { h with tim := { h.tim with refSeen := true } }) ∧
    (chosen → runs → lock = 1 → h.tim.refSeen = true →
      let period := h.tim.ras.htotal * h.tim.ras.vtotal * 1600000
      period < 100 * (((gap * h.tim.ras.khz : Nat) : Int) - (period : Int)).natAbs → 1 ≤ h.tim.outRange →
      Leaves (.xsyncEdge i rising gap) s fun g => g.rd F.TIM_LOCKSTAT_STATE = 4)

/-- Flip groups that are ready transfer, those at fault act as ACT says; fences (11 R400 to R405). Composition, underflow,
the line list and the texels of objects (09 R324 to R330, 10 R376, 11 R389 to R399). A line is composed whole (log 20); see
logs 21, 54, 55, 57. -/
def Obligations.FlipsAndLineBuffer : Prop :=
  -- FlipGroupsAndFences
  (∀ (s : State) (k : Fin 4) (set : Word), let h := s.hw
    let member := fun (b : Nat) => bit (h.flipMembers k) b = true
    (h.rd F.TIM_STAT_STATE ≤ 1 → h.flipArmed k = true → h.flipReady k = true → Leaves (.flipGroupReadyTransfer k) s fun g =>
      bit (g.rd (evtF bCMP)) k = true ∧ g.rd F.CMP_FLIP_STAT_DEFCUR k = 0 ∧ (∀ b < 5, member b → g.rd (commitArm (flipBlocks.getD b 0)) = 0) ∧
      g.mem = h.mem) ∧
    (2 ≤ h.rd F.TIM_STAT_STATE ∨ h.flipReady k = false → Does (.flipGroupReadyTransfer k) s h) ∧
    (h.tim.flipFault.getD k false = false → Does (.flipGroupFault k) s h) ∧
    (h.tim.flipFault[k.val]? = some true → Leaves (.flipGroupFault k) s fun g => g.tim.flipFault = h.tim.flipFault.set k false ∧
      bit (g.rd (evtF bCMP)) (8 + k) = true ∧
      (h.rd F.CMP_FLIP_CTRL_ACT k = 1 ∨ h.rd F.CMP_FLIP_CTRL_ACT k = 2 → g.rd F.CMP_FLIP_STAT_DEFCUR k = 0 ∧
        ∀ b < 5, member b → g.rd (commitArm (flipBlocks.getD b 0)) = 0) ∧
      (h.rd F.CMP_FLIP_CTRL_ACT k = 2 → g.act = h.act) ∧
      (h.rd F.CMP_FLIP_CTRL_ACT k = 0 → g.rd F.CMP_FLIP_STAT_DEFCUR k = h.rd F.CMP_FLIP_CTRL_MAXDEF k ∧ bit (g.rd (evtF bCMP)) (4 + k) = true)) ∧
    (h.on 22 = true → Leaves (.cmpFencesetWrite set) s fun g => (∀ f < 32, g.rd F.CMP_FENCE_COUNT f =
        if set.getLsbD f then (h.rd F.CMP_FENCE_COUNT f + 1) % 65536 else h.rd F.CMP_FENCE_COUNT f) ∧
      g = { h with regs := g.regs, cop := g.cop }) ∧
    (h.on 22 = false → Does (.cmpFencesetWrite set) s h)) ∧
  -- LineBuffer
  (∀ (s : State) (first count level : Nat) (late : Bool), let h := s.hw
    let y := h.rd F.TIM_POS_LINE
    let scans := (h.rd F.TIM_STAT_STATE = 2 ∨ h.rd F.TIM_STAT_STATE = 4) ∧ h.pen.modeLat = false
    let next := h.tim.next
    (h.composable = false → Does .composeLineBegin s h) ∧
    (scans → h.on 22 = true → y = next → y < h.tim.ras.vact → h.rd F.LNL_STAT_STATE ≠ 1 → Leaves .composeLineBegin s fun g =>
      g.tim.lines = (h.composeLine next).1.tim.lines ++ [(next, h.rdA F.CMP_BACKDROP_COLOUR, (h.composeLine next).2)] ∧
      g.tim.next = if next + 1 < (h.composeLine next).1.tim.ras.vact then next + 1 else 0) ∧
    (scans → y < h.tim.ras.vact → h.tim.ended = false → h.tim.holes = [] → 0 < count → first < h.tim.ras.hact →
      let n := min (first + count) h.tim.ras.hact - first
      Leaves (.lineBufferUnderflow first count) s fun g => g.rd F.TIM_UFCNT_LINES = min 65535 (h.rd F.TIM_UFCNT_LINES + 1) ∧
        g.rd F.TIM_UFLAST_LINE = y ∧ g.rd F.TIM_UFLAST_PIXEL = first % 4096 ∧ bit (g.rd (evtF bTIM)) 4 = true ∧
        g = { h with regs := g.regs, ciDue := g.ciDue, varPulse := g.varPulse, tim := { h.tim with holes := [(first, n)] } }) ∧
    (¬ scans ∨ h.tim.ras.vact ≤ y ∨ h.tim.ended = true → Does (.lineBufferUnderflow first count) s h) ∧
    (scans → level < h.rd F.TIM_LBWM_CFG_THRESH → Leaves (.lineBufferWatermarkBelow level) s fun g => g.rd F.TIM_LBWM_STAT_LEVEL = level ∧
      g.rdB F.TIM_LBWM_STAT_BELOW = true ∧ (h.on 21 = true → g.rd F.LDG_DISPTOL_TOL = 0) ∧
      (h.rdB F.TIM_LBWM_STAT_BELOW = false → bit (g.rd (evtF bTIM)) 3 = true) ∧ h.OnlyRegs g) ∧
    (¬ scans ∨ h.rd F.TIM_LBWM_CFG_THRESH ≤ level → Does (.lineBufferWatermarkBelow level) s h) ∧
    (h.lnlReady late = false → Does (.lnlRecordWrites late) s h) ∧
    (∀ n, h.lnlReady late = true → h.lnl.last = some n → n < 4096 → Leaves (.lnlRecordWrites late) s fun g => g.rd F.LNL_STAT_LINE = n ∧
      (late = true → bit (g.rd (evtF bLNL)) 5 = true)) ∧
    (h.on 29 = false ∨ h.rdAB F.OBJ_CTRL_EN = false → Does .affineTexelLoad s h) ∧
    (h.on 29 = true → h.rdAB F.OBJ_CTRL_EN = true → h.shed 7 = false → (∀ i < 1024, (h.object i).en = false ∨ (h.object i).aff = false) →
      Does .affineTexelLoad s (({ h with texels := [] } : Hw).wr F.OBJ_AFFSTAT_WANTED 0 |>.wr F.OBJ_AFFSTAT_LOADED 0)))

/-- The references, the checks, the signals and the gap of the pennant plane (12 R418, R421 to R431). See logs 8, 11, 80;
the gap counts the model's cycles (log 57). -/
def Obligations.PennantRows : Prop :=
  ∀ (s : State) (k : Fin 64) (e : Fin 32), let h := s.hw
    let c := h.cell k
    let rec_ := h.sig e
    let checks := (h.rd F.TIM_STAT_STATE = 2 ∨ h.rd F.TIM_STAT_STATE = 4) ∧ h.rd F.TIM_POS_LINE + 1 = h.tim.ras.vact ∧
      h.tim.checked = false ∧ h.on 20 = true ∧ h.on 39 = true
    (h.on 20 = true → c.ready = false → h.pen.cells.length = 64 → Leaves (.penRefDone k) s fun g =>
      g.pen.cells = h.pen.cells.modify k (fun c => { c with ready := true, refs := h.penRefs c.pend }) ∧
      (g.pen.cells.all (fun c => c.ready) = true → bit (g.rd (evtF bPEN)) 5 = true) ∧ g = { h with regs := g.regs, ciDue := g.ciDue, varPulse := g.varPulse, pen := g.pen }) ∧
    (h.on 20 = false ∨ c.ready = true → Does (.penRefDone k) s h) ∧
    (h.on 43 = false ∨ byteAt rec_ 7 % 16 = 0 ∨ byteAt rec_ 11 = 0 → Does (.signalTimeout e) s h) ∧
    (h.on 43 = true → byteAt rec_ 7 % 16 ≠ 0 → byteAt rec_ 11 ≠ 0 → Leaves (.signalTimeout e) s fun g =>
      g.rd F.PEN_SIGVAL e = ((BitVec.ofNat 16 (fieldAt rec_ 14 2)).signExtend 32).toNat ∧ bit (g.rd F.PEN_STALE_STALE) e = true ∧
      bit (g.rd (evtF bPEN)) 3 = true) ∧
    (h.on 20 = false ∨ c.latEn = false → Does (.pennantGapTimeout k) s h) ∧
    (h.on 20 = true → c.latEn = true → Leaves (.pennantGapTimeout k) s fun g => bit g.pen.cause 4 = true ∧ bit (g.rd (evtF bPEN)) 2 = true ∧
      (h.pen.cause = 0 → g.pen.recKind = 5 ∧ g.pen.recCell = k.val)) ∧
    (¬ checks → Does .pennantCheckComplete s h) ∧
    (checks → h.pen.cells.length = 64 → (∀ j < 64, (h.cell j).latEn = true → h.cellInside (h.cell j).lat = false) →
      Leaves .pennantCheckComplete s fun g => g.tim.checked = true ∧
        (∀ j < 64, bit (g.rd F.PEN_FAIL (j / 32)) (j % 32) = (h.cell j).latEn ∧ g.rd F.PEN_CRC j = 0) ∧
        g.rd F.PEN_CHKCNT_FRAMES = (h.rd F.PEN_CHKCNT_FRAMES + 1) % 2 ^ 16 ∧
        ((∃ j < 64, (h.cell j).latEn = true) → bit g.pen.cause 1 = true ∧ bit (g.rd (evtF bPEN)) 0 = true) ∧
        ((∀ j < 64, (h.cell j).latEn = false) → (∀ w < 4, bit (h.rd F.PEN_FRZCFG_1 w) 16 = false) →
          g.pen.cause = h.pen.cause))

/-- The camera interface: timing codes, its lock and its captures (10 R360 to R363, 18 R633, R634). The protection bits are
BT.656's (log 22). -/
def Obligations.Camera : Prop :=
  ∀ (s : State) (f v b : Bool) (px : List Nat) (xy : Byte), let h := s.hw
    let on := h.on 30 = true ∧ h.rdB F.CAM_IFCFG_EN = true ∧ h.fnActive 48 = true
    let drop := h.rd F.CAM_CCNT_DROPS
    (¬ on → Does (.cameraTimingCode xy px b) s h ∧ Does .cameraEavTimeout s h) ∧
    (on → Does (.cameraTimingCode (BitVec.ofNat 8 (xyCode f v false)) px b) s { h with cam := { h.cam with sav := !v, f := f } }) ∧
    (on → (∀ c ∈ xyCodes, c.1 ≠ xy.toNat) → h.cam.hcorr = false → Does (.cameraTimingCode xy px b) s
      ((h.inc F.CAM_IFCNT_SYNCERR).raiseBit bCAM 7)) ∧
    (on → h.cam.sav = false → (v = false ∨ h.cam.v = true) → Does (.cameraTimingCode (BitVec.ofNat 8 (xyCode f v true)) px b) s
      { h with cam := { h.cam with f := f, v := v, hcorr := h.rdB F.CAM_IFCFG_HCORR } }) ∧
    (on → h.rdB F.CAM_IFSTAT_LOCK = false → Does .cameraEavTimeout s h) ∧
    (on → h.rdB F.CAM_IFSTAT_LOCK = true → Leaves .cameraEavTimeout s fun g => g.rd F.CAM_IFSTAT_LOCK = 0 ∧ g.cam.active = false ∧
      bit (g.rd (evtF bCAM)) 6 = true ∧ (h.cam.active = true → bit (g.rd (evtF bCAM)) 1 = true ∧ g.rd F.CAM_CCNT_DROPS = min 65535 (drop + 1))) ∧
    (h.cam.active = false ∨ h.on 30 = false → Does .captureFrameComplete s h) ∧
    (h.on 30 = true → h.cam.active = true → h.cam.written = h.cma 0x78 27 16 → Leaves .captureFrameComplete s fun g => g.cam.active = false ∧
      g.rd F.CAM_CSTAT_NEWEST = h.rd F.CAM_CSTAT_WRITING ∧ (h.rd F.CAM_CSTAT_WRITING, h.cam.serial + 1) ∈ g.cam.full ∧
      bit (g.rd (evtF bCAM)) 0 = true ∧ g.mem = h.mem) ∧
    (h.on 30 = false ∨ h.camFill = false ∨ h.cam.filled = true → Does .camStaleFill s h) ∧
    (h.on 30 = true → h.cma 0x60 31 31 = 1 → h.camFill = true → h.cam.filled = false → Does .camStaleFill s
      (({ h with cam := { h.cam with filled := true } } : Hw).raiseBit bCAM 2))

/-- Register mode and list mode are started, stopped and completed (13 R455 to R459, R466 to R468). The commands of
coprocessor slot 0 (08 R295; 13 R465). See logs 18, 81. -/
def Obligations.AnoleControl : Prop :=
  -- AnoleModes
  (∀ (s : State) (b : Bool), let h := s.hw
    let listRuns := h.rdB F.ANO_STAT_LIST
    let regRuns := h.rdB F.ANO_STAT_REG
    let o : AnoOp := ⟨⟨h.anoRegs 0x100, h.anoRegs 0x110, h.anoRegs 0x120, h.anoRegs 0x130, [none, none, none, none]⟩, h.anoRegs 0x140, 0, false, false⟩
    let paused := fun (g : Hw) => g.rdB F.ANO_STAT_PAUSED = h.anoHeld
    let refused := fun (g : Hw) (kind : Nat) => g.rd F.ANO_ERR_KIND = kind ∧ g.rd F.ANO_ERR_ADDR = 0 ∧ g.rd F.ANO_STAT_ERR = kind ∧
      g.rd F.ANO_CNT_ERRS = min 65535 (h.rd F.ANO_CNT_ERRS + 1) ∧ bit (g.rd (evtF bANO)) 2 = true
    (h.on 33 = false → Does (.anoGo b) s h ∧ Does (.anoLgo b) s h) ∧
    (h.on 33 = true → listRuns = true → Leaves (.anoGo b) s fun g => refused g 9 ∧ h.OnlyRegs g ∧ g.rdB F.ANO_STAT_LIST = true) ∧
    (h.on 33 = true → listRuns = false → regRuns = true → Does (.anoGo false) s (h.wr (collideIgnored bANO) 1)) ∧
    (h.on 33 = true → listRuns = false → regRuns = false → ∀ k, o.check = some k → Leaves (.anoGo b) s fun g => refused g k ∧
      g.rd F.ANO_CTRL_GO = 0 ∧ g.rd F.ANO_STAT_REG = 0 ∧ g.mem = h.mem) ∧
    (h.on 33 = true → listRuns = false → regRuns = false → o.check = none → Leaves (.anoGo b) s fun g => g.ano.op = some o ∧
      g.rd F.ANO_CTRL_GO = 1 ∧ g.rd F.ANO_STAT_REG = 1 ∧ paused g ∧ g.mem = h.mem) ∧
    (h.on 33 = true → listRuns = false → h.actLu 13 = 0 → Leaves (.anoLgo b) s fun g => refused g 8 ∧ h.OnlyRegs g ∧ g.rd F.ANO_STAT_LIST = 0) ∧
    (h.on 33 = true → listRuns = false → h.actLu 13 ≠ 0 → regRuns = true → Leaves (.anoLgo b) s fun g => refused g 9 ∧ h.OnlyRegs g) ∧
    (h.on 33 = true → listRuns = false → h.actLu 13 ≠ 0 → regRuns = false → Leaves (.anoLgo b) s fun g => g.ano = Ano.reset ∧
      g.rd F.ANO_CTRL_LGO = 1 ∧ g.rd F.ANO_STAT_LIST = 1 ∧ g.rd F.ANO_LPTR_ADDR = h.rd F.ANO_LBASE_ADDR ∧ g.rd F.ANO_LCNT_ENTRIES = 0 ∧
      paused g ∧ g.mem = h.mem) ∧
    (h.on 33 = true → listRuns = true → Does (.anoLgo false) s (h.wr (collideIgnored bANO) 1)) ∧
    (h.on 33 = true → listRuns = true ∨ regRuns = true → Leaves (.anoStop false) s fun g => g.ano.op = none ∧ g.ano.hold = none ∧
      g.rd F.ANO_CTRL_GO = 0 ∧ g.rd F.ANO_CTRL_LGO = 0 ∧ g.rd F.ANO_STAT_REG = 0 ∧ g.rd F.ANO_STAT_LIST = 0 ∧ bit (g.rd (evtF bANO)) 4 = true ∧
      g.mem = h.mem ∧ ∀ f < 32, g.rd F.CMP_FENCE_COUNT f = h.rd F.CMP_FENCE_COUNT f) ∧
    (h.on 33 = false ∨ listRuns = false ∧ regRuns = false → Does (.anoStop false) s h) ∧
    ((∀ p ∈ h.ano.op, p.drawn = false) → Does .anoOpDone s h) ∧
    (∀ p, h.ano.op = some p → p.drawn = true → Leaves .anoOpDone s fun g => g.ano.op = none ∧ g.mem = h.mem ∧
      g.rd F.ANO_CNT_OPS = min 65535 (h.rd F.ANO_CNT_OPS + 1) ∧
      (p.list = false → g.rd F.ANO_CTRL_GO = 0 ∧ g.rd F.ANO_STAT_REG = 0 ∧ bit (g.rd (evtF bANO)) 0 = true) ∧
      (p.list = true → p.addr < 0xFFFFF0 → g.rd F.ANO_LPTR_ADDR = p.addr / 16 + 1 ∧ g.rd F.ANO_LCNT_ENTRIES = (h.rd F.ANO_LCNT_ENTRIES + 1) % 2 ^ 32) ∧
      (h.on 22 = true → ∀ f < 32, g.rd F.CMP_FENCE_COUNT f =
        if bit (ew p.entry 0) 23 = true ∧ f = bits (ew p.entry 0) 20 16 then (h.rd F.CMP_FENCE_COUNT f + 1) % 65536
        else h.rd F.CMP_FENCE_COUNT f))) ∧
  -- AnoleSlot
  (∀ (s : State) (c : CopCmd) (rest : List CopCmd), let h := s.hw
    (h.slotFront 0 c rest →
      (c.op = 1 → h.actLu 13 ≠ 0 → h.rdB F.ANO_STAT_REG = false → c.a.toNat < 0x01000000 → Leaves .listRun s fun g => g.ano = Ano.reset ∧
        g.rd F.ANO_STAT_LIST = 1 ∧ g.rd F.ANO_CTRL_LGO = 1 ∧ g.rd F.ANO_LPTR_ADDR = c.a.toNat / 16 ∧ g.rd F.ANO_LBASE_ADDR = c.a.toNat / 16 ∧
        g.cop = (h.slotDone 0 rest c []).cop ∧ g.mem = h.mem) ∧
      (c.op = 2 → Does .anoSlotStatus s (h.slotDone 0 rest c [h.reg 0x04090044])) ∧
      (c.op = 3 → Does .fenceWait s { h with cop := { h.cop with slots := h.cop.slots.set 0 rest, fenceWaits := [c] } }) ∧
      (c.op ≠ 1 → Does .listRun s h) ∧ (c.op ≠ 2 → Does .anoSlotStatus s h) ∧ (c.op ≠ 3 → Does .fenceWait s h)) ∧
    (h.cop.slots[0]? = some [] → Does .listRun s h ∧ Does .anoSlotStatus s h ∧ Does .fenceWait s h))

/-- The entries of a list: what sets its state and what controls it (13 R453, R459, R466, R467). -/
def Obligations.AnoleEntries : Prop :=
  ∀ (s : State), let h := s.hw
    let a := h.rd F.ANO_LPTR_ADDR * 16
    let e := (List.range 4).map fun i => fieldAt (h.bytes a 16) (4 * i) 4
    let stands := h.on 33 = true ∧ h.rdB F.ANO_STAT_LIST = true ∧ h.anoHeld = false ∧ h.ano.op = none ∧ h.ano.hold = none
    let r := (h.wr F.LDG_CRED_CREDIT (h.rd F.LDG_CRED_CREDIT 12 - 1) 12).touchBank a
    let n := h.rd F.ANO_LCNT_ENTRIES + 1
    let next := fun (g : Hw) (dest : Nat) => ((g.wr F.ANO_LPTR_ADDR (dest / 16)).wr F.ANO_LCNT_ENTRIES n).wr F.ANO_STAT_LCNT n
    let sets := fun (t : AnoState) => next { r with ano := { h.ano with st := t } } (a + 16)
    let t := h.ano.st
    let clip := if bit (ew e 0) 8 then some (ew e 1 % 65536, ew e 1 / 65536, ew e 2 % 65536, ew e 2 / 65536) else none
    let rows : List (Instr × Nat) := [(.anoNop, 0), (.anoSrc, 1), (.anoDst, 2), (.anoPen, 3), (.anoMode, 4), (.anoClip, 5), (.anoCopy, 0x10),
      (.anoFill, 0x11), (.anoExpand, 0x12), (.anoLine, 0x13), (.anoTri, 0x14), (.anoFence, 0x20), (.anoFwait, 0x21), (.anoMark, 0x22),
      (.anoJump, 0x30), (.anoEnd, 0x3F)]
    (∀ x ∈ rows, (¬ stands → h.rdB F.ANO_STAT_REG = false → Does x.1 s h) ∧
      (stands → h.rdB F.ANO_STAT_REG = false → h.openMemory →
        (entryGood e = true → anoCmd e ≠ x.2 → Does x.1 s h) ∧
        (entryGood e = false → Leaves x.1 s fun g => g.rd F.ANO_ERR_KIND = 1 ∧ g.rd F.ANO_ERR_ADDR = a / 16 ∧ g.rd F.ANO_STAT_LIST = 0 ∧
          g.rd F.ANO_CTRL_LGO = 0 ∧ bit (g.rd (evtF bANO)) 2 = true ∧ g.mem = h.mem))) ∧
    (stands → h.rdB F.ANO_STAT_REG = false → h.openMemory → entryGood e = true →
      (anoCmd e = 0x00 → Does .anoNop s (next r (a + 16))) ∧
      (anoCmd e = 0x01 → Does .anoSrc s (sets { t with src := e })) ∧
      (anoCmd e = 0x02 → Does .anoDst s (sets { t with dst := e })) ∧
      (anoCmd e = 0x03 → Does .anoPen s (sets { t with pen := e })) ∧
      (anoCmd e = 0x04 → Does .anoMode s (sets { t with mode := e })) ∧
      (anoCmd e = 0x05 → Does .anoClip s (sets { t with clips := t.clips.set (ew e 0 % 4) clip })) ∧
      (anoCmd e = 0x20 → h.on 22 = true → Leaves .anoFence s fun g => g.rd F.ANO_LCNT_ENTRIES = n % 2 ^ 32 ∧ ∀ f < 32, g.rd F.CMP_FENCE_COUNT f =
        if f = bits (ew e 0) 20 16 then (h.rd F.CMP_FENCE_COUNT f + 1) % 65536 else h.rd F.CMP_FENCE_COUNT f) ∧
      (anoCmd e = 0x21 → h.fenceReached (bits (ew e 0) 20 16) (ew e 1) = true → Does .anoFwait s (next r (a + 16))) ∧
      (anoCmd e = 0x21 → h.fenceReached (bits (ew e 0) 20 16) (ew e 1) = false → Does .anoFwait s
        { r.wr F.ANO_STAT_FWAIT 1 with ano := { h.ano with hold := some (bits (ew e 0) 20 16, ew e 1) } }) ∧
      (anoCmd e = 0x22 → Leaves .anoMark s fun g => g.rd F.ANO_MARK = ew e 1 ∧ bit (g.rd (evtF bANO)) 3 = true ∧
        g.rd F.ANO_LPTR_ADDR = (a / 16 + 1) % 2 ^ 20 ∧ g.mem = h.mem) ∧
      (anoCmd e = 0x30 → Does .anoJump s (next r (ew e 1))) ∧
      (anoCmd e = 0x3F → Leaves .anoEnd s fun g => g.rd F.ANO_STAT_LIST = 0 ∧ g.rd F.ANO_CTRL_LGO = 0 ∧ g.ano.op = none ∧
        bit (g.rd (evtF bANO)) 1 = true ∧ g.rd F.ANO_LPTR_ADDR = a / 16 ∧ g.mem = h.mem)) ∧
    (h.ano.hold = none → Does .anoFwaitRelease s h) ∧
    (∀ f need, h.ano.hold = some (f, need) →
      (h.fenceReached f need = false → Does .anoFwaitRelease s h) ∧
      (h.fenceReached f need = true → Does .anoFwaitRelease s (next { h.wr F.ANO_STAT_FWAIT 0 with ano := { h.ano with hold := none } } (a + 16))))

/-- The operations draw, over surfaces in work memory: each destination pixel that the operation gives a source and the
clip lets through becomes what R444 makes of it, each other pixel and each byte outside the destination's rows stays; where
bytes read are also written the rectangle is undefined (13 R438 to R451, R454). The pixels of an overlapping rectangle are
free (log 1); ROP reads and LINE as logs 28 and 29 have them. -/
def Obligations.AnoleDrawing : Prop :=
  ∀ (s : State) (i : Instr) (cmd : Nat), (i, cmd) ∈ [(Instr.anoCopy, 0x10), (.anoFill, 0x11), (.anoExpand, 0x12), (.anoLine, 0x13), (.anoTri, 0x14)] →
    let h := s.hw
    let low := fun (l : List Nat) => sfBase l + sfH l * sfPitch l ≤ 0x01000000
    let ready := fun (o : AnoOp) => anoCmd o.entry = cmd ∧ o.check = none ∧ low o.st.dst ∧ (cmd = 0x10 ∨ cmd = 0x12 → low o.st.src)
    let done := fun (o : AnoOp) (g : Hw) => g.ano.op = some { o with drawn := true } ∧ g.ano.st = h.ano.st ∧ g.ano.hold = h.ano.hold ∧
      g = { h with regs := g.regs, mem := g.mem, ano := g.ano, freeCount := g.freeCount
                   mtx := { h.mtx with sleep := g.mtx.sleep, waking := g.mtx.waking } } ∧
      (∀ a, ¬ inSurface o.st.dst a → g.byte a = h.byte a) ∧
      ∀ y < sfH o.st.dst, ∀ x < sfW o.st.dst,
        let d := h.surfPixel o.st.dst x y
        let p := if o.st.inClip x y then o.source h x y else none
        (o.st.clips.length = 4 → cmd ∉ [0x10, 0x12] ∨ o.overlaps = false → g.surfPixel o.st.dst x y =
          match p with
          | some q => (o.st.pixel (cmd ≠ 0x12) q d).getD d
          | none => d) ∧
        (cmd = 0x10 ∨ cmd = 0x12 → (x < eX (ew o.entry 2) ∨ eX (ew o.entry 2) + eX (ew o.entry 3) ≤ x ∨ y < eY (ew o.entry 2) ∨
          eY (ew o.entry 2) + eY (ew o.entry 3) ≤ y) → g.surfPixel o.st.dst x y = d)
    (∀ o, h.rdB F.ANO_STAT_REG = true → h.ano.op = some o → ready o → o.drawn = false → h.on 33 = true → h.anoHeld = false →
      h.openMemory → o.list = false → Leaves i s fun g => done o g ∧ g.regs = h.regs) ∧
    (h.rdB F.ANO_STAT_REG = true → (h.ano.op = none ∨ h.anoHeld = true ∨ h.on 33 = false ∨ ∃ o ∈ h.ano.op, (o.drawn = true ∨
      anoCmd o.entry ≠ cmd)) → Does i s h) ∧
    (let a := h.rd F.ANO_LPTR_ADDR * 16
     let o : AnoOp := ⟨h.ano.st, (List.range 4).map fun i => fieldAt (h.bytes a 16) (4 * i) 4, a, true, false⟩
     h.rdB F.ANO_STAT_REG = false → h.on 33 = true → h.rdB F.ANO_STAT_LIST = true → h.anoHeld = false → h.ano.op = none → h.ano.hold = none →
       h.openMemory → entryGood o.entry = true → anoCmd o.entry = cmd →
       (ready o → Leaves i s fun g => done o g ∧ g.wr F.LDG_CRED_CREDIT 0 12 = { g with regs := (h.wr F.LDG_CRED_CREDIT 0 12).regs }) ∧
       (∀ k, o.check = some k → Leaves i s fun g => g.rd F.ANO_ERR_KIND = k ∧ g.rd F.ANO_ERR_ADDR = a / 16 ∧ g.rd F.ANO_STAT_LIST = 0 ∧
         bit (g.rd (evtF bANO)) 2 = true ∧ g.mem = h.mem))

/-- What arrives for a voice, and what ends it (14 R475 to R478, R487, R492, R493). The audit of the pennant sound, and the
AVAS path's faults of AS1 (14 R496, R503, R504). See logs 13, 48. -/
def Obligations.VoicesAndAvas : Prop :=
  -- VoiceRows
  (∀ (s : State) (n : Fin 256), let h := s.hw
    let v := h.voice n
    let d := (List.range 6).map fun i => fieldAt (h.bytes v.descAt 32) (4 * i) 4
    let reads := h.on (if n < 128 then 34 else if n < 240 then 35 else 36) = true ∧ h.openMemory
    let ferr := fun (g : Hw) => g.rd F.VOC_CNT_FERRS = min 65535 (h.rd F.VOC_CNT_FERRS + 1) ∧ bit (g.rd (evtF bVOC)) 1 = true
    (h.on (if n < 128 then 34 else if n < 240 then 35 else 36) = false → Does (.voiceChunkArrival n) s h) ∧
    (reads → v.state = 1 → v.desc = none → v.descAt % 32 = 0 → v.descAt < 0x01000000 →
      ((vdBad d).isSome = true → Leaves (.voiceChunkArrival n) s fun g => (g.voice n).state = 0 ∧ (g.voice n).ended = 6 ∧
        (g.voice n).bufs = [] ∧ ferr g ∧ g.mem = h.mem) ∧
      (vdBad d = none → v.bufs = [] → ∀ b, h.freeBuf n = some b → Leaves (.voiceChunkArrival n) s fun g =>
        (g.voice n).state = 1 ∧ (g.voice n).desc = some d ∧ g.mem = h.mem ∧
        (g.voice n).bufs = [⟨b, h.voiceData n d, 0, (vdSegment d (vdLoop d = 1 || vdLoop d = 2) 0).1, false, false⟩])) ∧
    ((v.state ≠ 1 ∨ v.desc ≠ none) → (∀ b ∈ v.bufs, b.here = true) → Does (.voiceChunkArrival n) s h) ∧
    (∀ b, reads → (v.state ≠ 1 ∨ v.desc ≠ none) → v.bufs.find? (fun b => !b.here) = some b → b.chunk % 64 = 0 → b.chunk < 0x01000000 →
      Does (.voiceChunkArrival n) s
        (((h.touchBank b.chunk).setVoice n { v with bufs := v.bufs.map fun c => if c.num = b.num then { c with here := true, mute := false } else c }).setBytes
          (if b.num < 1024 then 0x02020000 + 64 * b.num else 0x02070000 + 64 * (b.num - 1024)) (h.bytes b.chunk 64))) ∧
    (∀ b, h.on (if n < 128 then 34 else if n < 240 then 35 else 36) = true → (v.state ≠ 1 ∨ v.desc ≠ none) →
      v.bufs.find? (fun b => !b.here) = some b → b.chunk < 0x01000000 → b.chunk % 64 = 0 → h.on (4 + b.chunk / 0x100000) = false →
      Leaves (.voiceChunkArrival n) s fun g => g.mem = h.mem ∧ bit (g.rd (evtF bMTX)) 0 = true ∧
        (n < 240 → v.state ≠ 0 → v.state ≠ 5 → (g.voice n).state = 5 ∧ (g.voice n).why = 3 ∧ ferr g) ∧
        (240 ≤ n.val → (g.voice n).state = v.state ∧ bit g.pen.cause 7 = true)) ∧
    (v.state = 1 → 4 ≤ v.age → Does (.voicePrimeTimeout n) s (h.setVoice n { v with state := 5, why := 2, age := 0 })) ∧
    (v.state ≠ 1 ∨ v.age < 4 → Does (.voicePrimeTimeout n) s h) ∧
    (v.state = 5 → 32 ≤ v.age → Leaves (.voiceFadeEnd n) s fun g => (g.voice n).state = 0 ∧ (g.voice n).ended = v.why ∧ (g.voice n).bufs = [] ∧
      (∀ m : Fin 256, m ≠ n → g.voice m = h.voice m) ∧ g.mem = h.mem ∧
      (v.why = 2 → bit (g.rd F.VOC_STARVE_BITS (n / 32)) (n % 32) = true ∧ bit (g.rd (evtF bVOC)) 0 = true ∧
        g.rd F.VOC_CNT_STARVES = min 65535 (h.rd F.VOC_CNT_STARVES + 1)) ∧
      (v.why ≠ 2 → g.regs = h.regs)) ∧
    (v.state ≠ 5 ∨ v.age < 32 → Does (.voiceFadeEnd n) s h)) ∧
  -- AvasPath
  (∀ (s : State) (left right : Int), let h := s.hw
    let src := h.bytes (0x01000000 + h.voc.psrc) h.voc.plen
    let area := h.bytes h.voc.base h.voc.plen
    let checks := (h.wr F.VOC_PAUDIT_CHECKS (h.rd F.VOC_PAUDIT_CHECKS + 1) : Hw)
    let faults := fun (g : Hw) => bit g.pen.cause 7 = true ∧ bit (g.rd (evtF bVOC)) 4 = true ∧ (h.pen.cause = 0 → g.pen.recKind = 8 ∧ g.pen.recCell = 0xFF)
    let aven := h.rdB F.VOC_PAUDIT_AVEN
    let cut := fun (w : Int) => if h.rd F.AUS_AS1CFG_SW = 0 then w / 256 else w
    let same := cut left = cut (h.mix.word.getD 8 0) ∧ cut right = cut (h.mix.word.getD 9 0)
    (h.voc.plen = 0 ∨ h.on 20 = false → Does .pennantSoundAudit s h) ∧
    (h.voc.plen ≠ 0 → h.on 20 = true → h.voc.silenced = true → Leaves .pennantSoundAudit s fun g => faults g ∧ g.mem = h.mem) ∧
    (h.voc.plen ≠ 0 → h.on 20 = true → h.voc.silenced = false → h.memOn h.voc.base = true → area = src → Does .pennantSoundAudit s checks) ∧
    (h.voc.plen ≠ 0 → h.on 20 = true → h.voc.silenced = false → h.memOn h.voc.base = true → h.voc.base + h.voc.plen ≤ 0x01000000 → area ≠ src →
      Leaves .pennantSoundAudit s fun g => faults g ∧ g.rd F.VOC_PAUDIT_FAILS = min 255 (h.rd F.VOC_PAUDIT_FAILS + 1) ∧
        g.bytes h.voc.base h.voc.plen = src ∧ ∀ a, a < h.voc.base ∨ h.voc.base + h.voc.plen ≤ a → g.byte a = h.byte a) ∧
    (aven = true → Leaves .as1SilenceTimeout s fun g => faults g ∧ g.mem = h.mem) ∧
    (aven = false → Does .as1SilenceTimeout s h) ∧
    (h.on 38 = false ∨ aven = false → Does (.as1ReadbackMismatch left right) s h) ∧
    (h.on 38 = true → aven = true → same → Does (.as1ReadbackMismatch left right) s { h with mix := { h.mix with bad := 0 } }) ∧
    (h.on 38 = true → aven = true → ¬ same → Leaves (.as1ReadbackMismatch left right) s fun g => g.mix = { h.mix with bad := h.mix.bad + 1 } ∧
      g.rd F.AUS_STAT_RBMIS = min (2 ^ (F.AUS_STAT_RBMIS.hi + 1 - F.AUS_STAT_RBMIS.lo) - 1) (h.rd F.AUS_STAT_RBMIS + 1) ∧
      bit (g.rd (evtF bAUS)) 0 = true ∧ (h.mix.bad % 4 = 3 → faults g) ∧ (h.mix.bad % 4 ≠ 3 → g.pen = h.pen)))

/-- The meters (15 R527 to R530). The audio ports, PLL_AUD, and the boundary of a sample period (15 R505, R507, R515, R521,
R522, R526). Beyond R530 the statement covers R505, R515, R521, R522, R526, R528 and R529 in part; gains are as log 50 has
them. -/
def Obligations.MetersAndAudio : Prop :=
  -- Meters
  (∀ (s : State) (k : Fin 24) (w : Bool) (value : Word), let h := s.hw
    let m := h.mix.meters.getD k Meter.reset
    let peak := min 0xFFFF (m.peak / 128)
    let rms := min 0xFFFF (isqrt (m.sum / (2 * m.n)) / 128)
    let hold := h.rd F.MIX_MTR_HOLD_HOLD k
    let thr := h.rd F.MIX_MTR_HOLD_OTHR k
    let holdn := getBits (h.reg (0x040B0400 + 16 * k)) 23 16
    let tap := if k.val = 22 then 0x21 else if k.val = 23 then 0x20 else getBits (h.reg (0x040B0400 + 16 * k)) 5 0
    let word := setBits (setBits (setBits (h.reg (0x040B0400 + 16 * k)) 23 16 (getBits value 23 16)) 11 8 (getBits value 11 8)) 5 0
      (if k.val < 22 then getBits value 5 0 else tap)
    let keeps := getBits value 11 8 = getBits (h.reg (0x040B0400 + 16 * k)) 11 8 ∧ (k.val < 22 → getBits value 5 0 = tap)
    (h.on 34 = false → Does (.meterWindowEnd k w) s h ∧ Does (.meterHoldFallback k) s h ∧ Does (.meterCfgWrite k value) s h) ∧
    (m.n < 2 ^ m.win ∨ m.restart = true → Does (.meterWindowEnd k w) s h) ∧
    (h.on 34 = true → 2 ^ m.win ≤ m.n → m.restart = false → h.mix.meters.length = 24 → Leaves (.meterWindowEnd k w) s fun g =>
      g.rd F.MIX_MTR_LVL_PEAK k = peak ∧ g.rd F.MIX_MTR_LVL_RMS k = rms ∧
      g.mix.meters = h.mix.meters.set k { m with n := 0, peak := 0, sum := 0, quiet := if hold < peak then 0 else m.quiet + 1 } ∧
      g.rd F.MIX_MTR_HOLD_HOLD k = (if hold < peak ∧ w = false then peak else hold) ∧
      (hold < peak → w = true → g.rd (collideHit bMIX) = 1 ∧ g.rd (collideField bMIX) = k.val) ∧
      g.rd F.MIX_MTR_OVER_COUNT k = (if thr ≠ 0 ∧ thr ≤ peak then min 65535 (h.rd F.MIX_MTR_OVER_COUNT k + 1) else h.rd F.MIX_MTR_OVER_COUNT k) ∧
      (thr ≠ 0 → thr ≤ peak → bit (g.rd (evtF bMIX)) k = true) ∧ g.mem = h.mem) ∧
    (h.on 34 = true → h.mix.meters.length = 24 → holdn ≠ 0 → holdn ≤ m.quiet → Does (.meterHoldFallback k) s
      { h.wr F.MIX_MTR_HOLD_HOLD (h.rd F.MIX_MTR_LVL_PEAK k) k with mix := { h.mix with meters := h.mix.meters.set k { m with quiet := 0 } } }) ∧
    (holdn = 0 ∨ m.quiet < holdn → Does (.meterHoldFallback k) s h) ∧
    (h.on 34 = true → keeps → Does (.meterCfgWrite k value) s (h.setReg (0x040B0400 + 16 * k) word)) ∧
    (h.on 34 = true → h.mix.meters.length = 24 → ¬ keeps → Does (.meterCfgWrite k value) s
      { h.setReg (0x040B0400 + 16 * k) word with mix := { h.mix with meters := h.mix.meters.set k { m with restart := true } } })) ∧
  -- AudioPeriod
  (∀ (s : State) (words : List Int), let h := s.hw
    let takes := h.on 38 = true ∧ h.rdB F.AUS_AS0CFG_EN = true ∧ h.rdB F.MIX_STAT_FALLBACK = false
    let pen := if h.on 36 = true then (sat24 (h.mix.sums.getD 36 0), sat24 (h.mix.sums.getD 37 0)) else (0, 0)
    let gain : Int := (max (h.rd F.VOC_PBUS_PGAIN) (h.rd F.VOC_PBUS_FLOOR) : Nat)
    (takes → (∀ w ∈ words, -8388608 ≤ w ∧ w ≤ 8388607) → Does (.as0InputFrame words) s { h with mix := { h.mix with
      as0 := (List.range 4).map fun i => let w := words.getD i 0
        if h.fnActive 28 = false then 0 else if h.rd F.AUS_AS0CFG_SW = 0 then w / 256 * 256 else w } }) ∧
    (¬ takes → Does (.as0InputFrame words) s h) ∧
    (Leaves .pllAudUnlock s fun g => g.rd F.SYS_CLKSTAT_AUD_LOCK = 0 ∧ bit (g.rd (evtF bSYS)) 5 = true ∧ h.OnlyRegs g ∧
      (h.on 34 = true → g.rd F.MIX_STAT_FALLBACK = 1 ∧ bit (g.rd (evtF bMIX)) 26 = true)) ∧
    (h.pwr.audWanted = false → Does .pllAudLock s h) ∧
    (h.pwr.audWanted = true → Leaves .pllAudLock s fun g => g.rd F.SYS_CLKSTAT_AUD_LOCK = 1 ∧ h.OnlyRegs g ∧
      (h.on 34 = true → g.rd F.MIX_STAT_FALLBACK = 0 ∧ (h.rdB F.MIX_STAT_FALLBACK = true → bit (g.rd (evtF bMIX)) 27 = true))) ∧
    (h.on 34 = true → h.voc.recs = [] → Leaves .samplePeriodBoundary s fun g =>
      g.mix.word.getD 8 0 = (if h.rdB F.VOC_PAUDIT_AVEN then sat24 (pen.1 * gain / 65536) else 0) ∧
      g.mix.word.getD 9 0 = (if h.rdB F.VOC_PAUDIT_AVEN then sat24 (pen.2 * gain / 65536) else 0) ∧
      (∀ z < 4, (h.mix.lims.getD z ⟨[], 32768⟩).hist.getD 7 (0, 0) = (0, 0) → g.mix.word.getD (2 * z) 0 = pen.1 ∧
        g.mix.word.getD (2 * z + 1) 0 = pen.2) ∧
      (h.rdB F.MIX_STAT_FALLBACK = true → g.mix.duty = [128, 128, 128, 128]) ∧ g.rd (commitArm bVOC) = 0 ∧ g.rd (commitArm bMIX) = 0 ∧
      g.voc.cmds = []))

/-- Streams: START with its checks, STOP, a software trigger (16 R540 to R546). Records, their drops, the relaxing of a
reduction, histograms, and the TRIG balls (16 R536, R549 to R552, R556, R560). See logs 42, 49, 52. -/
def Obligations.Varan : Prop :=
  -- VaranStreams
  (∀ (s : State) (k : Fin 4) (b : Bool), let h := s.hw
    let cfg := (List.range 16).map fun i => h.reg (0x040C0200 + 0x80 * k + 4 * i)
    let v : VStream := { VStream.reset with cfg := cfg }
    let phase := h.rd F.VAR_SSTAT_PHASE k
    let runs := phase = 1 ∨ phase = 2 ∨ phase = 4
    let refused := fun (g : Hw) (e : Nat) => g.rd F.VAR_SSTAT_PHASE k = 0 ∧ g.rd F.VAR_SSTAT_ERR k = e ∧ g.rd F.VAR_SCTRL_START k = 0 ∧
      bit (g.rd (evtF bVAR)) 15 = true ∧ g.mem = h.mem
    (h.on 39 = false → Does (.varStreamStart k b) s h ∧ Does (.varStreamStop k) s h ∧ Does (.varSwtrig k) s h) ∧
    (h.on 39 = true → runs → Does (.varStreamStart k false) s (h.wr (collideIgnored bVAR) 1)) ∧
    (h.on 39 = true → ¬ runs → v.bad = true → Leaves (.varStreamStart k b) s fun g => refused g 1) ∧
    (h.on 39 = true → ¬ runs → v.bad = false → h.rd F.LDG_ACT_LU 10 = 0 → Leaves (.varStreamStart k b) s fun g => refused g 2) ∧
    (h.on 39 = true → ¬ runs → v.bad = false → h.rd F.LDG_ACT_LU 10 ≠ 0 → Leaves (.varStreamStart k b) s fun g =>
      g.rd F.VAR_SSTAT_PHASE k = (if v.cfgBits 0 3 3 = 1 then 4 else 1) ∧ g.rd F.VAR_SCTRL_START k = 1 ∧ g.rd F.VAR_SSTAT_ERR k = 0 ∧
      g.rd F.VAR_SSTAT_SEQ k = 0 ∧ g.rd F.VAR_SSEQCNT_COUNT k = 0 ∧ g.rd F.VAR_SWRPTR_ADDR k = v.cfgBits 12 23 12 * 256 ∧
      g.rd F.VAR_SSTAT_RED k = min 8 (h.rd F.LDG_CRED_DECIM 10) ∧ g.mem = h.mem ∧
      (h.var.streams.length = 4 → ∃ w, g.var.streams = h.var.streams.set k w ∧ w.cfg = cfg ∧ w.acc = none ∧ w.staged = [] ∧ w.seq = 0)) ∧
    (h.on 39 = true → runs → Leaves (.varStreamStop k) s fun g => g.rd F.VAR_SSTAT_PHASE k = 0 ∧ g.rd F.VAR_SCTRL_START k = 0 ∧
      (g.stream k).acc = none ∧ (g.stream k).staged = [] ∧ g.mem = h.mem ∧ ∀ j : Fin 4, j ≠ k → g.stream j = h.stream j) ∧
    (¬ runs → Does (.varStreamStop k) s h) ∧
    (phase ≠ 1 → phase ≠ 4 → Does (.varSwtrig k) s h) ∧
    (h.on 39 = true → phase = 1 → h.var.streams.length = 4 → Leaves (.varSwtrig k) s fun g => g.rd F.VAR_SSTAT_PHASE k = 2 ∧
      bit (g.rd (evtF bVAR)) (4 + k) = true ∧ (g.stream k).ttrig = (h.stream k).ttrig ++ [h.sysTime] ∧
      g.mem = h.mem)) ∧
  -- VaranRows
  (∀ (s : State) (k : Fin 4) (level : Nat) (room rising : Bool) (i : Fin 2), let h := s.hw
    let v := h.stream k
    let runs := h.rd F.VAR_SSTAT_PHASE k = 1 ∨ h.rd F.VAR_SSTAT_PHASE k = 2 ∨ h.rd F.VAR_SSTAT_PHASE k = 4
    let auto := h.rd F.VAR_SSTAT_AUTO k
    (h.on 39 = false ∨ ¬ runs ∨ v.staged = [] → Does (.varRecordComplete k level room) s h) ∧
    (∀ r rest, h.on 39 = true → runs → v.staged = r :: rest → h.var.streams.length = 4 →
      (Leaves (.varRecordComplete k level false) s fun g => (g.stream k).seq = v.seq + 1 ∧ (g.stream k).drops = v.drops + 1 ∧
        (g.stream k).staged = rest ∧ g.rd F.VAR_SCNT_DROPPED k = min 65535 (h.rd F.VAR_SCNT_DROPPED k + 1) ∧
        bit (g.rd (evtF bVAR)) 13 = true ∧ g.mem = h.mem ∧
        (r.kind = 1 ∨ r.kind = 2 ∨ r.kind = 3 → 3072 < level → auto < 8 → g.rd F.VAR_SSTAT_AUTO k = auto + 1 ∧
          bit (g.rd (evtF bVAR)) 12 = true ∧ g.rd F.VAR_SSTAT_RED k = min 8 (auto + 1 + h.rd F.LDG_CRED_DECIM 10))) ∧
      (h.openMemory → v.ttrig = [] → v.postLeft = none → v.slot < v.slots → v.base + v.size ≤ 0x01000000 → r.payload.length ≤ v.payload →
        (v.streamMode = true → h.rd F.VAR_SRDPTR_ADDR k * 16 ≠ v.slotAddr v.slot) →
        Leaves (.varRecordComplete k level true) s fun g =>
          let a := v.slotAddr v.slot
          let f := fun (o n : Nat) => fieldAt (g.bytes a 32) o n
          f 0 1 = 0xA7 ∧ f 1 1 % 64 = (r.kind + 16 * k) % 64 ∧ f 2 1 / 128 = (if 0 < v.drops then 1 else 0) ∧ f 3 1 = 0 ∧
          f 4 2 = r.payload.length % 65536 ∧ f 6 2 = 0xFFFF ∧ f 8 4 = (v.seq + 1) % 2 ^ 32 ∧ f 12 4 = min v.drops 0xFFFFFFFF ∧
          f 16 8 = r.times.headD 0 % 2 ^ 64 ∧ f 24 4 = r.aux0 % 2 ^ 32 ∧ f 28 4 = r.aux1 % 2 ^ 32 ∧
          g.bytes (a + 32) r.payload.length = r.payload ∧ (∀ x, x < a ∨ a + v.slotSize ≤ x → g.byte x = h.byte x) ∧
          (g.stream k).seq = v.seq + 1 ∧ (g.stream k).drops = 0 ∧ (g.stream k).staged = rest ∧
          (g.stream k).slot = (if v.slots ≤ v.slot + 1 then 0 else v.slot + 1) ∧
          g.rd F.VAR_SCNT_WRITTEN k = min 65535 (h.rd F.VAR_SCNT_WRITTEN k + 1) ∧
          g.rd F.VAR_SWRPTR_ADDR k = v.slotAddr (if v.slots ≤ v.slot + 1 then 0 else v.slot + 1) / 16 % 2 ^ 20)) ∧
    (h.on 39 = true → runs → 64 ≤ v.low → v.cfgBits 0 9 9 = 1 → 0 < auto → h.var.streams.length = 4 → Leaves (.varAutoRelax k) s fun g =>
      g.rd F.VAR_SSTAT_AUTO k = auto - 1 ∧ g.rd F.VAR_SSTAT_RED k = min 8 (auto - 1 + h.rd F.LDG_CRED_DECIM 10) ∧ (g.stream k).low = 0 ∧
      g = { h with regs := g.regs, var := g.var }) ∧
    (h.on 39 = false ∨ ¬ runs ∨ v.low < 64 ∨ v.cfgBits 0 9 9 = 0 ∨ auto = 0 → Does (.varAutoRelax k) s h) ∧
    (h.fnActive (4 + i) = false → Does (.trigInputEdge i rising) s h) ∧
    (h.on 39 = true → h.fnActive (4 + i) = true → ∀ u : Fin 4, h.rd F.VAR_CU_CFG_KIND u = 5 → h.rd F.VAR_CU_CFG_SEL u % 2 = i →
      h.rd F.VAR_CU_CFG_OP u = 4 ∨ h.rd F.VAR_CU_CFG_OP u = (if rising then 2 else 3) → h.var.level.getD u false = false →
      Leaves (.trigInputEdge i rising) s fun g => bit (g.rd (evtF bVAR)) (8 + u) = true ∧ g.mem = h.mem) ∧
    (h.on 39 = false → rising = false ∨ h.on 21 = false → Does (.trigInputEdge i rising) s h) ∧
    (h.on 39 = false → h.fnActive (4 + i) = true → h.on 21 = true → (if i = 0 then h.rdB F.BRG_BIO_IEN0 else h.rdB F.BRG_BIO_IEN1) = true →
      Leaves (.trigInputEdge i true) s fun g => let line := if i = 0 then h.rd F.BRG_BIO_ILINE0 else h.rd F.BRG_BIO_ILINE1
        g.brg.landing.any (fun e => e.1 = line && e.2.1 = h.sysTime + h.rd F.BRG_TIMING_BLAT) = true ∧ g.mem = h.mem) ∧
    (h.var.pulse.getD i false = false → Does (.trigPulseEnd i) s h) ∧
    (h.var.pulse[i.val]? = some true → Does (.trigPulseEnd i) s { h with
      var := { h.var with pulse := h.var.pulse.set i false }
      gpi := { h.gpi with fv := h.gpi.fv.set (4 + i) false, foe := h.gpi.foe.set (4 + i) false } }) ∧
    (h.rd F.TIM_STAT_STATE ≠ 2 → h.rd F.TIM_STAT_STATE ≠ 4 →
      (h.on 39 = true → h.on 40 = true → h.rdB F.VAR_CTRL_HEN = true → (∀ u < 4, h.rd F.VAR_CU_CFG_KIND u ≠ 2) →
        Leaves .histogramSwap s fun g => g.rd F.VAR_STAT_HBANK = 1 - h.rd F.VAR_STAT_HBANK ∧
          g.rd F.VAR_HCNT_FRAMES = (h.rd F.VAR_HCNT_FRAMES + 1) % 2 ^ 32 ∧ bit (g.rd (evtF bVAR)) 17 = true ∧ h.OnlyRegs g) ∧
      (h.on 39 = false ∨ h.on 40 = false ∨ h.rdB F.VAR_CTRL_HEN = false → Does .histogramSwap s h)))

/-- Ports train, come up, measure their hop delay and go down (17 R567 to R570, R578, R580; 03 R81). Coprocessor packets
and retries over the link (08 R298 to R300; 17 R591, R595, R601). See log 59. -/
def Obligations.LinkPortsAndPackets : Prop :=
  -- LinkPorts
  (∀ (s : State) (p partner : Fin 2) (lead : Bool) (node errors : Nat) (out back : Int), let h := s.hw
    let st := fun (q : Nat) => h.rd F.BRG_P_STAT_STATE q
    let trains := fun (q : Nat) => h.on (41 + q) = true ∧ h.on 21 = true ∧ h.rdB F.BRG_P_CTRL_TXEN q = true
    let locked := h.rdB F.SYS_CLKSTAT_LNK_LOCK = true
    let e := (h.bport p).exch
    (h.on 41 = false → h.on 42 = false → Does .pllLnkLock s h) ∧
    (h.on 41 = true ∨ h.on 42 = true → Leaves .pllLnkLock s fun g => g.rd F.SYS_CLKSTAT_LNK_LOCK = 1 ∧ g = { h with regs := g.regs } ∧
      (trains p → g.rd F.BRG_P_STAT_STATE p = (if st p = 0 then 1 else st p)) ∧
      (¬ trains p → st p ≠ 3 → st p ≠ 4 → g.rd F.BRG_P_STAT_STATE p = 0)) ∧
    (¬ locked → Does .pllLnkUnlock s h) ∧
    (locked → Leaves .pllLnkUnlock s fun g => g.rd F.SYS_CLKSTAT_LNK_LOCK = 0 ∧ bit (g.rd (evtF bSYS)) 6 = true ∧ h.OnlyRegs g ∧
      g.rd F.BRG_P_STAT_STATE p = (if st p = 3 ∨ st p = 4 then st p else 0)) ∧
    (trains p → locked → st p = 1 ∨ st p = 5 ∨ st p = 6 → Does (.linkSignalDetect p) s (h.wr F.BRG_P_STAT_STATE 2 p)) ∧
    (¬ trains p ∨ ¬ locked ∨ st p = 0 ∨ st p = 2 ∨ st p = 3 ∨ st p = 4 → Does (.linkSignalDetect p) s h) ∧
    (st p ≠ 2 ∨ ¬ trains p ∨ ¬ locked → Does (.portUp p partner lead node) s h) ∧
    (st p = 2 → trains p → locked → Leaves (.portUp p partner lead node) s fun g => g.rd F.BRG_P_STAT_PPORT p = partner ∧
      g.rd F.BRG_P_STAT_PARTNER p = node % 256 ∧ g.mem = h.mem ∧
      (partner = p → g.rd F.BRG_P_STAT_STATE p = 5 ∧ bit (g.rd (evtF bBRG)) 9 = true) ∧
      (partner ≠ p → lead = true → h.brg.lead = true → g.rd F.BRG_P_STAT_STATE p = 6 ∧ bit (g.rd (evtF bBRG)) 8 = true) ∧
      (partner ≠ p → lead = false ∨ h.brg.lead = false → g.rd F.BRG_P_STAT_STATE p = 3 ∧ bit (g.rd (evtF bBRG)) p = true ∧
        g.rd F.BRG_P_DELAY_DELAY p = 0 ∧ (h.brg.ports.length = 2 → (g.bport p).exch = []) ∧ (h.brg.lead = true → g.brg.enumDue = true))) ∧
    (st p ≠ 3 → Does (.portDown p errors) s h ∧ Does (.delayExchange p out back) s h) ∧
    (st p = 3 → Leaves (.portDown p errors) s fun g => g.rd F.BRG_P_STAT_STATE p = (if trains p ∧ locked then 1 else 0) ∧
      g.rd F.BRG_P_STAT_TV p = 0 ∧ bit (g.rd (evtF bBRG)) (2 + p) = true ∧
      g.rd F.BRG_P_ERR_RESYNC p = min 255 (h.rd F.BRG_P_ERR_RESYNC p + 1) ∧ g.rd F.BRG_P_ERR_CODE p = min 65535 (h.rd F.BRG_P_ERR_CODE p + errors) ∧
      g.rd F.BRG_STAT_TOPO = (if h.rd F.BRG_STAT_TOPO = 2 then 3 else h.rd F.BRG_STAT_TOPO) ∧
      (h.rd F.BRG_STAT_TOPO = 2 → bit (g.rd (evtF bBRG)) 12 = true) ∧ g.rd F.BRG_STAT_ID = h.rd F.BRG_STAT_ID ∧
      g.rd F.BRG_STAT_NODES = h.rd F.BRG_STAT_NODES ∧ g.mem = h.mem) ∧
    (st p = 3 → 16 ≤ e.length → Does (.delayExchange p out back) s h) ∧
    (st p = 3 → e.length < 16 → h.brg.ports.length = 2 → Leaves (.delayExchange p out back) s fun g => (g.bport p).exch = e ++ [out - back] ∧
      (e.length = 15 → 0 ≤ (e ++ [out - back]).sum → (e ++ [out - back]).sum < 2 ^ 36 →
        g.rd F.BRG_P_DELAY_DELAY p = ((e ++ [out - back]).sum / 32).toNat) ∧
      (e.length ≠ 15 → g.regs = h.regs))) ∧
  -- LinkPackets
  (∀ (s : State) (p : Fin 2) (k : LPkt) (node : Fin 128) (tag : Fin 256), let h := s.hw
    let up := h.rd F.BRG_P_STAT_STATE p = 3
    let good := up ∧ k.crcOk = true ∧ k.kind ≠ 0 ∧ k.kind < 9
    let mine := good ∧ k.dst = h.nodeId
    let slot := byteAt k.payload 1 % 8
    let eft := byteAt k.payload 1 / 16 % 4
    let status := byteAt k.payload 3 % 16
    let cmd : CopCmd := ⟨.remote k.src eft k.tag, byteAt k.payload 0, BitVec.ofNat 32 (fieldAt k.payload 4 4), BitVec.ofNat 32 (fieldAt k.payload 8 4)⟩
    let refused := fun (st : Nat) => let r : LPkt := ⟨7, k.src, h.nodeId, k.tag, 0, true, copResponseBytes cmd.op slot eft k.tag st [], true⟩
      ({ h with brg := { h.brg with out := h.brg.out ++ [r], answered := ⟨k.src, k.tag, 6, r, h.sysTime⟩ :: h.brg.answered } } : Hw)
    let fresh := mine ∧ k.kind = 6 ∧ h.nodeId ≠ 0xFF ∧ h.linkAnswered k.src k.tag 6 = none
    (¬ up → Does (.copreqPacket p k) s h ∧ Does (.coprspPacket p k) s h) ∧
    (up → ¬ good → Does (.copreqPacket p k) s (h.inc F.BRG_P_ERR_CRC 1 p) ∧ Does (.coprspPacket p k) s (h.inc F.BRG_P_ERR_CRC 1 p)) ∧
    (good → k.dst ≠ h.nodeId ∨ k.kind ≠ 6 → Does (.copreqPacket p k) s h) ∧
    (good → k.dst ≠ h.nodeId ∨ k.kind ≠ 7 → Does (.coprspPacket p k) s h) ∧
    (∀ r, mine → k.kind = 6 → h.nodeId ≠ 0xFF → h.linkAnswered k.src k.tag 6 = some r →
      Does (.copreqPacket p k) s { h with brg := { h.brg with out := h.brg.out ++ [r] } }) ∧
    (fresh → 4 ≤ slot → Does (.copreqPacket p k) s (refused 4)) ∧
    (fresh → h.cop.slots[slot]? = some [] → h.cop.results[slot]? = some [] → h.cop.fenceWaits = [] → slot < 4 →
      (bit (h.policyByte 0) slot = false → Does (.copreqPacket p k) s (refused 2)) ∧
      (∀ c, bit (h.policyByte 0) slot = true → h.copRefusal slot cmd.op cmd.a cmd.b = some c → Does (.copreqPacket p k) s (refused c)) ∧
      (bit (h.policyByte 0) slot = true → h.copRefusal slot cmd.op cmd.a cmd.b = none → Does (.copreqPacket p k) s
        { h with cop := { h.cop with slots := h.cop.slots.set slot [cmd] } })) ∧
    (∀ (i : Fin 4) (t : CopEntry), mine → k.kind = 7 → (∀ j : Fin 4, h.rdB (copCfg (4 + j) 15 15) = true ↔ j = i) →
      h.rd (copCfg (4 + i) 6 0) = k.src → h.rd (copCfg (4 + i) 10 8) = slot → h.copQueue eft (4 + i) = [t] → t.done = false → t.fail = none →
      let sent := { h with brg := { h.brg with waiting := h.brg.waiting.filter fun e => !(e.1.kind = 6 && e.1.dst = k.src && e.1.tag = byteAt k.payload 2) } }
      let words := ((List.range 2).map fun j => BitVec.ofNat 32 (fieldAt k.payload (4 + 4 * j) 4)).take (min 2 (byteAt k.payload 3 / 16 % 4))
      (t.tag ≠ byteAt k.payload 2 → Does (.coprspPacket p k) s (h.inc (copStat (4 + i) 23 16))) ∧
      (t.tag = byteAt k.payload 2 → status ≠ 0 → Leaves (.coprspPacket p k) s fun g => g.copQueue eft (4 + i) = [{ t with fail := some (8, status) }] ∧
        g.brg = sent.brg ∧ g.regs = h.regs ∧ g.mem = h.mem) ∧
      (t.tag = byteAt k.payload 2 → status = 0 → Leaves (.coprspPacket p k) s fun g =>
        g.copQueue eft (4 + i) = (if words = [] then [] else [{ t with done := true, words := words }]) ∧ g.brg = sent.brg ∧ g.regs = h.regs ∧
        g.mem = h.mem)) ∧
    ((∀ e ∈ h.brg.waiting, ¬ (e.1.dst = node.val ∧ e.1.tag = tag.val ∧ e.2 < 3)) → Does (.linkPacketRetry node tag) s h) ∧
    (∀ e, h.brg.waiting = [e] → e.1.dst = node.val → e.1.tag = tag.val → e.2 < 3 → h.nodeId ≠ 0xFF → Does (.linkPacketRetry node tag) s
      (({ h with brg := { h.brg with waiting := [(e.1, e.2 + 1)], out := h.brg.out ++ [e.1] } } : Hw).inc F.BRG_WCNT_RETRY)))

/-- A superframe that a follower receives on its one UP port: system time by R582, its bunting entries, a failed header;
and how it is forwarded (17 R572 to R575, R581 to R583, R589). Bunting requests and landings (17 R588 to R590). See log 58.
-/
def Obligations.SuperframesAndBunting : Prop :=
  -- Superframes
  (∀ (s : State) (p : Fin 2) (f : SFrame) (sub residence : Nat), let h := s.hw
    let q : Nat := 1 - p.val
    let up := fun (n : Nat) => h.rd F.BRG_P_STAT_STATE n = 3
    let own : Int := (h.sysTime : Int) * 10000 + h.brg.frac + (sub : Int) - (f.corr : Int) - (h.rd F.BRG_P_DELAY_DELAY p : Nat)
    let err := own - ((f.sysTime * 625 : Nat) : Int)
    let plain := up p ∧ h.brg.lead = false ∧ f.enm = false ∧ f.nodes = 0
    (¬ up p → Does (.superframeReceived p f sub residence) s h) ∧
    (plain → ¬ up q → f.tv = true → f.hcrcOk = true → f.acrcOk = true → h.brg.ports.length = 2 → h.sysTime < 2 ^ 64 → -2147483648 ≤ err → err ≤ 2147483647 →
      Leaves (.superframeReceived p f sub residence) s fun g => g.rd F.BRG_TSERR_ERR = ux 32 err ∧ g.rd F.BRG_STAT_TPORT = p ∧
        g.rd F.BRG_SFCNT_COUNT = (h.rd F.BRG_SFCNT_COUNT + 1) % 2 ^ 32 ∧ g.brg.sfn = f.sfn ∧ g.mem = h.mem ∧
        (err.natAbs ≤ 100000 → g.sysTime = h.sysTime ∧ g.brg.slew = -err) ∧
        (100000 < err.natAbs → g.brg.slew = 0 ∧ bit (g.rd (evtF bBRG)) 6 = true ∧
          (let now := (h.sysTime : Int) * 10000 + h.brg.frac - err
           0 ≤ now → now < 2 ^ 64 * 10000 → (g.sysTime : Int) = now / 10000 ∧ g.brg.frac = now % 10000)) ∧
        (err.natAbs ≤ 2000 → 3 ≤ (h.bport p).good → g.rd F.BRG_STAT_SYNC = 1) ∧ (2000 < err.natAbs → g.rd F.BRG_STAT_SYNC = 0) ∧
        (∀ e ∈ f.bunt, e.2.1 ≠ h.rd F.BRG_STAT_ID → (g.brg.landing.any fun x => x.1 = e.1 && x.2.1 = g.fullTick e.2.2) = true ∨
          (e.1, g.fullTick e.2.2) ∈ g.brg.landed)) ∧
    (plain → ¬ up q → f.hcrcOk = false → f.acrcOk = true → Leaves (.superframeReceived p f sub residence) s fun g =>
      g.rd F.BRG_P_ERR_CRC p = min 255 (h.rd F.BRG_P_ERR_CRC p + 1) ∧ g.sysTime = h.sysTime ∧ g.brg.slew = (if h.timingPort = some p.val then 0 else h.brg.slew) ∧
      g.brg.landing = h.brg.landing ∧ g.mem = h.mem) ∧
    (plain → up q → h.rdB F.BRG_P_CTRL_TXEN q = true → f.hcrcOk = true → f.acrcOk = true → h.brg.sent.length = 2 → h.brg.ports.length = 2 →
      h.rd F.BRG_STAT_TOPO ≠ 2 → Leaves (.superframeReceived p f sub residence) s fun g => ∃ x, g.brg.sent[q]? = some (some x) ∧ x.sfn = f.sfn ∧
        x.hops = f.hops + 1 ∧ x.corr = f.corr + h.rd F.BRG_P_DELAY_DELAY p + residence ∧ x.sysTime = f.sysTime ∧ x.srcId = f.srcId ∧
        x.turn = f.turn ∧ (x.tv = true → f.tv = true) ∧ (h.nodeId ≠ 0xFF → ∀ k ∈ f.packets, k.dst ≠ h.nodeId → k ∈ x.packets)) ∧
    (up p → h.brg.lead = true → f.turn = true → h.rd F.BRG_STAT_TOPO ≠ 2 → f.srcId < 128 → f.hcrcOk = true → f.acrcOk = true →
      Leaves (.superframeReceived p f sub residence) s fun g => g.regs = h.regs ∧ g.brg.sent = h.brg.sent ∧ g.mem = h.mem)) ∧
  -- Bunting
  (∀ (s : State) (value : Word), let h := s.hw
    let line := getBits value 10 8
    let tick := h.sysTime + h.rd F.BRG_TIMING_BLAT
    let admitted := bit (h.policyByte 1) line = true ∧ h.rd F.BRG_STAT_ID ≠ 0xFF ∧ h.brg.bq.length < 8
    (h.on 21 = false → Does (.buntingRequest value) s h) ∧
    (h.on 21 = true → getBits value 0 0 = 0 → Does (.buntingRequest value) s (h.wr F.BRG_BREQ_LINE line)) ∧
    (h.on 21 = true → getBits value 0 0 = 1 → Leaves (.buntingRequest value) s fun g => g.rd F.BRG_BREQ_LINE = line ∧
      g.rd F.BRG_BLAST_TICK = tick % 2 ^ 32 ∧ (∃ late, (line, tick, late) ∈ g.brg.landing) ∧
      (admitted → g.brg.bq = h.brg.bq ++ [(line, tick, (List.range 2).filter h.portUp)] ∧ g.rd F.BRG_BCNT_DROP = h.rd F.BRG_BCNT_DROP) ∧
      (¬ admitted → g.brg.bq = h.brg.bq ∧ g.rd F.BRG_BCNT_DROP = min 255 (h.rd F.BRG_BCNT_DROP + 1)) ∧
      g = { h with regs := g.regs, brg := g.brg }) ∧
    (h.on 21 = false ∨ h.brg.landing = [] → Does .buntingLanding s h) ∧
    (∀ t, h.on 21 = true → h.brg.landing ≠ [] → t < 2 ^ 64 → (∀ e ∈ h.brg.landing, e.2.1 = t ∧ e.2.2 = false) →
      Leaves .buntingLanding s fun g => g.brg.landing = [] ∧ g.mem = h.mem ∧
        g.rd F.BRG_BCNT_LANDED = min 65535 (h.rd F.BRG_BCNT_LANDED + h.brg.landing.length) ∧ g.rd F.BRG_BCNT_LATE = h.rd F.BRG_BCNT_LATE ∧
        (h.brg.landing.length ≤ 64 → ∀ e ∈ h.brg.landing, (e.1, t) ∈ g.brg.landed)) ∧
    (h.on 21 = true → h.brg.landing ≠ [] → (∀ e ∈ h.brg.landing, e.2.2 = true) → Leaves .buntingLanding s fun g => g.brg.landing = [] ∧
      g.rd F.BRG_BCNT_LATE = min 255 (h.rd F.BRG_BCNT_LATE + h.brg.landing.length) ∧ bit (g.rd (evtF bBRG)) 11 = true))

/-- Writes of GPI_OUT, GPI_OE and GPI_PINn under ownership: the bits of the pins that the writer controls take effect, the
others stay, and WDENY sets only where one of them would have changed (18 R612, R613, R615). What drives a pin, what its
input shows, its edges, the outside's levels and a bank's failed supply (18 R608, R615 to R619). Beyond R613 the statement
covers R608, R612 and R615 to R619 in part; pin levels are as logs 24 and 82 have them. -/
def Obligations.Pins : Prop :=
  -- PinWrites
  (∀ (s : State) (m : Fin 12) (k : Fin 3) (n : Fin 96) (value : Word) (b : Nat), b < 32 → s.hw.reaches m = true → let h := s.hw
    let bank := fun (i : Nat) => h.on (if i < 48 then 46 else 47) = true
    let own := fun (i : Nat) => h.gpi.owner.getD i 0
    let out := fun (i : Nat) => (own i = 3 ∧ (m = 1 ∨ m = 11)) ∨ (own i = 4 ∧ m = 9) ∨ (own i ≠ 3 ∧ own i ≠ 4 ∧ own i ≠ 5 ∧ m = 2)
    let cfg := (own n = 3 ∧ (m = 1 ∨ m = 11)) ∨ (own n ≠ 3 ∧ m = 2)
    let a := F.GPI_PIN_FUNC.addr n
    let same := fun (g : Hw) => g.gpi.owner = h.gpi.owner ∧ g.gpi.bad = h.gpi.bad ∧ g.gpi.ext = h.gpi.ext ∧ g.gpi.table = h.gpi.table ∧ g.mem = h.mem
    let word := fun (f : FieldRef) (g : Hw) => let i := 32 * k.val + b
      bit (g.rd f k) b = (if (bank i ∧ out i) then bit value.toNat b else bit (h.rd f k) b) ∧
      (bank i → ¬ out i → bit value.toNat b ≠ bit (h.rd f k) b → bit (g.rd (evtF bGPI)) 3 = true) ∧
      ((∀ c < 32, bank (32 * k + c) → out (32 * k + c) ∨ bit value.toNat c = bit (h.rd f k) c) → g.rd (evtF bGPI) = h.rd (evtF bGPI)) ∧
      (∀ j < 3, j ≠ k.val → g.rd f j = h.rd f j) ∧ (∀ j : Fin 96, g.reg (F.GPI_PIN_FUNC.addr j) = h.reg (F.GPI_PIN_FUNC.addr j)) ∧ same g
    (h.on 46 = false → Does (.gpiOutWrite m k value) s h ∧ Does (.gpiOeWrite m k value) s h) ∧
    (h.on 46 = true → Leaves (.gpiOutWrite m k value) s fun g => word F.GPI_OUT_OUT g ∧ ∀ j < 3, g.rd F.GPI_OE_OE j = h.rd F.GPI_OE_OE j) ∧
    (h.on 46 = true → Leaves (.gpiOeWrite m k value) s fun g => word F.GPI_OE_OE g ∧ ∀ j < 3, g.rd F.GPI_OUT_OUT j = h.rd F.GPI_OUT_OUT j) ∧
    (Leaves (.gpiPinWrite m n value) s fun g => same g ∧
      g.reg a = (if (bank n ∧ cfg) then BitVec.ofNat 32 (value.toNat &&& 0x01303310) else h.reg a) ∧
      (∀ j : Fin 96, j ≠ n → g.reg (F.GPI_PIN_FUNC.addr j) = h.reg (F.GPI_PIN_FUNC.addr j)) ∧
      (∀ j < 3, g.rd F.GPI_OUT_OUT j = h.rd F.GPI_OUT_OUT j ∧ g.rd F.GPI_OE_OE j = h.rd F.GPI_OE_OE j) ∧
      (bank n → ¬ cfg → value.toNat &&& 0x01303310 ≠ (h.reg a).toNat &&& 0x01303310 → bit (g.rd (evtF bGPI)) 3 = true) ∧
      (cfg ∨ value.toNat &&& 0x01303310 = (h.reg a).toNat &&& 0x01303310 → bit (g.rd (evtF bGPI)) 3 = bit (h.rd (evtF bGPI)) 3) ∧
      (bank n → cfg → own n = 3 → value.getLsbD 24 = true → n.val ∈ ([4, 5, 29, 30, 31, 32] ++ List.range' 37 11 ++ [65, 66, 67]) →
        bit (g.rd (evtF bGPI)) 4 = true))) ∧
  -- PinLevels
  (∀ (s : State) (n : Fin 96) (level : Bool) (bank : Fin 4), let h := s.hw
    let dom := if n.val < 48 then 46 else 47
    let on := h.on dom = true
    let oe := bit (h.rd F.GPI_OE_OE (n / 32)) (n % 32)
    let out := bit (h.rd F.GPI_OUT_OUT (n / 32)) (n % 32)
    let reaches := h.rd F.GPI_PIN_FUNC n = 1 ∧ h.gpi.owner.getD n 0 ∈ fnOwners n ∧ on
    let quiet := ¬ (n.val ∈ [1, 8, 24, 25, 26, 27, 29, 30, 31, 32, 34, 36])
    let foe := reaches ∧ h.gpi.foe.getD n false = true
    let edge := h.rd F.GPI_PIN_EDGE n
    (quiet → on → h.gpi.bad.getD (n / 24) false = false →
      h.pinLevel n = (if oe = true ∨ foe then (out && oe) || (h.gpi.fv.getD n false && decide foe) else h.gpi.ext.getD n false)) ∧
    (h.gpi.bad.getD (n / 24) false = true ∨ ¬ on → h.pinDriven n = false) ∧
    (¬ on → h.pinIn n = false) ∧ (on → h.pinIn n = h.pinLevel n) ∧
    (¬ reaches → h.fnIn n = decide (n.val ∈ [0, 2, 3, 11, 22, 23, 33, 35])) ∧
    (on → edge = 3 ∨ (edge = 1 ∧ level = true) ∨ (edge = 2 ∧ level = false) → Does (.gpioInputEdge n level) s
      ((h.wr F.GPI_EDGE_EDGE (h.rd F.GPI_EDGE_EDGE (n / 32) ||| 2 ^ (n.val % 32)) (n / 32)).raiseBit bGPI (n / 32))) ∧
    (¬ on ∨ edge = 0 ∨ (edge = 1 ∧ level = false) ∨ (edge = 2 ∧ level = true) → Does (.gpioInputEdge n level) s h) ∧
    (Leaves (.gpioInputChange n level) s fun g => g.gpi.ext = h.gpi.ext.set n level ∧ g.gpi.owner = h.gpi.owner ∧ g.mem = h.mem ∧
      (∀ j < 3, g.rd F.GPI_OUT_OUT j = h.rd F.GPI_OUT_OUT j ∧ g.rd F.GPI_OE_OE j = h.rd F.GPI_OE_OE j ∧
        g.rd F.GPI_EDGE_EDGE j = h.rd F.GPI_EDGE_EDGE j)) ∧
    (h.on (46 + bank / 2) = false → Does (.bankSupplyFault bank) s h) ∧
    (h.on (46 + bank / 2) = true → h.gpi.bad.length = 4 → Leaves (.bankSupplyFault bank) s fun g => g.gpi.bad = h.gpi.bad.set bank true ∧
      g.gpi.owner = h.gpi.owner ∧ g.mem = h.mem ∧ (n.val / 24 = bank.val → g.pinDriven n = false) ∧
      (∀ j < 3, g.rd F.GPI_OUT_OUT j = h.rd F.GPI_OUT_OUT j ∧ g.rd F.GPI_OE_OE j = h.rd F.GPI_OE_OE j)))

/-- I2C transfers, UART bytes and frames, and PWM periods (02 R45, R46; 18 R640, R641, R644, R646). The xSPI controller's
commands, DMA and read buffer (02 R45, R46; 18 R629 to R631). Beyond R644 the statement covers R45, R46, R629 to R631,
R640, R641 and R646 in part; bytes of bad frames are not stored (log 10), lengths above 32 act as 32 (log 9). -/
def Obligations.SerialPorts : Prop :=
  -- SerialPorts
  (∀ (s : State) (c : Fin 2) (value : Word) (data : Byte) (r : I2cRun) (x : I2cEnd) (stop parity broken : Bool) (k : Fin 8) (rx tx : List Byte), let h := s.hw
    let a := 0x040E0400 + 0x80 * c.val
    let put := h.setReg a (value &&& 0x003F3F02#32 ||| (h.reg a &&& 1#32))
    let on := h.on 46 = true
    let go := value.getLsbD 0 = true
    let ended := fun (g : Hw) (res n : Nat) (got : List Byte) => g.i2c[c.val]? = some none ∧ g.rd F.GPI_I2C_XFER_GO c = 0 ∧
      g.rd F.GPI_I2C_STAT_RES c = res ∧ g.rd F.GPI_I2C_STAT_BYTES c = n % 64 ∧ bit (g.rd (evtF bGPI)) (5 + c) = true ∧
      h.OnlyRegs { g with i2c := h.i2c } ∧
      (r.rlen ≤ 32 → ((List.range 8).flatMap fun j => leBytes 4 (g.reg (a + 0x40 + 4 * j)).toNat).take (min r.rlen got.length) = got.take r.rlen)
    let levels := fun (g : Hw) (err : Bool) => let e := g.rd (evtF bGPI)
      (h.rd F.GPI_UART_THR_RXTHR c ≤ (g.uartAt c).rx.length → bit e (7 + 3 * c) = true) ∧
      ((g.uartAt c).tx.length ≤ h.rd F.GPI_UART_THR_TXTHR c → bit e (8 + 3 * c) = true) ∧ (err = true → bit e (9 + 3 * c) = true) ∧
      h.OnlyRegs { g with uart := h.uart }
    let has := h.uart[c.val]? = some ⟨rx, tx⟩
    let hears := on ∧ h.rdB F.GPI_UART_CFG_EN c = true ∧ h.fnActive (33 + 2 * c) = true
    let seven := if h.rdB F.GPI_UART_CFG_D7 c then data &&& 0x7F#8 else data
    (¬ on → Does (.i2cXferGo c value none) s h ∧ Does (.i2cXferGo c value (some x)) s h ∧ Does (.uartTxPush c data) s h ∧
      Does (.uartRxPop c value) s h ∧ Does (.uartTxFrameSent c) s h ∧ Does (.pwmPeriodStart k) s h) ∧
    (on → ¬ go → Does (.i2cXferGo c value none) s put) ∧
    (on → go → h.i2c[c.val]? = some (some r) → Does (.i2cXferGo c value none) s (put.wr (collideIgnored bGPI) 1)) ∧
    (on → go → h.i2c[c.val]? = some none → Leaves (.i2cXferGo c value none) s fun g => g.rd F.GPI_I2C_XFER_GO c = 1 ∧
      h.OnlyRegs { g with i2c := h.i2c } ∧ ∃ q, g.i2c = h.i2c.set c (some q) ∧ q.addr = h.rd F.GPI_I2C_ADDR_ADDR c ∧
        q.a10 = value.getLsbD 1 ∧ q.tx.length = min (getBits value 13 8) 32 ∧ q.rlen = min (getBits value 21 16) 32) ∧
    (on → go → h.i2c[c.val]? = some (some r) → Leaves (.i2cXferGo c value (some x)) s fun g => g.rd F.GPI_I2C_XFER_GO c = 1 ∧
      g.rd F.GPI_I2C_STAT_RES c = x.result.val ∧ bit (g.rd (evtF bGPI)) (5 + c) = true ∧ g.rd (collideRestart bGPI) = 1 ∧ (∃ q, g.i2c[c.val]? = some (some q))) ∧
    (h.i2c[c.val]? = some none → Does (.i2cXferDone c x) s h ∧ Does (.i2cSclTimeout c x.count x.received) s h) ∧
    (h.i2c[c.val]? = some (some r) → Leaves (.i2cXferDone c x) s (fun g => ended g x.result x.count x.received) ∧
      Leaves (.i2cSclTimeout c x.count x.received) s fun g => ended g 4 x.count x.received) ∧
    (on → has → tx.length < 64 → Leaves (.uartTxPush c data) s fun g => g.uart = h.uart.set c ⟨rx, tx ++ [data]⟩ ∧ levels g false) ∧
    (on → has → 64 ≤ tx.length → Leaves (.uartTxPush c data) s fun g => g.uart = h.uart ∧ g.rd F.GPI_UART_STAT_TXDROP c = 1 ∧ levels g true) ∧
    (on → has → go → Leaves (.uartRxPop c value) s fun g => g.uart = h.uart.set c ⟨rx.drop 1, tx⟩ ∧ levels g false) ∧
    (¬ go → Does (.uartRxPop c value) s h) ∧
    (¬ hears → Does (.uartRxFrame c data stop parity broken) s h) ∧
    (hears → has → broken = true ∨ stop = false ∨ parity = false → Leaves (.uartRxFrame c data stop parity broken) s fun g => g.uart = h.uart ∧
      g.rd F.GPI_UART_STAT_BRK c = (if broken then 1 else h.rd F.GPI_UART_STAT_BRK c) ∧
      g.rd F.GPI_UART_STAT_FE c = (if stop then h.rd F.GPI_UART_STAT_FE c else 1) ∧
      g.rd F.GPI_UART_STAT_PE c = (if parity then h.rd F.GPI_UART_STAT_PE c else 1) ∧ levels g true) ∧
    (hears → has → rx.length < 64 → Leaves (.uartRxFrame c data true true false) s fun g => g.uart = h.uart.set c ⟨rx ++ [seven], tx⟩ ∧ levels g false) ∧
    (hears → has → 64 ≤ rx.length → Leaves (.uartRxFrame c data true true false) s fun g => g.uart = h.uart ∧ g.rd F.GPI_UART_STAT_OE c = 1 ∧ levels g true) ∧
    (on → h.rdB F.GPI_UART_CFG_EN c = true → has → tx ≠ [] → Leaves (.uartTxFrameSent c) s fun g => g.uart = h.uart.set c ⟨rx, tx.drop 1⟩ ∧ levels g false) ∧
    (h.rdB F.GPI_UART_CFG_EN c = false ∨ (has ∧ tx = []) → Does (.uartTxFrameSent c) s h) ∧
    (on → Leaves (.pwmPeriodStart k) s fun g => g.rd F.GPI_PWM_ACT_PERIOD k = h.rd F.GPI_PWM_CFG_PERIOD k ∧
      g.rd F.GPI_PWM_ACT_DUTY k = h.rd F.GPI_PWM_DUTY_DUTY k ∧ h.OnlyRegs { g with gpi := h.gpi } ∧
      g.gpi = { h.gpi with
        fv := h.gpi.fv.set (14 + k) ((h.rdB F.GPI_PWM_CFG_EN k && decide (0 < h.rd F.GPI_PWM_DUTY_DUTY k)) != h.rdB F.GPI_PWM_CFG_POL k)
        foe := h.gpi.foe.set (14 + k) true })) ∧
  -- Xspi
  (∀ (s : State) (value : Word) (data : List Byte) (c : XspCmd) (d : XspDma) (line : Nat), let h := s.hw
    let put := h.setReg 0x04100044 (value &&& 0x1FFFFFF0#32 ||| (h.reg 0x04100044 &&& 1#32))
    let go := value.getLsbD 0 = true
    let on := h.on 44 = true
    let l := line / 64 * 64
    let started := fun (g : Hw) => g.rd F.XSP_CMD_GO = 1 ∧ g.mem = h.mem ∧ ∃ k, g.xsp.cmd = some k ∧
      k.word >>> 4 = (value &&& 0x1FFFFFF0#32) >>> 4 ∧ k.addr = h.rd F.XSP_CMDADDR_ADDR
    let dma : XspDma := ⟨h.rd F.XSP_DMASRC_ADDR, h.rd F.XSP_DMADST_ADDR * 16, min (h.rd F.XSP_DMALEN_LEN * 16) 16777216⟩
    (¬ on → Does (.xspCmdGo value none) s h ∧ Does (.xspDmaGo none) s h ∧ Does (.xspCmdGo value (some data)) s h ∧ Does (.xspDmaGo (some data)) s h) ∧
    (on → ¬ go → Does (.xspCmdGo value none) s put) ∧
    (on → go → h.xsp.dma ≠ none ∨ h.xsp.cmd ≠ none → Does (.xspCmdGo value none) s (put.wr (collideIgnored bXSP) 1)) ∧
    (on → go → h.xsp.dma = none → h.xsp.cmd = none → Leaves (.xspCmdGo value none) s fun g => started g ∧ g.xsp.lines = h.xsp.lines ∧
      h.OnlyRegs { g with xsp := h.xsp }) ∧
    (on → go → h.xsp.dma = none → h.xsp.cmd = some c → Leaves (.xspCmdGo value (some data)) s fun g => started g ∧
      g.rd (collideRestart bXSP) = 1 ∧ bit (g.rd (evtF bXSP)) 0 = true ∧ bit (g.rd (evtF bXSP)) 31 = true) ∧
    (h.xsp.cmd = none → Does (.xspCmdDone data) s h) ∧
    (h.xsp.cmd = some c → Leaves (.xspCmdDone data) s fun g => g.xsp.cmd = none ∧ g.rd F.XSP_CMD_GO = 0 ∧ bit (g.rd (evtF bXSP)) 0 = true ∧
      (c.word.getLsbD 18 = true → g.xsp.lines = [] ∧ g.xspBuf 256 = h.xspBuf 256) ∧
      (c.word.getLsbD 18 = false → let n := min (getBits c.word 28 20) 256
        g.xsp.lines = h.xsp.lines ∧ g.xspBuf 256 = fitBytes n data ++ (h.xspBuf 256).drop n) ∧
      g.xsp.dma = h.xsp.dma ∧ h.OnlyRegs { g with xsp := h.xsp }) ∧
    (on → h.xsp.cmd ≠ none ∨ h.xsp.dma ≠ none → Does (.xspDmaGo none) s (h.wr (collideIgnored bXSP) 1)) ∧
    (on → h.xsp.cmd = none → h.xsp.dma = none → Leaves (.xspDmaGo none) s fun g => g.xsp = { h.xsp with dma := some dma } ∧
      g.rd F.XSP_DMACTRL_GO = 1 ∧ h.OnlyRegs { g with xsp := h.xsp }) ∧
    (on → h.xsp.cmd = none → h.xsp.dma = some d → Leaves (.xspDmaGo (some data)) s fun g => g.xsp = { h.xsp with dma := some dma } ∧
      g.rd F.XSP_DMACTRL_GO = 1 ∧ g.rd (collideRestart bXSP) = 1 ∧ bit (g.rd (evtF bXSP)) 1 = true) ∧
    (h.xsp.dma = none → Does (.xspDmaDone data) s h) ∧
    (h.xsp.dma = some d → h.openMemory → d.dst % 16 = 0 → d.len % 16 = 0 → d.dst + d.len ≤ 0x01000000 → Leaves (.xspDmaDone data) s fun g =>
      g.bytes d.dst d.len = fitBytes d.len data ∧ (∀ a, a < d.dst ∨ d.dst + d.len ≤ a → g.byte a = h.byte a) ∧
      g.xsp = { h.xsp with dma := none } ∧ g.rd F.XSP_DMACTRL_GO = 0 ∧ bit (g.rd (evtF bXSP)) 1 = true ∧
      bit (g.rd (evtF bXSP)) 2 = bit (h.rd (evtF bXSP)) 2) ∧
    (h.xsp.dma = some d → d.dst < 0x01000000 → 0 < d.len / 16 → h.on (domainOf d.dst) = false → Leaves (.xspDmaDone data) s fun g =>
      g.mem = h.mem ∧ g.xsp = { h.xsp with dma := none } ∧ g.rd F.XSP_DMACTRL_GO = 0 ∧ bit (g.rd (evtF bXSP)) 1 = true ∧
      bit (g.rd (evtF bXSP)) 2 = true) ∧
    (h.xsp.miss ≠ some l → h.xsp.prefetch ≠ some l → Does (.xspLineFillDone line data) s h) ∧
    (h.xsp.miss = some l → Does (.xspLineFillDone line data) s { h with xsp := { h.xsp with
      lines := ((l, fitBytes 64 data) :: h.xsp.lines.filter fun x => x.1 ≠ l).take 16
      miss := none
      prefetch := if ((l, fitBytes 64 data) :: h.xsp.lines.filter fun x => x.1 ≠ l).take 16 |>.any fun x => x.1 = h.flashAddr (l + 64)
        then none else some (h.flashAddr (l + 64)) } }) ∧
    (h.xsp.miss ≠ some l → h.xsp.prefetch = some l → Does (.xspLineFillDone line data) s { h with xsp := { h.xsp with
      lines := ((l, fitBytes 64 data) :: h.xsp.lines.filter fun x => x.1 ≠ l).take 16
      prefetch := none } }))

/-- Frames of the bus: which ones are received, where they are stored, and what the signal table takes of them. Requests,
withdrawals, completions and errors of the transmit buffers, bus-off and recovery (18 R625, R626). The error counters are
ISO 11898-1's (log 44); 11-bit identifiers stand as logs 12 and 45 have them; see log 46. -/
def Obligations.CanController : Prop :=
  -- CanReceive
  (∀ (s : State) (f : CanFrame) (sof value : Word) (fifo : Fin 2) (i : Nat), i < 16 → let h := s.hw
    let nbt := (h.reg 0x040F0044).toNat
    let dbt := (h.reg 0x040F0048).toNat
    let mode := h.rd F.CAN_CFG_MODE
    let fd := h.rdB F.CAN_CFG_FD
    let runs := h.on 43 = true ∧ mode ≠ 0 ∧ 1 ≤ bits nbt 22 16 ∧
      80 ≤ (bits nbt 4 0 + 1) * (1 + (bits nbt 15 8 + 1) + (bits nbt 22 16 + 1)) ∧
      16 ≤ (bits dbt 4 0 + 1) * (1 + (bits dbt 12 8 + 1) + (bits dbt 19 16 + 1))
    let hears := runs ∧ h.can.offBus = false ∧ mode ≠ 3 ∧ h.fnActive 0 = true
    let takes := hears ∧ (f.fdf = true → fd = true)
    let id := if f.ide then f.id % 2 ^ 29 else f.id % 2 ^ 11 * 2 ^ 18
    let passes := fun (k : Nat) => h.rdB F.CAN_FLT_ID_EN k = true ∧ h.rdB F.CAN_FLT_ID_IDE k = f.ide ∧
      (id ^^^ h.rd F.CAN_FLT_ID_ID k) &&& h.rd F.CAN_FLT_MASK k = 0
    let first := fun (k : Nat) => k < 64 ∧ passes k ∧ ∀ j < k, ¬ passes j
    let level := fun (g : Hw) (q : Nat) => g.rd F.CAN_RXF_STAT_LEVEL q
    let put := fun (g : Hw) (q : Nat) => g.rd F.CAN_RXF_STAT_PUT q
    let received := fun (g : Hw) => g.mem = h.mem ∧
      (∀ k, first k → let q := h.rd F.CAN_FLT_ID_FIFO k
        let el := fun (j : Nat) => g.rd (if q = 0 then F.CAN_RXF0_EL else F.CAN_RXF1_EL) (20 * put h q + j)
        let n := if f.rtr then 0 else dlcLen f.fdf f.dlc
        (32 ≤ level h q → level g q = level h q ∧ put g q = put h q ∧ bit (g.rd (evtF bCAN)) 2 = true ∧
          g.rd F.CAN_CNT_RXLOST = min 65535 (h.rd F.CAN_CNT_RXLOST + 1)) ∧
        (level h q < 32 → level g q = level h q + 1 ∧ put g q = (put h q + 1) % 32 ∧ bit (g.rd (evtF bCAN)) q = true ∧
          el 0 = b2n f.ide * 2 ^ 30 + b2n f.rtr * 2 ^ 29 + id ∧
          el 1 = n * 65536 + k * 256 + b2n f.esi * 64 + b2n f.brs * 32 + b2n f.fdf * 16 + f.dlc % 16 ∧ el 2 = sof.toNat ∧
          el (3 + i) = fieldAt (fitBytes 64 (f.data.take n)) (4 * i) 4 ∧ el 19 = 0)) ∧
      ((∀ k < 64, ¬ passes k) → ∀ q < 2, level g q = level h q ∧ put g q = put h q) ∧
      (∀ k < 32, ∀ raw, sigMatches (h.sig k) f = true → sigRaw (h.sig k) (if f.rtr then [] else f.data) = some raw →
        g.rd F.PEN_SIGVAL k = ux 32 (sigCompute (h.sig k) raw) ∧ bit (g.rd F.PEN_STALE_STALE) k = false) ∧
      (∀ k < 32, sigMatches (h.sig k) f = false → g.rd F.PEN_SIGVAL k = h.rd F.PEN_SIGVAL k ∧
        bit (g.rd F.PEN_STALE_STALE) k = bit (h.rd F.PEN_STALE_STALE) k)
    let exception := (h.inc F.CAN_CNT_PROTERR).raiseBit bCAN 8
    let freed := min (getBits value 5 0) (level h fifo)
    let acked := (h.wr F.CAN_RXF_STAT_GET (h.rd F.CAN_RXF_STAT_GET fifo + freed) fifo).wr F.CAN_RXF_STAT_LEVEL (level h fifo - freed) fifo
    (¬ hears → Does (.canFrameReceived f sof) s h) ∧
    (hears → f.fdf = true → fd = false → Does (.canFrameReceived f sof) s exception) ∧
    (takes → Leaves (.canFrameReceived f sof) s fun g => received g ∧
      g.can.recv = (if 127 < h.can.recv then 127 else h.can.recv - 1) ∧ g.can.tec = h.can.tec) ∧
    (¬ hears ∨ fd = true → Does .canProtocolException s h) ∧ (hears → fd = false → Does .canProtocolException s exception) ∧
    (h.on 43 = false → Does (.canRxfAck fifo value (some f) sof) s h) ∧
    (h.on 43 = true → ¬ takes → Does (.canRxfAck fifo value (some f) sof) s acked ∧ Does (.canRxfAck fifo value none sof) s acked) ∧
    (h.on 43 = true → takes → Does (.canRxfAck fifo value none sof) s acked ∧ Leaves (.canRxfAck fifo value (some f) sof) s fun g =>
      ∀ k, first k → h.rd F.CAN_FLT_ID_FIFO k = fifo → level h fifo - freed < 32 →
        level g fifo = level h fifo - freed + 1 ∧ put g fifo = (put h fifo + 1) % 32)) ∧
  -- CanTransmit
  (∀ (s : State) (value : Word) (e : CanErr) (b c : Fin 8), let h := s.hw
    let on := h.on 43 = true
    let runs := h.canRuns = true
    let live := runs ∧ h.can.offBus = false
    let reqs := fun (g : Hw) (i : Nat) => bit (g.rd F.CAN_TXREQ_REQ) i
    let want := getBits value 7 0
    let key := fun (i : Nat) => let w := h.rd F.CAN_TXB (20 * i)
      if bit w 30 then (w % 2 ^ 29) * 2 + 1 else (w % 2 ^ 29) / 2 ^ 18 * 2 ^ 18 * 2
    let asked := fun (g : Hw) => h.OnlyRegs { g with can := h.can } ∧ g.rd F.CAN_TXREQ_REQ = h.rd F.CAN_TXREQ_REQ ||| want ∧
      (want &&& h.rd F.CAN_TXREQ_REQ ≠ 0 → g.rd (collideIgnored bCAN) = 1) ∧
      (want &&& h.rd F.CAN_TXREQ_REQ = 0 → g.rd (collideIgnored bCAN) = h.rd (collideIgnored bCAN))
    let t := h.can.tec + (match e with | .transmit => 8 | _ => 0)
    let r := min 255 (h.can.recv + (match e with | .receive => 1 | .receiveDominant => 8 | _ => 0))
    (¬ on → Does (.canTxRequest value true false) s h ∧ Does (.canTxRequest value false true) s h ∧ Does (.canTxAbort value) s h) ∧
    (on → Leaves (.canTxRequest value false false) s (fun g => asked g ∧ g.can = h.can)) ∧
    (on → Leaves (.canTxRequest value true false) s fun g => asked g ∧
      (h.can.sending = some b ∨ ¬ live ∨ h.rd F.CAN_CFG_MODE = 2 → g.can = h.can) ∧
      (h.can.sending = none → live → h.rd F.CAN_CFG_MODE ≠ 2 → reqs g c = true → ∃ i < 8, g.can.sending = some i ∧ reqs g i = true ∧
        (key i < key c ∨ (key i = key c ∧ i ≤ c.val)))) ∧
    (on → Leaves (.canTxAbort value) s fun g => g.can.sending = h.can.sending ∧ h.OnlyRegs { g with can := h.can } ∧
      (bit want b = false → reqs g b = reqs h b) ∧ (bit want b = true → h.can.sending ≠ some b.val → reqs g b = false) ∧
      (bit want b = true → h.can.sending = some b.val → reqs g b = reqs h b ∧ b.val ∈ g.can.aborts)) ∧
    (¬ live → Does .canTxComplete s h ∧ Does (.canBusError e) s h) ∧
    (live → h.can.sending = none → h.rd F.CAN_TXREQ_REQ = 0 → Does .canTxComplete s h) ∧
    (live → h.can.sending = some b.val → Leaves .canTxComplete s fun g => reqs g b = false ∧ bit (g.rd F.CAN_TXDONE_DONE) b = true ∧
      bit (g.rd (evtF bCAN)) 3 = true ∧ g.can.tec = h.can.tec - 1 ∧ g.mem = h.mem ∧ (b ≠ c → reqs g c = reqs h c) ∧
      (b ≠ c → reqs h c = true → h.rd F.CAN_CFG_MODE ≠ 2 → ∃ i < 8, g.can.sending = some i ∧ reqs g i = true ∧
        (key i < key c ∨ (key i = key c ∧ i ≤ c.val)))) ∧
    (live → Leaves (.canBusError e) s fun g => g.can.tec = t ∧ g.can.recv = r ∧ g.rd F.CAN_ERR_TEC = min t 255 ∧
      g.rd F.CAN_ERR_REC = min r 127 ∧ g.rd F.CAN_ERR_WARN = b2n (decide (96 ≤ t ∨ 96 ≤ r)) ∧
      g.rd F.CAN_CNT_PROTERR = min 65535 (h.rd F.CAN_CNT_PROTERR + 1) ∧ bit (g.rd (evtF bCAN)) 8 = true ∧ g.mem = h.mem ∧
      (255 < t → g.can.offBus = true ∧ g.can.sending = none ∧ g.rd F.CAN_ERR_STATE = 2 ∧ bit (g.rd (evtF bCAN)) 6 = true) ∧
      (t ≤ 255 → g.can.offBus = false ∧ g.rd F.CAN_ERR_STATE = b2n (decide (127 < t ∨ 127 < r))) ∧
      (h.can.sending = some b.val → e = .transmit ∨ e = .passiveAck → b.val ∈ h.can.aborts → reqs g b = false)) ∧
    (¬ live → Does .canBusOff s h) ∧
    (live → Leaves .canBusOff s fun g => g.can.offBus = true ∧ g.can.sending = none ∧ g.rd F.CAN_ERR_STATE = 2 ∧
      bit (g.rd (evtF bCAN)) 6 = true ∧ h.OnlyRegs { g with can := h.can } ∧ (b.val ∉ h.can.aborts → reqs g b = reqs h b)) ∧
    (¬ runs ∨ h.can.offBus = false ∨ h.rdB F.CAN_CFG_AUTOREC = false → Does .canBusRecovery s h) ∧
    (runs → h.can.offBus = true → h.rdB F.CAN_CFG_AUTOREC = true → Leaves .canBusRecovery s fun g => g.can.offBus = false ∧ g.can.tec = 0 ∧
      g.can.recv = 0 ∧ g.rd F.CAN_ERR_STATE = 0 ∧ bit (g.rd (evtF bCAN)) 7 = true ∧ g.rd F.CAN_TXREQ_REQ = h.rd F.CAN_TXREQ_REQ ∧
      h.OnlyRegs { g with can := h.can }))
end

