-- ==== Sys2Proof/Laws/State.lean ====
section
/-! SUPPORT. What each update of the device leaves of each field: true by unfolding, so that no proof unfolds a record update. -/

namespace Sys2Proof.Machine

open Sys2Proof

/-! ## setReg -/

@[simp] theorem Hw.setReg_cycle (h : Hw) (a : Nat) (v : Word) : (h.setReg a v).cycle = h.cycle := rfl
@[simp] theorem Hw.setReg_freeCount (h : Hw) (a : Nat) (v : Word) : (h.setReg a v).freeCount = h.freeCount := rfl
@[simp] theorem Hw.setReg_regs (h : Hw) (a : Nat) (v : Word) : (h.setReg a v).regs = Store.put regReset h.regs a v := rfl
@[simp] theorem Hw.setReg_act (h : Hw) (a : Nat) (v : Word) : (h.setReg a v).act = h.act := rfl
@[simp] theorem Hw.setReg_ciDue (h : Hw) (a : Nat) (v : Word) : (h.setReg a v).ciDue = h.ciDue := rfl
@[simp] theorem Hw.setReg_wideRead (h : Hw) (a : Nat) (v : Word) : (h.setReg a v).wideRead = h.wideRead := rfl
@[simp] theorem Hw.setReg_wideWrite (h : Hw) (a : Nat) (v : Word) : (h.setReg a v).wideWrite = h.wideWrite := rfl
@[simp] theorem Hw.setReg_mem (h : Hw) (a : Nat) (v : Word) : (h.setReg a v).mem = h.mem := rfl
@[simp] theorem Hw.setReg_pwr (h : Hw) (a : Nat) (v : Word) : (h.setReg a v).pwr = h.pwr := rfl
@[simp] theorem Hw.setReg_efts (h : Hw) (a : Nat) (v : Word) : (h.setReg a v).efts = h.efts := rfl
@[simp] theorem Hw.setReg_caches (h : Hw) (a : Nat) (v : Word) : (h.setReg a v).caches = h.caches := rfl
@[simp] theorem Hw.setReg_recLog (h : Hw) (a : Nat) (v : Word) : (h.setReg a v).recLog = h.recLog := rfl
@[simp] theorem Hw.setReg_awArmed (h : Hw) (a : Nat) (v : Word) : (h.setReg a v).awArmed = h.awArmed := rfl
@[simp] theorem Hw.setReg_mtx (h : Hw) (a : Nat) (v : Word) : (h.setReg a v).mtx = h.mtx := rfl
@[simp] theorem Hw.setReg_gpi (h : Hw) (a : Nat) (v : Word) : (h.setReg a v).gpi = h.gpi := rfl
@[simp] theorem Hw.setReg_i2c (h : Hw) (a : Nat) (v : Word) : (h.setReg a v).i2c = h.i2c := rfl
@[simp] theorem Hw.setReg_uart (h : Hw) (a : Nat) (v : Word) : (h.setReg a v).uart = h.uart := rfl
@[simp] theorem Hw.setReg_xsp (h : Hw) (a : Nat) (v : Word) : (h.setReg a v).xsp = h.xsp := rfl
@[simp] theorem Hw.setReg_evLog (h : Hw) (a : Nat) (v : Word) : (h.setReg a v).evLog = h.evLog := rfl
@[simp] theorem Hw.setReg_pen (h : Hw) (a : Nat) (v : Word) : (h.setReg a v).pen = h.pen := rfl
@[simp] theorem Hw.setReg_can (h : Hw) (a : Nat) (v : Word) : (h.setReg a v).can = h.can := rfl
@[simp] theorem Hw.setReg_varPulse (h : Hw) (a : Nat) (v : Word) : (h.setReg a v).varPulse = h.varPulse := rfl
@[simp] theorem Hw.setReg_var (h : Hw) (a : Nat) (v : Word) : (h.setReg a v).var = h.var := rfl
@[simp] theorem Hw.setReg_brg (h : Hw) (a : Nat) (v : Word) : (h.setReg a v).brg = h.brg := rfl
@[simp] theorem Hw.setReg_cop (h : Hw) (a : Nat) (v : Word) : (h.setReg a v).cop = h.cop := rfl
@[simp] theorem Hw.setReg_voc (h : Hw) (a : Nat) (v : Word) : (h.setReg a v).voc = h.voc := rfl
@[simp] theorem Hw.setReg_mix (h : Hw) (a : Nat) (v : Word) : (h.setReg a v).mix = h.mix := rfl
@[simp] theorem Hw.setReg_tim (h : Hw) (a : Nat) (v : Word) : (h.setReg a v).tim = h.tim := rfl
@[simp] theorem Hw.setReg_lnl (h : Hw) (a : Nat) (v : Word) : (h.setReg a v).lnl = h.lnl := rfl
@[simp] theorem Hw.setReg_texels (h : Hw) (a : Nat) (v : Word) : (h.setReg a v).texels = h.texels := rfl
@[simp] theorem Hw.setReg_cam (h : Hw) (a : Nat) (v : Word) : (h.setReg a v).cam = h.cam := rfl
@[simp] theorem Hw.setReg_ano (h : Hw) (a : Nat) (v : Word) : (h.setReg a v).ano = h.ano := rfl
@[simp] theorem Hw.setReg_ldg (h : Hw) (a : Nat) (v : Word) : (h.setReg a v).ldg = h.ldg := rfl
@[simp] theorem Hw.setReg_eng (h : Hw) (a : Nat) (v : Word) : (h.setReg a v).eng = h.eng := rfl

/-! ## wr -/

@[simp] theorem Hw.wr_cycle (h : Hw) (f : FieldRef) (v i : Nat) : (h.wr f v i).cycle = h.cycle := rfl
@[simp] theorem Hw.wr_freeCount (h : Hw) (f : FieldRef) (v i : Nat) : (h.wr f v i).freeCount = h.freeCount := rfl
@[simp] theorem Hw.wr_regs (h : Hw) (f : FieldRef) (v i : Nat) : (h.wr f v i).regs = Store.put regReset h.regs (f.addr i) (setBits (h.reg (f.addr i)) f.hi f.lo v) := rfl
@[simp] theorem Hw.wr_act (h : Hw) (f : FieldRef) (v i : Nat) : (h.wr f v i).act = h.act := rfl
@[simp] theorem Hw.wr_ciDue (h : Hw) (f : FieldRef) (v i : Nat) : (h.wr f v i).ciDue = h.ciDue := rfl
@[simp] theorem Hw.wr_wideRead (h : Hw) (f : FieldRef) (v i : Nat) : (h.wr f v i).wideRead = h.wideRead := rfl
@[simp] theorem Hw.wr_wideWrite (h : Hw) (f : FieldRef) (v i : Nat) : (h.wr f v i).wideWrite = h.wideWrite := rfl
@[simp] theorem Hw.wr_mem (h : Hw) (f : FieldRef) (v i : Nat) : (h.wr f v i).mem = h.mem := rfl
@[simp] theorem Hw.wr_pwr (h : Hw) (f : FieldRef) (v i : Nat) : (h.wr f v i).pwr = h.pwr := rfl
@[simp] theorem Hw.wr_efts (h : Hw) (f : FieldRef) (v i : Nat) : (h.wr f v i).efts = h.efts := rfl
@[simp] theorem Hw.wr_caches (h : Hw) (f : FieldRef) (v i : Nat) : (h.wr f v i).caches = h.caches := rfl
@[simp] theorem Hw.wr_recLog (h : Hw) (f : FieldRef) (v i : Nat) : (h.wr f v i).recLog = h.recLog := rfl
@[simp] theorem Hw.wr_awArmed (h : Hw) (f : FieldRef) (v i : Nat) : (h.wr f v i).awArmed = h.awArmed := rfl
@[simp] theorem Hw.wr_mtx (h : Hw) (f : FieldRef) (v i : Nat) : (h.wr f v i).mtx = h.mtx := rfl
@[simp] theorem Hw.wr_gpi (h : Hw) (f : FieldRef) (v i : Nat) : (h.wr f v i).gpi = h.gpi := rfl
@[simp] theorem Hw.wr_i2c (h : Hw) (f : FieldRef) (v i : Nat) : (h.wr f v i).i2c = h.i2c := rfl
@[simp] theorem Hw.wr_uart (h : Hw) (f : FieldRef) (v i : Nat) : (h.wr f v i).uart = h.uart := rfl
@[simp] theorem Hw.wr_xsp (h : Hw) (f : FieldRef) (v i : Nat) : (h.wr f v i).xsp = h.xsp := rfl
@[simp] theorem Hw.wr_evLog (h : Hw) (f : FieldRef) (v i : Nat) : (h.wr f v i).evLog = h.evLog := rfl
@[simp] theorem Hw.wr_pen (h : Hw) (f : FieldRef) (v i : Nat) : (h.wr f v i).pen = h.pen := rfl
@[simp] theorem Hw.wr_can (h : Hw) (f : FieldRef) (v i : Nat) : (h.wr f v i).can = h.can := rfl
@[simp] theorem Hw.wr_varPulse (h : Hw) (f : FieldRef) (v i : Nat) : (h.wr f v i).varPulse = h.varPulse := rfl
@[simp] theorem Hw.wr_var (h : Hw) (f : FieldRef) (v i : Nat) : (h.wr f v i).var = h.var := rfl
@[simp] theorem Hw.wr_brg (h : Hw) (f : FieldRef) (v i : Nat) : (h.wr f v i).brg = h.brg := rfl
@[simp] theorem Hw.wr_cop (h : Hw) (f : FieldRef) (v i : Nat) : (h.wr f v i).cop = h.cop := rfl
@[simp] theorem Hw.wr_voc (h : Hw) (f : FieldRef) (v i : Nat) : (h.wr f v i).voc = h.voc := rfl
@[simp] theorem Hw.wr_mix (h : Hw) (f : FieldRef) (v i : Nat) : (h.wr f v i).mix = h.mix := rfl
@[simp] theorem Hw.wr_tim (h : Hw) (f : FieldRef) (v i : Nat) : (h.wr f v i).tim = h.tim := rfl
@[simp] theorem Hw.wr_lnl (h : Hw) (f : FieldRef) (v i : Nat) : (h.wr f v i).lnl = h.lnl := rfl
@[simp] theorem Hw.wr_texels (h : Hw) (f : FieldRef) (v i : Nat) : (h.wr f v i).texels = h.texels := rfl
@[simp] theorem Hw.wr_cam (h : Hw) (f : FieldRef) (v i : Nat) : (h.wr f v i).cam = h.cam := rfl
@[simp] theorem Hw.wr_ano (h : Hw) (f : FieldRef) (v i : Nat) : (h.wr f v i).ano = h.ano := rfl
@[simp] theorem Hw.wr_ldg (h : Hw) (f : FieldRef) (v i : Nat) : (h.wr f v i).ldg = h.ldg := rfl
@[simp] theorem Hw.wr_eng (h : Hw) (f : FieldRef) (v i : Nat) : (h.wr f v i).eng = h.eng := rfl

/-! ## inc -/

@[simp] theorem Hw.inc_cycle (h : Hw) (f : FieldRef) (n i : Nat) : (h.inc f n i).cycle = h.cycle := rfl
@[simp] theorem Hw.inc_freeCount (h : Hw) (f : FieldRef) (n i : Nat) : (h.inc f n i).freeCount = h.freeCount := rfl
@[simp] theorem Hw.inc_act (h : Hw) (f : FieldRef) (n i : Nat) : (h.inc f n i).act = h.act := rfl
@[simp] theorem Hw.inc_ciDue (h : Hw) (f : FieldRef) (n i : Nat) : (h.inc f n i).ciDue = h.ciDue := rfl
@[simp] theorem Hw.inc_wideRead (h : Hw) (f : FieldRef) (n i : Nat) : (h.inc f n i).wideRead = h.wideRead := rfl
@[simp] theorem Hw.inc_wideWrite (h : Hw) (f : FieldRef) (n i : Nat) : (h.inc f n i).wideWrite = h.wideWrite := rfl
@[simp] theorem Hw.inc_mem (h : Hw) (f : FieldRef) (n i : Nat) : (h.inc f n i).mem = h.mem := rfl
@[simp] theorem Hw.inc_pwr (h : Hw) (f : FieldRef) (n i : Nat) : (h.inc f n i).pwr = h.pwr := rfl
@[simp] theorem Hw.inc_efts (h : Hw) (f : FieldRef) (n i : Nat) : (h.inc f n i).efts = h.efts := rfl
@[simp] theorem Hw.inc_caches (h : Hw) (f : FieldRef) (n i : Nat) : (h.inc f n i).caches = h.caches := rfl
@[simp] theorem Hw.inc_recLog (h : Hw) (f : FieldRef) (n i : Nat) : (h.inc f n i).recLog = h.recLog := rfl
@[simp] theorem Hw.inc_awArmed (h : Hw) (f : FieldRef) (n i : Nat) : (h.inc f n i).awArmed = h.awArmed := rfl
@[simp] theorem Hw.inc_mtx (h : Hw) (f : FieldRef) (n i : Nat) : (h.inc f n i).mtx = h.mtx := rfl
@[simp] theorem Hw.inc_gpi (h : Hw) (f : FieldRef) (n i : Nat) : (h.inc f n i).gpi = h.gpi := rfl
@[simp] theorem Hw.inc_i2c (h : Hw) (f : FieldRef) (n i : Nat) : (h.inc f n i).i2c = h.i2c := rfl
@[simp] theorem Hw.inc_uart (h : Hw) (f : FieldRef) (n i : Nat) : (h.inc f n i).uart = h.uart := rfl
@[simp] theorem Hw.inc_xsp (h : Hw) (f : FieldRef) (n i : Nat) : (h.inc f n i).xsp = h.xsp := rfl
@[simp] theorem Hw.inc_evLog (h : Hw) (f : FieldRef) (n i : Nat) : (h.inc f n i).evLog = h.evLog := rfl
@[simp] theorem Hw.inc_pen (h : Hw) (f : FieldRef) (n i : Nat) : (h.inc f n i).pen = h.pen := rfl
@[simp] theorem Hw.inc_can (h : Hw) (f : FieldRef) (n i : Nat) : (h.inc f n i).can = h.can := rfl
@[simp] theorem Hw.inc_varPulse (h : Hw) (f : FieldRef) (n i : Nat) : (h.inc f n i).varPulse = h.varPulse := rfl
@[simp] theorem Hw.inc_var (h : Hw) (f : FieldRef) (n i : Nat) : (h.inc f n i).var = h.var := rfl
@[simp] theorem Hw.inc_brg (h : Hw) (f : FieldRef) (n i : Nat) : (h.inc f n i).brg = h.brg := rfl
@[simp] theorem Hw.inc_cop (h : Hw) (f : FieldRef) (n i : Nat) : (h.inc f n i).cop = h.cop := rfl
@[simp] theorem Hw.inc_voc (h : Hw) (f : FieldRef) (n i : Nat) : (h.inc f n i).voc = h.voc := rfl
@[simp] theorem Hw.inc_mix (h : Hw) (f : FieldRef) (n i : Nat) : (h.inc f n i).mix = h.mix := rfl
@[simp] theorem Hw.inc_tim (h : Hw) (f : FieldRef) (n i : Nat) : (h.inc f n i).tim = h.tim := rfl
@[simp] theorem Hw.inc_lnl (h : Hw) (f : FieldRef) (n i : Nat) : (h.inc f n i).lnl = h.lnl := rfl
@[simp] theorem Hw.inc_texels (h : Hw) (f : FieldRef) (n i : Nat) : (h.inc f n i).texels = h.texels := rfl
@[simp] theorem Hw.inc_cam (h : Hw) (f : FieldRef) (n i : Nat) : (h.inc f n i).cam = h.cam := rfl
@[simp] theorem Hw.inc_ano (h : Hw) (f : FieldRef) (n i : Nat) : (h.inc f n i).ano = h.ano := rfl
@[simp] theorem Hw.inc_ldg (h : Hw) (f : FieldRef) (n i : Nat) : (h.inc f n i).ldg = h.ldg := rfl
@[simp] theorem Hw.inc_eng (h : Hw) (f : FieldRef) (n i : Nat) : (h.inc f n i).eng = h.eng := rfl

/-! ## setActReg -/

@[simp] theorem Hw.setActReg_cycle (h : Hw) (a : Nat) (v : Word) : (h.setActReg a v).cycle = h.cycle := rfl
@[simp] theorem Hw.setActReg_freeCount (h : Hw) (a : Nat) (v : Word) : (h.setActReg a v).freeCount = h.freeCount := rfl
@[simp] theorem Hw.setActReg_regs (h : Hw) (a : Nat) (v : Word) : (h.setActReg a v).regs = h.regs := rfl
@[simp] theorem Hw.setActReg_act (h : Hw) (a : Nat) (v : Word) : (h.setActReg a v).act = Store.put regReset h.act a v := rfl
@[simp] theorem Hw.setActReg_ciDue (h : Hw) (a : Nat) (v : Word) : (h.setActReg a v).ciDue = h.ciDue := rfl
@[simp] theorem Hw.setActReg_wideRead (h : Hw) (a : Nat) (v : Word) : (h.setActReg a v).wideRead = h.wideRead := rfl
@[simp] theorem Hw.setActReg_wideWrite (h : Hw) (a : Nat) (v : Word) : (h.setActReg a v).wideWrite = h.wideWrite := rfl
@[simp] theorem Hw.setActReg_mem (h : Hw) (a : Nat) (v : Word) : (h.setActReg a v).mem = h.mem := rfl
@[simp] theorem Hw.setActReg_pwr (h : Hw) (a : Nat) (v : Word) : (h.setActReg a v).pwr = h.pwr := rfl
@[simp] theorem Hw.setActReg_efts (h : Hw) (a : Nat) (v : Word) : (h.setActReg a v).efts = h.efts := rfl
@[simp] theorem Hw.setActReg_caches (h : Hw) (a : Nat) (v : Word) : (h.setActReg a v).caches = h.caches := rfl
@[simp] theorem Hw.setActReg_recLog (h : Hw) (a : Nat) (v : Word) : (h.setActReg a v).recLog = h.recLog := rfl
@[simp] theorem Hw.setActReg_awArmed (h : Hw) (a : Nat) (v : Word) : (h.setActReg a v).awArmed = h.awArmed := rfl
@[simp] theorem Hw.setActReg_mtx (h : Hw) (a : Nat) (v : Word) : (h.setActReg a v).mtx = h.mtx := rfl
@[simp] theorem Hw.setActReg_gpi (h : Hw) (a : Nat) (v : Word) : (h.setActReg a v).gpi = h.gpi := rfl
@[simp] theorem Hw.setActReg_i2c (h : Hw) (a : Nat) (v : Word) : (h.setActReg a v).i2c = h.i2c := rfl
@[simp] theorem Hw.setActReg_uart (h : Hw) (a : Nat) (v : Word) : (h.setActReg a v).uart = h.uart := rfl
@[simp] theorem Hw.setActReg_xsp (h : Hw) (a : Nat) (v : Word) : (h.setActReg a v).xsp = h.xsp := rfl
@[simp] theorem Hw.setActReg_evLog (h : Hw) (a : Nat) (v : Word) : (h.setActReg a v).evLog = h.evLog := rfl
@[simp] theorem Hw.setActReg_pen (h : Hw) (a : Nat) (v : Word) : (h.setActReg a v).pen = h.pen := rfl
@[simp] theorem Hw.setActReg_can (h : Hw) (a : Nat) (v : Word) : (h.setActReg a v).can = h.can := rfl
@[simp] theorem Hw.setActReg_varPulse (h : Hw) (a : Nat) (v : Word) : (h.setActReg a v).varPulse = h.varPulse := rfl
@[simp] theorem Hw.setActReg_var (h : Hw) (a : Nat) (v : Word) : (h.setActReg a v).var = h.var := rfl
@[simp] theorem Hw.setActReg_brg (h : Hw) (a : Nat) (v : Word) : (h.setActReg a v).brg = h.brg := rfl
@[simp] theorem Hw.setActReg_cop (h : Hw) (a : Nat) (v : Word) : (h.setActReg a v).cop = h.cop := rfl
@[simp] theorem Hw.setActReg_voc (h : Hw) (a : Nat) (v : Word) : (h.setActReg a v).voc = h.voc := rfl
@[simp] theorem Hw.setActReg_mix (h : Hw) (a : Nat) (v : Word) : (h.setActReg a v).mix = h.mix := rfl
@[simp] theorem Hw.setActReg_tim (h : Hw) (a : Nat) (v : Word) : (h.setActReg a v).tim = h.tim := rfl
@[simp] theorem Hw.setActReg_lnl (h : Hw) (a : Nat) (v : Word) : (h.setActReg a v).lnl = h.lnl := rfl
@[simp] theorem Hw.setActReg_texels (h : Hw) (a : Nat) (v : Word) : (h.setActReg a v).texels = h.texels := rfl
@[simp] theorem Hw.setActReg_cam (h : Hw) (a : Nat) (v : Word) : (h.setActReg a v).cam = h.cam := rfl
@[simp] theorem Hw.setActReg_ano (h : Hw) (a : Nat) (v : Word) : (h.setActReg a v).ano = h.ano := rfl
@[simp] theorem Hw.setActReg_ldg (h : Hw) (a : Nat) (v : Word) : (h.setActReg a v).ldg = h.ldg := rfl
@[simp] theorem Hw.setActReg_eng (h : Hw) (a : Nat) (v : Word) : (h.setActReg a v).eng = h.eng := rfl

/-! ## wrA -/

@[simp] theorem Hw.wrA_cycle (h : Hw) (f : FieldRef) (v i : Nat) : (h.wrA f v i).cycle = h.cycle := rfl
@[simp] theorem Hw.wrA_freeCount (h : Hw) (f : FieldRef) (v i : Nat) : (h.wrA f v i).freeCount = h.freeCount := rfl
@[simp] theorem Hw.wrA_regs (h : Hw) (f : FieldRef) (v i : Nat) : (h.wrA f v i).regs = h.regs := rfl
@[simp] theorem Hw.wrA_ciDue (h : Hw) (f : FieldRef) (v i : Nat) : (h.wrA f v i).ciDue = h.ciDue := rfl
@[simp] theorem Hw.wrA_wideRead (h : Hw) (f : FieldRef) (v i : Nat) : (h.wrA f v i).wideRead = h.wideRead := rfl
@[simp] theorem Hw.wrA_wideWrite (h : Hw) (f : FieldRef) (v i : Nat) : (h.wrA f v i).wideWrite = h.wideWrite := rfl
@[simp] theorem Hw.wrA_mem (h : Hw) (f : FieldRef) (v i : Nat) : (h.wrA f v i).mem = h.mem := rfl
@[simp] theorem Hw.wrA_pwr (h : Hw) (f : FieldRef) (v i : Nat) : (h.wrA f v i).pwr = h.pwr := rfl
@[simp] theorem Hw.wrA_efts (h : Hw) (f : FieldRef) (v i : Nat) : (h.wrA f v i).efts = h.efts := rfl
@[simp] theorem Hw.wrA_caches (h : Hw) (f : FieldRef) (v i : Nat) : (h.wrA f v i).caches = h.caches := rfl
@[simp] theorem Hw.wrA_recLog (h : Hw) (f : FieldRef) (v i : Nat) : (h.wrA f v i).recLog = h.recLog := rfl
@[simp] theorem Hw.wrA_awArmed (h : Hw) (f : FieldRef) (v i : Nat) : (h.wrA f v i).awArmed = h.awArmed := rfl
@[simp] theorem Hw.wrA_mtx (h : Hw) (f : FieldRef) (v i : Nat) : (h.wrA f v i).mtx = h.mtx := rfl
@[simp] theorem Hw.wrA_gpi (h : Hw) (f : FieldRef) (v i : Nat) : (h.wrA f v i).gpi = h.gpi := rfl
@[simp] theorem Hw.wrA_i2c (h : Hw) (f : FieldRef) (v i : Nat) : (h.wrA f v i).i2c = h.i2c := rfl
@[simp] theorem Hw.wrA_uart (h : Hw) (f : FieldRef) (v i : Nat) : (h.wrA f v i).uart = h.uart := rfl
@[simp] theorem Hw.wrA_xsp (h : Hw) (f : FieldRef) (v i : Nat) : (h.wrA f v i).xsp = h.xsp := rfl
@[simp] theorem Hw.wrA_evLog (h : Hw) (f : FieldRef) (v i : Nat) : (h.wrA f v i).evLog = h.evLog := rfl
@[simp] theorem Hw.wrA_pen (h : Hw) (f : FieldRef) (v i : Nat) : (h.wrA f v i).pen = h.pen := rfl
@[simp] theorem Hw.wrA_can (h : Hw) (f : FieldRef) (v i : Nat) : (h.wrA f v i).can = h.can := rfl
@[simp] theorem Hw.wrA_varPulse (h : Hw) (f : FieldRef) (v i : Nat) : (h.wrA f v i).varPulse = h.varPulse := rfl
@[simp] theorem Hw.wrA_var (h : Hw) (f : FieldRef) (v i : Nat) : (h.wrA f v i).var = h.var := rfl
@[simp] theorem Hw.wrA_brg (h : Hw) (f : FieldRef) (v i : Nat) : (h.wrA f v i).brg = h.brg := rfl
@[simp] theorem Hw.wrA_cop (h : Hw) (f : FieldRef) (v i : Nat) : (h.wrA f v i).cop = h.cop := rfl
@[simp] theorem Hw.wrA_voc (h : Hw) (f : FieldRef) (v i : Nat) : (h.wrA f v i).voc = h.voc := rfl
@[simp] theorem Hw.wrA_mix (h : Hw) (f : FieldRef) (v i : Nat) : (h.wrA f v i).mix = h.mix := rfl
@[simp] theorem Hw.wrA_tim (h : Hw) (f : FieldRef) (v i : Nat) : (h.wrA f v i).tim = h.tim := rfl
@[simp] theorem Hw.wrA_lnl (h : Hw) (f : FieldRef) (v i : Nat) : (h.wrA f v i).lnl = h.lnl := rfl
@[simp] theorem Hw.wrA_texels (h : Hw) (f : FieldRef) (v i : Nat) : (h.wrA f v i).texels = h.texels := rfl
@[simp] theorem Hw.wrA_cam (h : Hw) (f : FieldRef) (v i : Nat) : (h.wrA f v i).cam = h.cam := rfl
@[simp] theorem Hw.wrA_ano (h : Hw) (f : FieldRef) (v i : Nat) : (h.wrA f v i).ano = h.ano := rfl
@[simp] theorem Hw.wrA_ldg (h : Hw) (f : FieldRef) (v i : Nat) : (h.wrA f v i).ldg = h.ldg := rfl
@[simp] theorem Hw.wrA_eng (h : Hw) (f : FieldRef) (v i : Nat) : (h.wrA f v i).eng = h.eng := rfl

/-! ## setByte -/

@[simp] theorem Hw.setByte_cycle (h : Hw) (a : Nat) (v : Byte) : (h.setByte a v).cycle = h.cycle := rfl
@[simp] theorem Hw.setByte_freeCount (h : Hw) (a : Nat) (v : Byte) : (h.setByte a v).freeCount = h.freeCount := rfl
@[simp] theorem Hw.setByte_regs (h : Hw) (a : Nat) (v : Byte) : (h.setByte a v).regs = h.regs := rfl
@[simp] theorem Hw.setByte_act (h : Hw) (a : Nat) (v : Byte) : (h.setByte a v).act = h.act := rfl
@[simp] theorem Hw.setByte_ciDue (h : Hw) (a : Nat) (v : Byte) : (h.setByte a v).ciDue = h.ciDue := rfl
@[simp] theorem Hw.setByte_wideRead (h : Hw) (a : Nat) (v : Byte) : (h.setByte a v).wideRead = h.wideRead := rfl
@[simp] theorem Hw.setByte_wideWrite (h : Hw) (a : Nat) (v : Byte) : (h.setByte a v).wideWrite = h.wideWrite := rfl
@[simp] theorem Hw.setByte_mem (h : Hw) (a : Nat) (v : Byte) : (h.setByte a v).mem = Store.put memReset h.mem a v := rfl
@[simp] theorem Hw.setByte_pwr (h : Hw) (a : Nat) (v : Byte) : (h.setByte a v).pwr = h.pwr := rfl
@[simp] theorem Hw.setByte_efts (h : Hw) (a : Nat) (v : Byte) : (h.setByte a v).efts = h.efts := rfl
@[simp] theorem Hw.setByte_caches (h : Hw) (a : Nat) (v : Byte) : (h.setByte a v).caches = h.caches := rfl
@[simp] theorem Hw.setByte_recLog (h : Hw) (a : Nat) (v : Byte) : (h.setByte a v).recLog = h.recLog := rfl
@[simp] theorem Hw.setByte_awArmed (h : Hw) (a : Nat) (v : Byte) : (h.setByte a v).awArmed = h.awArmed := rfl
@[simp] theorem Hw.setByte_mtx (h : Hw) (a : Nat) (v : Byte) : (h.setByte a v).mtx = h.mtx := rfl
@[simp] theorem Hw.setByte_gpi (h : Hw) (a : Nat) (v : Byte) : (h.setByte a v).gpi = h.gpi := rfl
@[simp] theorem Hw.setByte_i2c (h : Hw) (a : Nat) (v : Byte) : (h.setByte a v).i2c = h.i2c := rfl
@[simp] theorem Hw.setByte_uart (h : Hw) (a : Nat) (v : Byte) : (h.setByte a v).uart = h.uart := rfl
@[simp] theorem Hw.setByte_xsp (h : Hw) (a : Nat) (v : Byte) : (h.setByte a v).xsp = h.xsp := rfl
@[simp] theorem Hw.setByte_evLog (h : Hw) (a : Nat) (v : Byte) : (h.setByte a v).evLog = h.evLog := rfl
@[simp] theorem Hw.setByte_pen (h : Hw) (a : Nat) (v : Byte) : (h.setByte a v).pen = h.pen := rfl
@[simp] theorem Hw.setByte_can (h : Hw) (a : Nat) (v : Byte) : (h.setByte a v).can = h.can := rfl
@[simp] theorem Hw.setByte_varPulse (h : Hw) (a : Nat) (v : Byte) : (h.setByte a v).varPulse = h.varPulse := rfl
@[simp] theorem Hw.setByte_var (h : Hw) (a : Nat) (v : Byte) : (h.setByte a v).var = h.var := rfl
@[simp] theorem Hw.setByte_brg (h : Hw) (a : Nat) (v : Byte) : (h.setByte a v).brg = h.brg := rfl
@[simp] theorem Hw.setByte_cop (h : Hw) (a : Nat) (v : Byte) : (h.setByte a v).cop = h.cop := rfl
@[simp] theorem Hw.setByte_voc (h : Hw) (a : Nat) (v : Byte) : (h.setByte a v).voc = h.voc := rfl
@[simp] theorem Hw.setByte_mix (h : Hw) (a : Nat) (v : Byte) : (h.setByte a v).mix = h.mix := rfl
@[simp] theorem Hw.setByte_tim (h : Hw) (a : Nat) (v : Byte) : (h.setByte a v).tim = h.tim := rfl
@[simp] theorem Hw.setByte_lnl (h : Hw) (a : Nat) (v : Byte) : (h.setByte a v).lnl = h.lnl := rfl
@[simp] theorem Hw.setByte_texels (h : Hw) (a : Nat) (v : Byte) : (h.setByte a v).texels = h.texels := rfl
@[simp] theorem Hw.setByte_cam (h : Hw) (a : Nat) (v : Byte) : (h.setByte a v).cam = h.cam := rfl
@[simp] theorem Hw.setByte_ano (h : Hw) (a : Nat) (v : Byte) : (h.setByte a v).ano = h.ano := rfl
@[simp] theorem Hw.setByte_ldg (h : Hw) (a : Nat) (v : Byte) : (h.setByte a v).ldg = h.ldg := rfl
@[simp] theorem Hw.setByte_eng (h : Hw) (a : Nat) (v : Byte) : (h.setByte a v).eng = h.eng := rfl

/-! ## setEft -/

@[simp] theorem Hw.setEft_cycle (h : Hw) (e : Fin 4) (t : Eft) : (h.setEft e t).cycle = h.cycle := rfl
@[simp] theorem Hw.setEft_freeCount (h : Hw) (e : Fin 4) (t : Eft) : (h.setEft e t).freeCount = h.freeCount := rfl
@[simp] theorem Hw.setEft_regs (h : Hw) (e : Fin 4) (t : Eft) : (h.setEft e t).regs = h.regs := rfl
@[simp] theorem Hw.setEft_act (h : Hw) (e : Fin 4) (t : Eft) : (h.setEft e t).act = h.act := rfl
@[simp] theorem Hw.setEft_ciDue (h : Hw) (e : Fin 4) (t : Eft) : (h.setEft e t).ciDue = h.ciDue := rfl
@[simp] theorem Hw.setEft_wideRead (h : Hw) (e : Fin 4) (t : Eft) : (h.setEft e t).wideRead = h.wideRead := rfl
@[simp] theorem Hw.setEft_wideWrite (h : Hw) (e : Fin 4) (t : Eft) : (h.setEft e t).wideWrite = h.wideWrite := rfl
@[simp] theorem Hw.setEft_mem (h : Hw) (e : Fin 4) (t : Eft) : (h.setEft e t).mem = h.mem := rfl
@[simp] theorem Hw.setEft_pwr (h : Hw) (e : Fin 4) (t : Eft) : (h.setEft e t).pwr = h.pwr := rfl
@[simp] theorem Hw.setEft_efts (h : Hw) (e : Fin 4) (t : Eft) : (h.setEft e t).efts = h.efts.set e t := rfl
@[simp] theorem Hw.setEft_caches (h : Hw) (e : Fin 4) (t : Eft) : (h.setEft e t).caches = h.caches := rfl
@[simp] theorem Hw.setEft_recLog (h : Hw) (e : Fin 4) (t : Eft) : (h.setEft e t).recLog = h.recLog := rfl
@[simp] theorem Hw.setEft_awArmed (h : Hw) (e : Fin 4) (t : Eft) : (h.setEft e t).awArmed = h.awArmed := rfl
@[simp] theorem Hw.setEft_mtx (h : Hw) (e : Fin 4) (t : Eft) : (h.setEft e t).mtx = h.mtx := rfl
@[simp] theorem Hw.setEft_gpi (h : Hw) (e : Fin 4) (t : Eft) : (h.setEft e t).gpi = h.gpi := rfl
@[simp] theorem Hw.setEft_i2c (h : Hw) (e : Fin 4) (t : Eft) : (h.setEft e t).i2c = h.i2c := rfl
@[simp] theorem Hw.setEft_uart (h : Hw) (e : Fin 4) (t : Eft) : (h.setEft e t).uart = h.uart := rfl
@[simp] theorem Hw.setEft_xsp (h : Hw) (e : Fin 4) (t : Eft) : (h.setEft e t).xsp = h.xsp := rfl
@[simp] theorem Hw.setEft_evLog (h : Hw) (e : Fin 4) (t : Eft) : (h.setEft e t).evLog = h.evLog := rfl
@[simp] theorem Hw.setEft_pen (h : Hw) (e : Fin 4) (t : Eft) : (h.setEft e t).pen = h.pen := rfl
@[simp] theorem Hw.setEft_can (h : Hw) (e : Fin 4) (t : Eft) : (h.setEft e t).can = h.can := rfl
@[simp] theorem Hw.setEft_varPulse (h : Hw) (e : Fin 4) (t : Eft) : (h.setEft e t).varPulse = h.varPulse := rfl
@[simp] theorem Hw.setEft_var (h : Hw) (e : Fin 4) (t : Eft) : (h.setEft e t).var = h.var := rfl
@[simp] theorem Hw.setEft_brg (h : Hw) (e : Fin 4) (t : Eft) : (h.setEft e t).brg = h.brg := rfl
@[simp] theorem Hw.setEft_cop (h : Hw) (e : Fin 4) (t : Eft) : (h.setEft e t).cop = h.cop := rfl
@[simp] theorem Hw.setEft_voc (h : Hw) (e : Fin 4) (t : Eft) : (h.setEft e t).voc = h.voc := rfl
@[simp] theorem Hw.setEft_mix (h : Hw) (e : Fin 4) (t : Eft) : (h.setEft e t).mix = h.mix := rfl
@[simp] theorem Hw.setEft_tim (h : Hw) (e : Fin 4) (t : Eft) : (h.setEft e t).tim = h.tim := rfl
@[simp] theorem Hw.setEft_lnl (h : Hw) (e : Fin 4) (t : Eft) : (h.setEft e t).lnl = h.lnl := rfl
@[simp] theorem Hw.setEft_texels (h : Hw) (e : Fin 4) (t : Eft) : (h.setEft e t).texels = h.texels := rfl
@[simp] theorem Hw.setEft_cam (h : Hw) (e : Fin 4) (t : Eft) : (h.setEft e t).cam = h.cam := rfl
@[simp] theorem Hw.setEft_ano (h : Hw) (e : Fin 4) (t : Eft) : (h.setEft e t).ano = h.ano := rfl
@[simp] theorem Hw.setEft_ldg (h : Hw) (e : Fin 4) (t : Eft) : (h.setEft e t).ldg = h.ldg := rfl
@[simp] theorem Hw.setEft_eng (h : Hw) (e : Fin 4) (t : Eft) : (h.setEft e t).eng = h.eng := rfl

/-! ## modEft -/

@[simp] theorem Hw.modEft_cycle (h : Hw) (e : Fin 4) (f : Eft → Eft) : (h.modEft e f).cycle = h.cycle := rfl
@[simp] theorem Hw.modEft_freeCount (h : Hw) (e : Fin 4) (f : Eft → Eft) : (h.modEft e f).freeCount = h.freeCount := rfl
@[simp] theorem Hw.modEft_regs (h : Hw) (e : Fin 4) (f : Eft → Eft) : (h.modEft e f).regs = h.regs := rfl
@[simp] theorem Hw.modEft_act (h : Hw) (e : Fin 4) (f : Eft → Eft) : (h.modEft e f).act = h.act := rfl
@[simp] theorem Hw.modEft_ciDue (h : Hw) (e : Fin 4) (f : Eft → Eft) : (h.modEft e f).ciDue = h.ciDue := rfl
@[simp] theorem Hw.modEft_wideRead (h : Hw) (e : Fin 4) (f : Eft → Eft) : (h.modEft e f).wideRead = h.wideRead := rfl
@[simp] theorem Hw.modEft_wideWrite (h : Hw) (e : Fin 4) (f : Eft → Eft) : (h.modEft e f).wideWrite = h.wideWrite := rfl
@[simp] theorem Hw.modEft_mem (h : Hw) (e : Fin 4) (f : Eft → Eft) : (h.modEft e f).mem = h.mem := rfl
@[simp] theorem Hw.modEft_pwr (h : Hw) (e : Fin 4) (f : Eft → Eft) : (h.modEft e f).pwr = h.pwr := rfl
@[simp] theorem Hw.modEft_efts (h : Hw) (e : Fin 4) (f : Eft → Eft) : (h.modEft e f).efts = h.efts.set e (f (h.eft e)) := rfl
@[simp] theorem Hw.modEft_caches (h : Hw) (e : Fin 4) (f : Eft → Eft) : (h.modEft e f).caches = h.caches := rfl
@[simp] theorem Hw.modEft_recLog (h : Hw) (e : Fin 4) (f : Eft → Eft) : (h.modEft e f).recLog = h.recLog := rfl
@[simp] theorem Hw.modEft_awArmed (h : Hw) (e : Fin 4) (f : Eft → Eft) : (h.modEft e f).awArmed = h.awArmed := rfl
@[simp] theorem Hw.modEft_mtx (h : Hw) (e : Fin 4) (f : Eft → Eft) : (h.modEft e f).mtx = h.mtx := rfl
@[simp] theorem Hw.modEft_gpi (h : Hw) (e : Fin 4) (f : Eft → Eft) : (h.modEft e f).gpi = h.gpi := rfl
@[simp] theorem Hw.modEft_i2c (h : Hw) (e : Fin 4) (f : Eft → Eft) : (h.modEft e f).i2c = h.i2c := rfl
@[simp] theorem Hw.modEft_uart (h : Hw) (e : Fin 4) (f : Eft → Eft) : (h.modEft e f).uart = h.uart := rfl
@[simp] theorem Hw.modEft_xsp (h : Hw) (e : Fin 4) (f : Eft → Eft) : (h.modEft e f).xsp = h.xsp := rfl
@[simp] theorem Hw.modEft_evLog (h : Hw) (e : Fin 4) (f : Eft → Eft) : (h.modEft e f).evLog = h.evLog := rfl
@[simp] theorem Hw.modEft_pen (h : Hw) (e : Fin 4) (f : Eft → Eft) : (h.modEft e f).pen = h.pen := rfl
@[simp] theorem Hw.modEft_can (h : Hw) (e : Fin 4) (f : Eft → Eft) : (h.modEft e f).can = h.can := rfl
@[simp] theorem Hw.modEft_varPulse (h : Hw) (e : Fin 4) (f : Eft → Eft) : (h.modEft e f).varPulse = h.varPulse := rfl
@[simp] theorem Hw.modEft_var (h : Hw) (e : Fin 4) (f : Eft → Eft) : (h.modEft e f).var = h.var := rfl
@[simp] theorem Hw.modEft_brg (h : Hw) (e : Fin 4) (f : Eft → Eft) : (h.modEft e f).brg = h.brg := rfl
@[simp] theorem Hw.modEft_cop (h : Hw) (e : Fin 4) (f : Eft → Eft) : (h.modEft e f).cop = h.cop := rfl
@[simp] theorem Hw.modEft_voc (h : Hw) (e : Fin 4) (f : Eft → Eft) : (h.modEft e f).voc = h.voc := rfl
@[simp] theorem Hw.modEft_mix (h : Hw) (e : Fin 4) (f : Eft → Eft) : (h.modEft e f).mix = h.mix := rfl
@[simp] theorem Hw.modEft_tim (h : Hw) (e : Fin 4) (f : Eft → Eft) : (h.modEft e f).tim = h.tim := rfl
@[simp] theorem Hw.modEft_lnl (h : Hw) (e : Fin 4) (f : Eft → Eft) : (h.modEft e f).lnl = h.lnl := rfl
@[simp] theorem Hw.modEft_texels (h : Hw) (e : Fin 4) (f : Eft → Eft) : (h.modEft e f).texels = h.texels := rfl
@[simp] theorem Hw.modEft_cam (h : Hw) (e : Fin 4) (f : Eft → Eft) : (h.modEft e f).cam = h.cam := rfl
@[simp] theorem Hw.modEft_ano (h : Hw) (e : Fin 4) (f : Eft → Eft) : (h.modEft e f).ano = h.ano := rfl
@[simp] theorem Hw.modEft_ldg (h : Hw) (e : Fin 4) (f : Eft → Eft) : (h.modEft e f).ldg = h.ldg := rfl
@[simp] theorem Hw.modEft_eng (h : Hw) (e : Fin 4) (f : Eft → Eft) : (h.modEft e f).eng = h.eng := rfl

/-! ## modEng -/

@[simp] theorem Hw.modEng_cycle (h : Hw) (f : Eng → Eng) : (h.modEng f).cycle = h.cycle := rfl
@[simp] theorem Hw.modEng_freeCount (h : Hw) (f : Eng → Eng) : (h.modEng f).freeCount = h.freeCount := rfl
@[simp] theorem Hw.modEng_regs (h : Hw) (f : Eng → Eng) : (h.modEng f).regs = h.regs := rfl
@[simp] theorem Hw.modEng_act (h : Hw) (f : Eng → Eng) : (h.modEng f).act = h.act := rfl
@[simp] theorem Hw.modEng_ciDue (h : Hw) (f : Eng → Eng) : (h.modEng f).ciDue = h.ciDue := rfl
@[simp] theorem Hw.modEng_wideRead (h : Hw) (f : Eng → Eng) : (h.modEng f).wideRead = h.wideRead := rfl
@[simp] theorem Hw.modEng_wideWrite (h : Hw) (f : Eng → Eng) : (h.modEng f).wideWrite = h.wideWrite := rfl
@[simp] theorem Hw.modEng_mem (h : Hw) (f : Eng → Eng) : (h.modEng f).mem = h.mem := rfl
@[simp] theorem Hw.modEng_pwr (h : Hw) (f : Eng → Eng) : (h.modEng f).pwr = h.pwr := rfl
@[simp] theorem Hw.modEng_efts (h : Hw) (f : Eng → Eng) : (h.modEng f).efts = h.efts := rfl
@[simp] theorem Hw.modEng_caches (h : Hw) (f : Eng → Eng) : (h.modEng f).caches = h.caches := rfl
@[simp] theorem Hw.modEng_recLog (h : Hw) (f : Eng → Eng) : (h.modEng f).recLog = h.recLog := rfl
@[simp] theorem Hw.modEng_awArmed (h : Hw) (f : Eng → Eng) : (h.modEng f).awArmed = h.awArmed := rfl
@[simp] theorem Hw.modEng_mtx (h : Hw) (f : Eng → Eng) : (h.modEng f).mtx = h.mtx := rfl
@[simp] theorem Hw.modEng_gpi (h : Hw) (f : Eng → Eng) : (h.modEng f).gpi = h.gpi := rfl
@[simp] theorem Hw.modEng_i2c (h : Hw) (f : Eng → Eng) : (h.modEng f).i2c = h.i2c := rfl
@[simp] theorem Hw.modEng_uart (h : Hw) (f : Eng → Eng) : (h.modEng f).uart = h.uart := rfl
@[simp] theorem Hw.modEng_xsp (h : Hw) (f : Eng → Eng) : (h.modEng f).xsp = h.xsp := rfl
@[simp] theorem Hw.modEng_evLog (h : Hw) (f : Eng → Eng) : (h.modEng f).evLog = h.evLog := rfl
@[simp] theorem Hw.modEng_pen (h : Hw) (f : Eng → Eng) : (h.modEng f).pen = h.pen := rfl
@[simp] theorem Hw.modEng_can (h : Hw) (f : Eng → Eng) : (h.modEng f).can = h.can := rfl
@[simp] theorem Hw.modEng_varPulse (h : Hw) (f : Eng → Eng) : (h.modEng f).varPulse = h.varPulse := rfl
@[simp] theorem Hw.modEng_var (h : Hw) (f : Eng → Eng) : (h.modEng f).var = h.var := rfl
@[simp] theorem Hw.modEng_brg (h : Hw) (f : Eng → Eng) : (h.modEng f).brg = h.brg := rfl
@[simp] theorem Hw.modEng_cop (h : Hw) (f : Eng → Eng) : (h.modEng f).cop = h.cop := rfl
@[simp] theorem Hw.modEng_voc (h : Hw) (f : Eng → Eng) : (h.modEng f).voc = h.voc := rfl
@[simp] theorem Hw.modEng_mix (h : Hw) (f : Eng → Eng) : (h.modEng f).mix = h.mix := rfl
@[simp] theorem Hw.modEng_tim (h : Hw) (f : Eng → Eng) : (h.modEng f).tim = h.tim := rfl
@[simp] theorem Hw.modEng_lnl (h : Hw) (f : Eng → Eng) : (h.modEng f).lnl = h.lnl := rfl
@[simp] theorem Hw.modEng_texels (h : Hw) (f : Eng → Eng) : (h.modEng f).texels = h.texels := rfl
@[simp] theorem Hw.modEng_cam (h : Hw) (f : Eng → Eng) : (h.modEng f).cam = h.cam := rfl
@[simp] theorem Hw.modEng_ano (h : Hw) (f : Eng → Eng) : (h.modEng f).ano = h.ano := rfl
@[simp] theorem Hw.modEng_ldg (h : Hw) (f : Eng → Eng) : (h.modEng f).ldg = h.ldg := rfl
@[simp] theorem Hw.modEng_eng (h : Hw) (f : Eng → Eng) : (h.modEng f).eng = f h.eng := rfl

/-! ## modPwr -/

@[simp] theorem Hw.modPwr_cycle (h : Hw) (f : Pwr → Pwr) : (h.modPwr f).cycle = h.cycle := rfl
@[simp] theorem Hw.modPwr_freeCount (h : Hw) (f : Pwr → Pwr) : (h.modPwr f).freeCount = h.freeCount := rfl
@[simp] theorem Hw.modPwr_regs (h : Hw) (f : Pwr → Pwr) : (h.modPwr f).regs = h.regs := rfl
@[simp] theorem Hw.modPwr_act (h : Hw) (f : Pwr → Pwr) : (h.modPwr f).act = h.act := rfl
@[simp] theorem Hw.modPwr_ciDue (h : Hw) (f : Pwr → Pwr) : (h.modPwr f).ciDue = h.ciDue := rfl
@[simp] theorem Hw.modPwr_wideRead (h : Hw) (f : Pwr → Pwr) : (h.modPwr f).wideRead = h.wideRead := rfl
@[simp] theorem Hw.modPwr_wideWrite (h : Hw) (f : Pwr → Pwr) : (h.modPwr f).wideWrite = h.wideWrite := rfl
@[simp] theorem Hw.modPwr_mem (h : Hw) (f : Pwr → Pwr) : (h.modPwr f).mem = h.mem := rfl
@[simp] theorem Hw.modPwr_pwr (h : Hw) (f : Pwr → Pwr) : (h.modPwr f).pwr = f h.pwr := rfl
@[simp] theorem Hw.modPwr_efts (h : Hw) (f : Pwr → Pwr) : (h.modPwr f).efts = h.efts := rfl
@[simp] theorem Hw.modPwr_caches (h : Hw) (f : Pwr → Pwr) : (h.modPwr f).caches = h.caches := rfl
@[simp] theorem Hw.modPwr_recLog (h : Hw) (f : Pwr → Pwr) : (h.modPwr f).recLog = h.recLog := rfl
@[simp] theorem Hw.modPwr_awArmed (h : Hw) (f : Pwr → Pwr) : (h.modPwr f).awArmed = h.awArmed := rfl
@[simp] theorem Hw.modPwr_mtx (h : Hw) (f : Pwr → Pwr) : (h.modPwr f).mtx = h.mtx := rfl
@[simp] theorem Hw.modPwr_gpi (h : Hw) (f : Pwr → Pwr) : (h.modPwr f).gpi = h.gpi := rfl
@[simp] theorem Hw.modPwr_i2c (h : Hw) (f : Pwr → Pwr) : (h.modPwr f).i2c = h.i2c := rfl
@[simp] theorem Hw.modPwr_uart (h : Hw) (f : Pwr → Pwr) : (h.modPwr f).uart = h.uart := rfl
@[simp] theorem Hw.modPwr_xsp (h : Hw) (f : Pwr → Pwr) : (h.modPwr f).xsp = h.xsp := rfl
@[simp] theorem Hw.modPwr_evLog (h : Hw) (f : Pwr → Pwr) : (h.modPwr f).evLog = h.evLog := rfl
@[simp] theorem Hw.modPwr_pen (h : Hw) (f : Pwr → Pwr) : (h.modPwr f).pen = h.pen := rfl
@[simp] theorem Hw.modPwr_can (h : Hw) (f : Pwr → Pwr) : (h.modPwr f).can = h.can := rfl
@[simp] theorem Hw.modPwr_varPulse (h : Hw) (f : Pwr → Pwr) : (h.modPwr f).varPulse = h.varPulse := rfl
@[simp] theorem Hw.modPwr_var (h : Hw) (f : Pwr → Pwr) : (h.modPwr f).var = h.var := rfl
@[simp] theorem Hw.modPwr_brg (h : Hw) (f : Pwr → Pwr) : (h.modPwr f).brg = h.brg := rfl
@[simp] theorem Hw.modPwr_cop (h : Hw) (f : Pwr → Pwr) : (h.modPwr f).cop = h.cop := rfl
@[simp] theorem Hw.modPwr_voc (h : Hw) (f : Pwr → Pwr) : (h.modPwr f).voc = h.voc := rfl
@[simp] theorem Hw.modPwr_mix (h : Hw) (f : Pwr → Pwr) : (h.modPwr f).mix = h.mix := rfl
@[simp] theorem Hw.modPwr_tim (h : Hw) (f : Pwr → Pwr) : (h.modPwr f).tim = h.tim := rfl
@[simp] theorem Hw.modPwr_lnl (h : Hw) (f : Pwr → Pwr) : (h.modPwr f).lnl = h.lnl := rfl
@[simp] theorem Hw.modPwr_texels (h : Hw) (f : Pwr → Pwr) : (h.modPwr f).texels = h.texels := rfl
@[simp] theorem Hw.modPwr_cam (h : Hw) (f : Pwr → Pwr) : (h.modPwr f).cam = h.cam := rfl
@[simp] theorem Hw.modPwr_ano (h : Hw) (f : Pwr → Pwr) : (h.modPwr f).ano = h.ano := rfl
@[simp] theorem Hw.modPwr_ldg (h : Hw) (f : Pwr → Pwr) : (h.modPwr f).ldg = h.ldg := rfl
@[simp] theorem Hw.modPwr_eng (h : Hw) (f : Pwr → Pwr) : (h.modPwr f).eng = h.eng := rfl

/-! ## modMtx -/

@[simp] theorem Hw.modMtx_cycle (h : Hw) (f : Mtx → Mtx) : (h.modMtx f).cycle = h.cycle := rfl
@[simp] theorem Hw.modMtx_freeCount (h : Hw) (f : Mtx → Mtx) : (h.modMtx f).freeCount = h.freeCount := rfl
@[simp] theorem Hw.modMtx_regs (h : Hw) (f : Mtx → Mtx) : (h.modMtx f).regs = h.regs := rfl
@[simp] theorem Hw.modMtx_act (h : Hw) (f : Mtx → Mtx) : (h.modMtx f).act = h.act := rfl
@[simp] theorem Hw.modMtx_ciDue (h : Hw) (f : Mtx → Mtx) : (h.modMtx f).ciDue = h.ciDue := rfl
@[simp] theorem Hw.modMtx_wideRead (h : Hw) (f : Mtx → Mtx) : (h.modMtx f).wideRead = h.wideRead := rfl
@[simp] theorem Hw.modMtx_wideWrite (h : Hw) (f : Mtx → Mtx) : (h.modMtx f).wideWrite = h.wideWrite := rfl
@[simp] theorem Hw.modMtx_mem (h : Hw) (f : Mtx → Mtx) : (h.modMtx f).mem = h.mem := rfl
@[simp] theorem Hw.modMtx_pwr (h : Hw) (f : Mtx → Mtx) : (h.modMtx f).pwr = h.pwr := rfl
@[simp] theorem Hw.modMtx_efts (h : Hw) (f : Mtx → Mtx) : (h.modMtx f).efts = h.efts := rfl
@[simp] theorem Hw.modMtx_caches (h : Hw) (f : Mtx → Mtx) : (h.modMtx f).caches = h.caches := rfl
@[simp] theorem Hw.modMtx_recLog (h : Hw) (f : Mtx → Mtx) : (h.modMtx f).recLog = h.recLog := rfl
@[simp] theorem Hw.modMtx_awArmed (h : Hw) (f : Mtx → Mtx) : (h.modMtx f).awArmed = h.awArmed := rfl
@[simp] theorem Hw.modMtx_mtx (h : Hw) (f : Mtx → Mtx) : (h.modMtx f).mtx = f h.mtx := rfl
@[simp] theorem Hw.modMtx_gpi (h : Hw) (f : Mtx → Mtx) : (h.modMtx f).gpi = h.gpi := rfl
@[simp] theorem Hw.modMtx_i2c (h : Hw) (f : Mtx → Mtx) : (h.modMtx f).i2c = h.i2c := rfl
@[simp] theorem Hw.modMtx_uart (h : Hw) (f : Mtx → Mtx) : (h.modMtx f).uart = h.uart := rfl
@[simp] theorem Hw.modMtx_xsp (h : Hw) (f : Mtx → Mtx) : (h.modMtx f).xsp = h.xsp := rfl
@[simp] theorem Hw.modMtx_evLog (h : Hw) (f : Mtx → Mtx) : (h.modMtx f).evLog = h.evLog := rfl
@[simp] theorem Hw.modMtx_pen (h : Hw) (f : Mtx → Mtx) : (h.modMtx f).pen = h.pen := rfl
@[simp] theorem Hw.modMtx_can (h : Hw) (f : Mtx → Mtx) : (h.modMtx f).can = h.can := rfl
@[simp] theorem Hw.modMtx_varPulse (h : Hw) (f : Mtx → Mtx) : (h.modMtx f).varPulse = h.varPulse := rfl
@[simp] theorem Hw.modMtx_var (h : Hw) (f : Mtx → Mtx) : (h.modMtx f).var = h.var := rfl
@[simp] theorem Hw.modMtx_brg (h : Hw) (f : Mtx → Mtx) : (h.modMtx f).brg = h.brg := rfl
@[simp] theorem Hw.modMtx_cop (h : Hw) (f : Mtx → Mtx) : (h.modMtx f).cop = h.cop := rfl
@[simp] theorem Hw.modMtx_voc (h : Hw) (f : Mtx → Mtx) : (h.modMtx f).voc = h.voc := rfl
@[simp] theorem Hw.modMtx_mix (h : Hw) (f : Mtx → Mtx) : (h.modMtx f).mix = h.mix := rfl
@[simp] theorem Hw.modMtx_tim (h : Hw) (f : Mtx → Mtx) : (h.modMtx f).tim = h.tim := rfl
@[simp] theorem Hw.modMtx_lnl (h : Hw) (f : Mtx → Mtx) : (h.modMtx f).lnl = h.lnl := rfl
@[simp] theorem Hw.modMtx_texels (h : Hw) (f : Mtx → Mtx) : (h.modMtx f).texels = h.texels := rfl
@[simp] theorem Hw.modMtx_cam (h : Hw) (f : Mtx → Mtx) : (h.modMtx f).cam = h.cam := rfl
@[simp] theorem Hw.modMtx_ano (h : Hw) (f : Mtx → Mtx) : (h.modMtx f).ano = h.ano := rfl
@[simp] theorem Hw.modMtx_ldg (h : Hw) (f : Mtx → Mtx) : (h.modMtx f).ldg = h.ldg := rfl
@[simp] theorem Hw.modMtx_eng (h : Hw) (f : Mtx → Mtx) : (h.modMtx f).eng = h.eng := rfl

/-! ## modBrg -/

@[simp] theorem Hw.modBrg_cycle (h : Hw) (f : Brg → Brg) : (h.modBrg f).cycle = h.cycle := rfl
@[simp] theorem Hw.modBrg_freeCount (h : Hw) (f : Brg → Brg) : (h.modBrg f).freeCount = h.freeCount := rfl
@[simp] theorem Hw.modBrg_regs (h : Hw) (f : Brg → Brg) : (h.modBrg f).regs = h.regs := rfl
@[simp] theorem Hw.modBrg_act (h : Hw) (f : Brg → Brg) : (h.modBrg f).act = h.act := rfl
@[simp] theorem Hw.modBrg_ciDue (h : Hw) (f : Brg → Brg) : (h.modBrg f).ciDue = h.ciDue := rfl
@[simp] theorem Hw.modBrg_wideRead (h : Hw) (f : Brg → Brg) : (h.modBrg f).wideRead = h.wideRead := rfl
@[simp] theorem Hw.modBrg_wideWrite (h : Hw) (f : Brg → Brg) : (h.modBrg f).wideWrite = h.wideWrite := rfl
@[simp] theorem Hw.modBrg_mem (h : Hw) (f : Brg → Brg) : (h.modBrg f).mem = h.mem := rfl
@[simp] theorem Hw.modBrg_pwr (h : Hw) (f : Brg → Brg) : (h.modBrg f).pwr = h.pwr := rfl
@[simp] theorem Hw.modBrg_efts (h : Hw) (f : Brg → Brg) : (h.modBrg f).efts = h.efts := rfl
@[simp] theorem Hw.modBrg_caches (h : Hw) (f : Brg → Brg) : (h.modBrg f).caches = h.caches := rfl
@[simp] theorem Hw.modBrg_recLog (h : Hw) (f : Brg → Brg) : (h.modBrg f).recLog = h.recLog := rfl
@[simp] theorem Hw.modBrg_awArmed (h : Hw) (f : Brg → Brg) : (h.modBrg f).awArmed = h.awArmed := rfl
@[simp] theorem Hw.modBrg_mtx (h : Hw) (f : Brg → Brg) : (h.modBrg f).mtx = h.mtx := rfl
@[simp] theorem Hw.modBrg_gpi (h : Hw) (f : Brg → Brg) : (h.modBrg f).gpi = h.gpi := rfl
@[simp] theorem Hw.modBrg_i2c (h : Hw) (f : Brg → Brg) : (h.modBrg f).i2c = h.i2c := rfl
@[simp] theorem Hw.modBrg_uart (h : Hw) (f : Brg → Brg) : (h.modBrg f).uart = h.uart := rfl
@[simp] theorem Hw.modBrg_xsp (h : Hw) (f : Brg → Brg) : (h.modBrg f).xsp = h.xsp := rfl
@[simp] theorem Hw.modBrg_evLog (h : Hw) (f : Brg → Brg) : (h.modBrg f).evLog = h.evLog := rfl
@[simp] theorem Hw.modBrg_pen (h : Hw) (f : Brg → Brg) : (h.modBrg f).pen = h.pen := rfl
@[simp] theorem Hw.modBrg_can (h : Hw) (f : Brg → Brg) : (h.modBrg f).can = h.can := rfl
@[simp] theorem Hw.modBrg_varPulse (h : Hw) (f : Brg → Brg) : (h.modBrg f).varPulse = h.varPulse := rfl
@[simp] theorem Hw.modBrg_var (h : Hw) (f : Brg → Brg) : (h.modBrg f).var = h.var := rfl
@[simp] theorem Hw.modBrg_brg (h : Hw) (f : Brg → Brg) : (h.modBrg f).brg = f h.brg := rfl
@[simp] theorem Hw.modBrg_cop (h : Hw) (f : Brg → Brg) : (h.modBrg f).cop = h.cop := rfl
@[simp] theorem Hw.modBrg_voc (h : Hw) (f : Brg → Brg) : (h.modBrg f).voc = h.voc := rfl
@[simp] theorem Hw.modBrg_mix (h : Hw) (f : Brg → Brg) : (h.modBrg f).mix = h.mix := rfl
@[simp] theorem Hw.modBrg_tim (h : Hw) (f : Brg → Brg) : (h.modBrg f).tim = h.tim := rfl
@[simp] theorem Hw.modBrg_lnl (h : Hw) (f : Brg → Brg) : (h.modBrg f).lnl = h.lnl := rfl
@[simp] theorem Hw.modBrg_texels (h : Hw) (f : Brg → Brg) : (h.modBrg f).texels = h.texels := rfl
@[simp] theorem Hw.modBrg_cam (h : Hw) (f : Brg → Brg) : (h.modBrg f).cam = h.cam := rfl
@[simp] theorem Hw.modBrg_ano (h : Hw) (f : Brg → Brg) : (h.modBrg f).ano = h.ano := rfl
@[simp] theorem Hw.modBrg_ldg (h : Hw) (f : Brg → Brg) : (h.modBrg f).ldg = h.ldg := rfl
@[simp] theorem Hw.modBrg_eng (h : Hw) (f : Brg → Brg) : (h.modBrg f).eng = h.eng := rfl

/-! ## modTim -/

@[simp] theorem Hw.modTim_cycle (h : Hw) (f : Tim → Tim) : (h.modTim f).cycle = h.cycle := rfl
@[simp] theorem Hw.modTim_freeCount (h : Hw) (f : Tim → Tim) : (h.modTim f).freeCount = h.freeCount := rfl
@[simp] theorem Hw.modTim_regs (h : Hw) (f : Tim → Tim) : (h.modTim f).regs = h.regs := rfl
@[simp] theorem Hw.modTim_act (h : Hw) (f : Tim → Tim) : (h.modTim f).act = h.act := rfl
@[simp] theorem Hw.modTim_ciDue (h : Hw) (f : Tim → Tim) : (h.modTim f).ciDue = h.ciDue := rfl
@[simp] theorem Hw.modTim_wideRead (h : Hw) (f : Tim → Tim) : (h.modTim f).wideRead = h.wideRead := rfl
@[simp] theorem Hw.modTim_wideWrite (h : Hw) (f : Tim → Tim) : (h.modTim f).wideWrite = h.wideWrite := rfl
@[simp] theorem Hw.modTim_mem (h : Hw) (f : Tim → Tim) : (h.modTim f).mem = h.mem := rfl
@[simp] theorem Hw.modTim_pwr (h : Hw) (f : Tim → Tim) : (h.modTim f).pwr = h.pwr := rfl
@[simp] theorem Hw.modTim_efts (h : Hw) (f : Tim → Tim) : (h.modTim f).efts = h.efts := rfl
@[simp] theorem Hw.modTim_caches (h : Hw) (f : Tim → Tim) : (h.modTim f).caches = h.caches := rfl
@[simp] theorem Hw.modTim_recLog (h : Hw) (f : Tim → Tim) : (h.modTim f).recLog = h.recLog := rfl
@[simp] theorem Hw.modTim_awArmed (h : Hw) (f : Tim → Tim) : (h.modTim f).awArmed = h.awArmed := rfl
@[simp] theorem Hw.modTim_mtx (h : Hw) (f : Tim → Tim) : (h.modTim f).mtx = h.mtx := rfl
@[simp] theorem Hw.modTim_gpi (h : Hw) (f : Tim → Tim) : (h.modTim f).gpi = h.gpi := rfl
@[simp] theorem Hw.modTim_i2c (h : Hw) (f : Tim → Tim) : (h.modTim f).i2c = h.i2c := rfl
@[simp] theorem Hw.modTim_uart (h : Hw) (f : Tim → Tim) : (h.modTim f).uart = h.uart := rfl
@[simp] theorem Hw.modTim_xsp (h : Hw) (f : Tim → Tim) : (h.modTim f).xsp = h.xsp := rfl
@[simp] theorem Hw.modTim_evLog (h : Hw) (f : Tim → Tim) : (h.modTim f).evLog = h.evLog := rfl
@[simp] theorem Hw.modTim_pen (h : Hw) (f : Tim → Tim) : (h.modTim f).pen = h.pen := rfl
@[simp] theorem Hw.modTim_can (h : Hw) (f : Tim → Tim) : (h.modTim f).can = h.can := rfl
@[simp] theorem Hw.modTim_varPulse (h : Hw) (f : Tim → Tim) : (h.modTim f).varPulse = h.varPulse := rfl
@[simp] theorem Hw.modTim_var (h : Hw) (f : Tim → Tim) : (h.modTim f).var = h.var := rfl
@[simp] theorem Hw.modTim_brg (h : Hw) (f : Tim → Tim) : (h.modTim f).brg = h.brg := rfl
@[simp] theorem Hw.modTim_cop (h : Hw) (f : Tim → Tim) : (h.modTim f).cop = h.cop := rfl
@[simp] theorem Hw.modTim_voc (h : Hw) (f : Tim → Tim) : (h.modTim f).voc = h.voc := rfl
@[simp] theorem Hw.modTim_mix (h : Hw) (f : Tim → Tim) : (h.modTim f).mix = h.mix := rfl
@[simp] theorem Hw.modTim_tim (h : Hw) (f : Tim → Tim) : (h.modTim f).tim = f h.tim := rfl
@[simp] theorem Hw.modTim_lnl (h : Hw) (f : Tim → Tim) : (h.modTim f).lnl = h.lnl := rfl
@[simp] theorem Hw.modTim_texels (h : Hw) (f : Tim → Tim) : (h.modTim f).texels = h.texels := rfl
@[simp] theorem Hw.modTim_cam (h : Hw) (f : Tim → Tim) : (h.modTim f).cam = h.cam := rfl
@[simp] theorem Hw.modTim_ano (h : Hw) (f : Tim → Tim) : (h.modTim f).ano = h.ano := rfl
@[simp] theorem Hw.modTim_ldg (h : Hw) (f : Tim → Tim) : (h.modTim f).ldg = h.ldg := rfl
@[simp] theorem Hw.modTim_eng (h : Hw) (f : Tim → Tim) : (h.modTim f).eng = h.eng := rfl

/-! ## modAno -/

@[simp] theorem Hw.modAno_cycle (h : Hw) (f : Ano → Ano) : (h.modAno f).cycle = h.cycle := rfl
@[simp] theorem Hw.modAno_freeCount (h : Hw) (f : Ano → Ano) : (h.modAno f).freeCount = h.freeCount := rfl
@[simp] theorem Hw.modAno_regs (h : Hw) (f : Ano → Ano) : (h.modAno f).regs = h.regs := rfl
@[simp] theorem Hw.modAno_act (h : Hw) (f : Ano → Ano) : (h.modAno f).act = h.act := rfl
@[simp] theorem Hw.modAno_ciDue (h : Hw) (f : Ano → Ano) : (h.modAno f).ciDue = h.ciDue := rfl
@[simp] theorem Hw.modAno_wideRead (h : Hw) (f : Ano → Ano) : (h.modAno f).wideRead = h.wideRead := rfl
@[simp] theorem Hw.modAno_wideWrite (h : Hw) (f : Ano → Ano) : (h.modAno f).wideWrite = h.wideWrite := rfl
@[simp] theorem Hw.modAno_mem (h : Hw) (f : Ano → Ano) : (h.modAno f).mem = h.mem := rfl
@[simp] theorem Hw.modAno_pwr (h : Hw) (f : Ano → Ano) : (h.modAno f).pwr = h.pwr := rfl
@[simp] theorem Hw.modAno_efts (h : Hw) (f : Ano → Ano) : (h.modAno f).efts = h.efts := rfl
@[simp] theorem Hw.modAno_caches (h : Hw) (f : Ano → Ano) : (h.modAno f).caches = h.caches := rfl
@[simp] theorem Hw.modAno_recLog (h : Hw) (f : Ano → Ano) : (h.modAno f).recLog = h.recLog := rfl
@[simp] theorem Hw.modAno_awArmed (h : Hw) (f : Ano → Ano) : (h.modAno f).awArmed = h.awArmed := rfl
@[simp] theorem Hw.modAno_mtx (h : Hw) (f : Ano → Ano) : (h.modAno f).mtx = h.mtx := rfl
@[simp] theorem Hw.modAno_gpi (h : Hw) (f : Ano → Ano) : (h.modAno f).gpi = h.gpi := rfl
@[simp] theorem Hw.modAno_i2c (h : Hw) (f : Ano → Ano) : (h.modAno f).i2c = h.i2c := rfl
@[simp] theorem Hw.modAno_uart (h : Hw) (f : Ano → Ano) : (h.modAno f).uart = h.uart := rfl
@[simp] theorem Hw.modAno_xsp (h : Hw) (f : Ano → Ano) : (h.modAno f).xsp = h.xsp := rfl
@[simp] theorem Hw.modAno_evLog (h : Hw) (f : Ano → Ano) : (h.modAno f).evLog = h.evLog := rfl
@[simp] theorem Hw.modAno_pen (h : Hw) (f : Ano → Ano) : (h.modAno f).pen = h.pen := rfl
@[simp] theorem Hw.modAno_can (h : Hw) (f : Ano → Ano) : (h.modAno f).can = h.can := rfl
@[simp] theorem Hw.modAno_varPulse (h : Hw) (f : Ano → Ano) : (h.modAno f).varPulse = h.varPulse := rfl
@[simp] theorem Hw.modAno_var (h : Hw) (f : Ano → Ano) : (h.modAno f).var = h.var := rfl
@[simp] theorem Hw.modAno_brg (h : Hw) (f : Ano → Ano) : (h.modAno f).brg = h.brg := rfl
@[simp] theorem Hw.modAno_cop (h : Hw) (f : Ano → Ano) : (h.modAno f).cop = h.cop := rfl
@[simp] theorem Hw.modAno_voc (h : Hw) (f : Ano → Ano) : (h.modAno f).voc = h.voc := rfl
@[simp] theorem Hw.modAno_mix (h : Hw) (f : Ano → Ano) : (h.modAno f).mix = h.mix := rfl
@[simp] theorem Hw.modAno_tim (h : Hw) (f : Ano → Ano) : (h.modAno f).tim = h.tim := rfl
@[simp] theorem Hw.modAno_lnl (h : Hw) (f : Ano → Ano) : (h.modAno f).lnl = h.lnl := rfl
@[simp] theorem Hw.modAno_texels (h : Hw) (f : Ano → Ano) : (h.modAno f).texels = h.texels := rfl
@[simp] theorem Hw.modAno_cam (h : Hw) (f : Ano → Ano) : (h.modAno f).cam = h.cam := rfl
@[simp] theorem Hw.modAno_ano (h : Hw) (f : Ano → Ano) : (h.modAno f).ano = f h.ano := rfl
@[simp] theorem Hw.modAno_ldg (h : Hw) (f : Ano → Ano) : (h.modAno f).ldg = h.ldg := rfl
@[simp] theorem Hw.modAno_eng (h : Hw) (f : Ano → Ano) : (h.modAno f).eng = h.eng := rfl

/-! ## modLdg -/

@[simp] theorem Hw.modLdg_cycle (h : Hw) (f : Ldg → Ldg) : (h.modLdg f).cycle = h.cycle := rfl
@[simp] theorem Hw.modLdg_freeCount (h : Hw) (f : Ldg → Ldg) : (h.modLdg f).freeCount = h.freeCount := rfl
@[simp] theorem Hw.modLdg_regs (h : Hw) (f : Ldg → Ldg) : (h.modLdg f).regs = h.regs := rfl
@[simp] theorem Hw.modLdg_act (h : Hw) (f : Ldg → Ldg) : (h.modLdg f).act = h.act := rfl
@[simp] theorem Hw.modLdg_ciDue (h : Hw) (f : Ldg → Ldg) : (h.modLdg f).ciDue = h.ciDue := rfl
@[simp] theorem Hw.modLdg_wideRead (h : Hw) (f : Ldg → Ldg) : (h.modLdg f).wideRead = h.wideRead := rfl
@[simp] theorem Hw.modLdg_wideWrite (h : Hw) (f : Ldg → Ldg) : (h.modLdg f).wideWrite = h.wideWrite := rfl
@[simp] theorem Hw.modLdg_mem (h : Hw) (f : Ldg → Ldg) : (h.modLdg f).mem = h.mem := rfl
@[simp] theorem Hw.modLdg_pwr (h : Hw) (f : Ldg → Ldg) : (h.modLdg f).pwr = h.pwr := rfl
@[simp] theorem Hw.modLdg_efts (h : Hw) (f : Ldg → Ldg) : (h.modLdg f).efts = h.efts := rfl
@[simp] theorem Hw.modLdg_caches (h : Hw) (f : Ldg → Ldg) : (h.modLdg f).caches = h.caches := rfl
@[simp] theorem Hw.modLdg_recLog (h : Hw) (f : Ldg → Ldg) : (h.modLdg f).recLog = h.recLog := rfl
@[simp] theorem Hw.modLdg_awArmed (h : Hw) (f : Ldg → Ldg) : (h.modLdg f).awArmed = h.awArmed := rfl
@[simp] theorem Hw.modLdg_mtx (h : Hw) (f : Ldg → Ldg) : (h.modLdg f).mtx = h.mtx := rfl
@[simp] theorem Hw.modLdg_gpi (h : Hw) (f : Ldg → Ldg) : (h.modLdg f).gpi = h.gpi := rfl
@[simp] theorem Hw.modLdg_i2c (h : Hw) (f : Ldg → Ldg) : (h.modLdg f).i2c = h.i2c := rfl
@[simp] theorem Hw.modLdg_uart (h : Hw) (f : Ldg → Ldg) : (h.modLdg f).uart = h.uart := rfl
@[simp] theorem Hw.modLdg_xsp (h : Hw) (f : Ldg → Ldg) : (h.modLdg f).xsp = h.xsp := rfl
@[simp] theorem Hw.modLdg_evLog (h : Hw) (f : Ldg → Ldg) : (h.modLdg f).evLog = h.evLog := rfl
@[simp] theorem Hw.modLdg_pen (h : Hw) (f : Ldg → Ldg) : (h.modLdg f).pen = h.pen := rfl
@[simp] theorem Hw.modLdg_can (h : Hw) (f : Ldg → Ldg) : (h.modLdg f).can = h.can := rfl
@[simp] theorem Hw.modLdg_varPulse (h : Hw) (f : Ldg → Ldg) : (h.modLdg f).varPulse = h.varPulse := rfl
@[simp] theorem Hw.modLdg_var (h : Hw) (f : Ldg → Ldg) : (h.modLdg f).var = h.var := rfl
@[simp] theorem Hw.modLdg_brg (h : Hw) (f : Ldg → Ldg) : (h.modLdg f).brg = h.brg := rfl
@[simp] theorem Hw.modLdg_cop (h : Hw) (f : Ldg → Ldg) : (h.modLdg f).cop = h.cop := rfl
@[simp] theorem Hw.modLdg_voc (h : Hw) (f : Ldg → Ldg) : (h.modLdg f).voc = h.voc := rfl
@[simp] theorem Hw.modLdg_mix (h : Hw) (f : Ldg → Ldg) : (h.modLdg f).mix = h.mix := rfl
@[simp] theorem Hw.modLdg_tim (h : Hw) (f : Ldg → Ldg) : (h.modLdg f).tim = h.tim := rfl
@[simp] theorem Hw.modLdg_lnl (h : Hw) (f : Ldg → Ldg) : (h.modLdg f).lnl = h.lnl := rfl
@[simp] theorem Hw.modLdg_texels (h : Hw) (f : Ldg → Ldg) : (h.modLdg f).texels = h.texels := rfl
@[simp] theorem Hw.modLdg_cam (h : Hw) (f : Ldg → Ldg) : (h.modLdg f).cam = h.cam := rfl
@[simp] theorem Hw.modLdg_ano (h : Hw) (f : Ldg → Ldg) : (h.modLdg f).ano = h.ano := rfl
@[simp] theorem Hw.modLdg_ldg (h : Hw) (f : Ldg → Ldg) : (h.modLdg f).ldg = f h.ldg := rfl
@[simp] theorem Hw.modLdg_eng (h : Hw) (f : Ldg → Ldg) : (h.modLdg f).eng = h.eng := rfl

/-! ## modCam -/

@[simp] theorem Hw.modCam_cycle (h : Hw) (f : Cam → Cam) : (h.modCam f).cycle = h.cycle := rfl
@[simp] theorem Hw.modCam_freeCount (h : Hw) (f : Cam → Cam) : (h.modCam f).freeCount = h.freeCount := rfl
@[simp] theorem Hw.modCam_regs (h : Hw) (f : Cam → Cam) : (h.modCam f).regs = h.regs := rfl
@[simp] theorem Hw.modCam_act (h : Hw) (f : Cam → Cam) : (h.modCam f).act = h.act := rfl
@[simp] theorem Hw.modCam_ciDue (h : Hw) (f : Cam → Cam) : (h.modCam f).ciDue = h.ciDue := rfl
@[simp] theorem Hw.modCam_wideRead (h : Hw) (f : Cam → Cam) : (h.modCam f).wideRead = h.wideRead := rfl
@[simp] theorem Hw.modCam_wideWrite (h : Hw) (f : Cam → Cam) : (h.modCam f).wideWrite = h.wideWrite := rfl
@[simp] theorem Hw.modCam_mem (h : Hw) (f : Cam → Cam) : (h.modCam f).mem = h.mem := rfl
@[simp] theorem Hw.modCam_pwr (h : Hw) (f : Cam → Cam) : (h.modCam f).pwr = h.pwr := rfl
@[simp] theorem Hw.modCam_efts (h : Hw) (f : Cam → Cam) : (h.modCam f).efts = h.efts := rfl
@[simp] theorem Hw.modCam_caches (h : Hw) (f : Cam → Cam) : (h.modCam f).caches = h.caches := rfl
@[simp] theorem Hw.modCam_recLog (h : Hw) (f : Cam → Cam) : (h.modCam f).recLog = h.recLog := rfl
@[simp] theorem Hw.modCam_awArmed (h : Hw) (f : Cam → Cam) : (h.modCam f).awArmed = h.awArmed := rfl
@[simp] theorem Hw.modCam_mtx (h : Hw) (f : Cam → Cam) : (h.modCam f).mtx = h.mtx := rfl
@[simp] theorem Hw.modCam_gpi (h : Hw) (f : Cam → Cam) : (h.modCam f).gpi = h.gpi := rfl
@[simp] theorem Hw.modCam_i2c (h : Hw) (f : Cam → Cam) : (h.modCam f).i2c = h.i2c := rfl
@[simp] theorem Hw.modCam_uart (h : Hw) (f : Cam → Cam) : (h.modCam f).uart = h.uart := rfl
@[simp] theorem Hw.modCam_xsp (h : Hw) (f : Cam → Cam) : (h.modCam f).xsp = h.xsp := rfl
@[simp] theorem Hw.modCam_evLog (h : Hw) (f : Cam → Cam) : (h.modCam f).evLog = h.evLog := rfl
@[simp] theorem Hw.modCam_pen (h : Hw) (f : Cam → Cam) : (h.modCam f).pen = h.pen := rfl
@[simp] theorem Hw.modCam_can (h : Hw) (f : Cam → Cam) : (h.modCam f).can = h.can := rfl
@[simp] theorem Hw.modCam_varPulse (h : Hw) (f : Cam → Cam) : (h.modCam f).varPulse = h.varPulse := rfl
@[simp] theorem Hw.modCam_var (h : Hw) (f : Cam → Cam) : (h.modCam f).var = h.var := rfl
@[simp] theorem Hw.modCam_brg (h : Hw) (f : Cam → Cam) : (h.modCam f).brg = h.brg := rfl
@[simp] theorem Hw.modCam_cop (h : Hw) (f : Cam → Cam) : (h.modCam f).cop = h.cop := rfl
@[simp] theorem Hw.modCam_voc (h : Hw) (f : Cam → Cam) : (h.modCam f).voc = h.voc := rfl
@[simp] theorem Hw.modCam_mix (h : Hw) (f : Cam → Cam) : (h.modCam f).mix = h.mix := rfl
@[simp] theorem Hw.modCam_tim (h : Hw) (f : Cam → Cam) : (h.modCam f).tim = h.tim := rfl
@[simp] theorem Hw.modCam_lnl (h : Hw) (f : Cam → Cam) : (h.modCam f).lnl = h.lnl := rfl
@[simp] theorem Hw.modCam_texels (h : Hw) (f : Cam → Cam) : (h.modCam f).texels = h.texels := rfl
@[simp] theorem Hw.modCam_cam (h : Hw) (f : Cam → Cam) : (h.modCam f).cam = f h.cam := rfl
@[simp] theorem Hw.modCam_ano (h : Hw) (f : Cam → Cam) : (h.modCam f).ano = h.ano := rfl
@[simp] theorem Hw.modCam_ldg (h : Hw) (f : Cam → Cam) : (h.modCam f).ldg = h.ldg := rfl
@[simp] theorem Hw.modCam_eng (h : Hw) (f : Cam → Cam) : (h.modCam f).eng = h.eng := rfl

end Sys2Proof.Machine
end

