-- ==== Sys2Proof/Laws/Settle.lean ====
section
/-! SUPPORT. What the end of a register cycle can touch: put-off counters, Varan's own state and what its triggers drive,
and nothing else. One lemma per operation says so; the lemmas for single fields follow from them. -/

namespace Sys2Proof.Machine

open Sys2Proof

/-- At most registers, put-off increments, pulses, Varan, the link's bunting and the pins' function outputs differ. -/
def Hw.Settled (h h' : Hw) : Prop :=
  ∃ r c p v b g, h' = { h with regs := r, ciDue := c, varPulse := p, var := v, brg := b, gpi := g }

theorem Hw.Settled.refl (h : Hw) : h.Settled h := ⟨_, _, _, _, _, _, rfl⟩

theorem Hw.Settled.trans {a b c : Hw} (h1 : a.Settled b) (h2 : b.Settled c) : a.Settled c := by
  obtain ⟨r, d, p, v, g, k, rfl⟩ := h1
  obtain ⟨r', d', p', v', g', k', rfl⟩ := h2
  exact ⟨_, _, _, _, _, _, rfl⟩

theorem Hw.settled_setReg (h : Hw) (a : Nat) (v : Word) : h.Settled (h.setReg a v) := ⟨_, _, _, _, _, _, rfl⟩
theorem Hw.settled_wr (h : Hw) (f : FieldRef) (v i : Nat) : h.Settled (h.wr f v i) := ⟨_, _, _, _, _, _, rfl⟩
theorem Hw.settled_inc (h : Hw) (f : FieldRef) (n i : Nat) : h.Settled (h.inc f n i) := ⟨_, _, _, _, _, _, rfl⟩
theorem Hw.settled_setFn (h : Hw) (n : Nat) (v oe : Bool) : h.Settled (h.setFn n v oe) := ⟨_, _, _, _, _, _, rfl⟩
theorem Hw.settled_modStream (h : Hw) (k : Nat) (f : VStream → VStream) : h.Settled (h.modStream k f) :=
  ⟨_, _, _, _, _, _, rfl⟩
theorem Hw.settled_stage (h : Hw) (k : Nat) (r : VRec) : h.Settled (h.stage k r) := ⟨_, _, _, _, _, _, rfl⟩

theorem Hw.settled_ite {h a b : Hw} {c : Prop} [Decidable c] (ha : h.Settled a) (hb : h.Settled b) :
    h.Settled (if c then a else b) := by split <;> assumption

theorem Hw.settled_countEvt (h : Hw) (b mask : Nat) : h.Settled (h.countEvt b mask) := by
  unfold Hw.countEvt
  exact settled_ite (settled_ite (settled_wr _ _ _ _) (settled_inc _ _ _ _)) (Settled.refl _)

theorem Hw.settled_raise (h : Hw) (b mask : Nat) : h.Settled (h.raise b mask) := by
  unfold Hw.raise
  split
  · exact Settled.refl _
  · exact Settled.trans ⟨_, _, _, _, _, _, rfl⟩ (settled_countEvt _ _ _)

theorem Hw.settled_raiseBit (h : Hw) (b k : Nat) : h.Settled (h.raiseBit b k) := settled_raise _ _ _

theorem Hw.settled_buntRequest (h : Hw) (line : Nat) : h.Settled (h.buntRequest line).1 := by
  unfold Hw.buntRequest
  dsimp only
  split <;> exact ⟨_, _, _, _, _, _, rfl⟩

theorem Hw.settled_trigDrive (h : Hw) (i own : Nat) : h.Settled (h.trigDrive i own) := by
  unfold Hw.trigDrive
  exact settled_ite ⟨_, _, _, _, _, _, rfl⟩ (Settled.refl _)

theorem Hw.settled_trigTake (h : Hw) (k t : Nat) (own : Bool) : h.Settled (h.trigTake k t own) := by
  unfold Hw.trigTake
  exact Settled.trans (Settled.trans (settled_modStream h k _) (settled_ite (settled_wr _ _ _ _) (Settled.refl _)))
    (settled_ite (settled_stage _ _ _) (Settled.refl _))

theorem Hw.settled_trigLink (h : Hw) (k : Nat) : h.Settled (h.trigLink k) := by
  unfold Hw.trigLink
  exact settled_ite (settled_ite (settled_buntRequest _ _)
    (Settled.trans (settled_buntRequest _ _) (settled_raiseBit _ _ _))) (Settled.refl _)

theorem Hw.settled_trigBalls (h : Hw) (k : Nat) : h.Settled (h.trigBalls k) := by
  unfold Hw.trigBalls
  exact Settled.trans (settled_ite (settled_trigDrive _ _ _) (Settled.refl _))
    (settled_ite (settled_trigDrive _ _ _) (Settled.refl _))

theorem Hw.settled_trigger (h : Hw) (k t : Nat) (own : Bool) : h.Settled (h.trigger k t own) := by
  unfold Hw.trigger
  exact settled_ite (Settled.trans (Settled.trans (Settled.trans (settled_trigTake _ _ _ _) (settled_raiseBit _ _ _))
    (settled_trigLink _ _)) (settled_trigBalls _ _)) (Settled.refl _)

theorem Hw.settled_sequence (h : Hw) (k : Nat) (was now after : List Bool) (t : Nat) (own : Bool) :
    h.Settled (h.sequence k was now after t own) := by
  unfold Hw.sequence
  dsimp only
  have goto : ∀ (g : Hw) (n : Nat), g.Settled ((g.wr F.VAR_SSTAT_SEQ n k).wr F.VAR_SSEQCNT_COUNT 0 k) :=
    fun g n => Settled.trans (settled_wr _ _ _ _) (settled_wr _ _ _ _)
  split
  · exact Settled.refl _
  · split
    · exact Settled.trans (goto _ _) (settled_ite (goto _ _) (Settled.refl _))
    · split
      · split
        · split
          · exact Settled.trans (Settled.trans (goto _ _) (settled_trigger _ _ _ _))
              (settled_ite (goto _ _) (Settled.refl _))
          · exact Settled.trans (goto _ _) (settled_ite (goto _ _) (Settled.refl _))
        · exact Settled.trans (settled_wr _ _ _ _) (settled_ite (goto _ _) (Settled.refl _))
      · exact Settled.refl _

theorem Hw.settled_foldUp (f : Hw → Nat → Hw) (hf : ∀ (h : Hw) (n : Nat), h.Settled (f h n)) :
    ∀ (k n : Nat) (h : Hw), h.Settled (foldUp f n k h)
  | 0, _, h => Settled.refl h
  | k + 1, n, h => Settled.trans (hf h n) (settled_foldUp f hf k (n + 1) (f h n))

theorem Hw.settled_varCycle (h : Hw) (lv : List Bool) (edge : List Nat) (lines t : Nat) (input : List Nat) :
    h.Settled (h.varCycle lv edge lines t input) := by
  unfold Hw.varCycle
  dsimp only
  split
  · exact Settled.refl _
  · refine Settled.trans (Settled.trans ⟨_, _, _, _, _, _, rfl⟩ (settled_raise _ _ _)) (settled_foldUp _ ?_ _ _ _)
    intro g k
    refine Settled.trans ?_ (settled_sequence _ _ _ _ _ _ _)
    split
    · exact settled_stage _ _ _
    · exact Settled.refl _

theorem Hw.settled_varSettle : ∀ (n : Nat) (h : Hw), h.Settled (h.varSettle n)
  | 0, h => Settled.refl h
  | n + 1, h => by
    unfold Hw.varSettle
    split
    · exact Settled.refl _
    · exact Settled.trans (Settled.trans ⟨_, _, _, _, _, _, rfl⟩ (settled_varCycle _ _ _ _ _ _)) (settled_varSettle n _)

theorem Hw.settled_settleCi (h : Hw) : h.Settled h.settleCi := by
  have key : ∀ (l : List CiDue) (g : Hw), g.Settled (l.foldl (fun s d =>
      let f : FieldRef := ⟨d.addr, 0, d.hi, d.lo⟩
      let s' := s.inc f d.amount
      if d.addr % 0x10000 = 8 && d.lo = 0 && 0xFFFF < s.rd f + d.amount then s'.wr ⟨d.addr, 0, 31, 31⟩ 1 else s') g) := by
    intro l
    induction l with
    | nil => exact fun g => Settled.refl g
    | cons d l ih =>
      intro g
      refine Settled.trans ?_ (ih _)
      dsimp only
      split
      · exact Settled.trans (settled_inc _ _ _ _) (settled_wr _ _ _ _)
      · exact settled_inc _ _ _ _
  exact Settled.trans ⟨_, _, _, _, _, _, rfl⟩ (key _ _)

/-- The end of a register cycle. -/
theorem Hw.settled_end (h : Hw) : h.Settled (h.settleCi.varSettle 4) :=
  Settled.trans (settled_settleCi _) (settled_varSettle _ _)

/-- With nothing put off and no pulse, the end of a register cycle changes nothing. -/
theorem Hw.end_of_calm (h : Hw) (hc : h.ciDue = []) (hp : h.varPulse = []) : h.settleCi.varSettle 4 = h := by
  have h1 : h.settleCi = h := by
    unfold Hw.settleCi
    simp [hc]
    cases h; simp_all
  rw [h1]
  unfold Hw.varSettle
  rw [if_pos hp]

/-! ## Field by field -/

theorem Hw.Settled.cycle {h h2 : Hw} (s : h.Settled h2) : h2.cycle = h.cycle := by
  obtain ⟨_, _, _, _, _, _, rfl⟩ := s; rfl
@[simp] theorem Hw.end_cycle (h : Hw) : (h.settleCi.varSettle 4).cycle = h.cycle := (settled_end h).cycle
theorem Hw.Settled.freeCount {h h2 : Hw} (s : h.Settled h2) : h2.freeCount = h.freeCount := by
  obtain ⟨_, _, _, _, _, _, rfl⟩ := s; rfl
@[simp] theorem Hw.end_freeCount (h : Hw) : (h.settleCi.varSettle 4).freeCount = h.freeCount := (settled_end h).freeCount
theorem Hw.Settled.act {h h2 : Hw} (s : h.Settled h2) : h2.act = h.act := by
  obtain ⟨_, _, _, _, _, _, rfl⟩ := s; rfl
@[simp] theorem Hw.end_act (h : Hw) : (h.settleCi.varSettle 4).act = h.act := (settled_end h).act
theorem Hw.Settled.wideRead {h h2 : Hw} (s : h.Settled h2) : h2.wideRead = h.wideRead := by
  obtain ⟨_, _, _, _, _, _, rfl⟩ := s; rfl
@[simp] theorem Hw.end_wideRead (h : Hw) : (h.settleCi.varSettle 4).wideRead = h.wideRead := (settled_end h).wideRead
theorem Hw.Settled.wideWrite {h h2 : Hw} (s : h.Settled h2) : h2.wideWrite = h.wideWrite := by
  obtain ⟨_, _, _, _, _, _, rfl⟩ := s; rfl
@[simp] theorem Hw.end_wideWrite (h : Hw) : (h.settleCi.varSettle 4).wideWrite = h.wideWrite := (settled_end h).wideWrite
theorem Hw.Settled.mem {h h2 : Hw} (s : h.Settled h2) : h2.mem = h.mem := by
  obtain ⟨_, _, _, _, _, _, rfl⟩ := s; rfl
@[simp] theorem Hw.end_mem (h : Hw) : (h.settleCi.varSettle 4).mem = h.mem := (settled_end h).mem
theorem Hw.Settled.pwr {h h2 : Hw} (s : h.Settled h2) : h2.pwr = h.pwr := by
  obtain ⟨_, _, _, _, _, _, rfl⟩ := s; rfl
@[simp] theorem Hw.end_pwr (h : Hw) : (h.settleCi.varSettle 4).pwr = h.pwr := (settled_end h).pwr
theorem Hw.Settled.efts {h h2 : Hw} (s : h.Settled h2) : h2.efts = h.efts := by
  obtain ⟨_, _, _, _, _, _, rfl⟩ := s; rfl
@[simp] theorem Hw.end_efts (h : Hw) : (h.settleCi.varSettle 4).efts = h.efts := (settled_end h).efts
theorem Hw.Settled.caches {h h2 : Hw} (s : h.Settled h2) : h2.caches = h.caches := by
  obtain ⟨_, _, _, _, _, _, rfl⟩ := s; rfl
@[simp] theorem Hw.end_caches (h : Hw) : (h.settleCi.varSettle 4).caches = h.caches := (settled_end h).caches
theorem Hw.Settled.recLog {h h2 : Hw} (s : h.Settled h2) : h2.recLog = h.recLog := by
  obtain ⟨_, _, _, _, _, _, rfl⟩ := s; rfl
@[simp] theorem Hw.end_recLog (h : Hw) : (h.settleCi.varSettle 4).recLog = h.recLog := (settled_end h).recLog
theorem Hw.Settled.awArmed {h h2 : Hw} (s : h.Settled h2) : h2.awArmed = h.awArmed := by
  obtain ⟨_, _, _, _, _, _, rfl⟩ := s; rfl
@[simp] theorem Hw.end_awArmed (h : Hw) : (h.settleCi.varSettle 4).awArmed = h.awArmed := (settled_end h).awArmed
theorem Hw.Settled.mtx {h h2 : Hw} (s : h.Settled h2) : h2.mtx = h.mtx := by
  obtain ⟨_, _, _, _, _, _, rfl⟩ := s; rfl
@[simp] theorem Hw.end_mtx (h : Hw) : (h.settleCi.varSettle 4).mtx = h.mtx := (settled_end h).mtx
theorem Hw.Settled.i2c {h h2 : Hw} (s : h.Settled h2) : h2.i2c = h.i2c := by
  obtain ⟨_, _, _, _, _, _, rfl⟩ := s; rfl
@[simp] theorem Hw.end_i2c (h : Hw) : (h.settleCi.varSettle 4).i2c = h.i2c := (settled_end h).i2c
theorem Hw.Settled.uart {h h2 : Hw} (s : h.Settled h2) : h2.uart = h.uart := by
  obtain ⟨_, _, _, _, _, _, rfl⟩ := s; rfl
@[simp] theorem Hw.end_uart (h : Hw) : (h.settleCi.varSettle 4).uart = h.uart := (settled_end h).uart
theorem Hw.Settled.xsp {h h2 : Hw} (s : h.Settled h2) : h2.xsp = h.xsp := by
  obtain ⟨_, _, _, _, _, _, rfl⟩ := s; rfl
@[simp] theorem Hw.end_xsp (h : Hw) : (h.settleCi.varSettle 4).xsp = h.xsp := (settled_end h).xsp
theorem Hw.Settled.evLog {h h2 : Hw} (s : h.Settled h2) : h2.evLog = h.evLog := by
  obtain ⟨_, _, _, _, _, _, rfl⟩ := s; rfl
@[simp] theorem Hw.end_evLog (h : Hw) : (h.settleCi.varSettle 4).evLog = h.evLog := (settled_end h).evLog
theorem Hw.Settled.pen {h h2 : Hw} (s : h.Settled h2) : h2.pen = h.pen := by
  obtain ⟨_, _, _, _, _, _, rfl⟩ := s; rfl
@[simp] theorem Hw.end_pen (h : Hw) : (h.settleCi.varSettle 4).pen = h.pen := (settled_end h).pen
theorem Hw.Settled.can {h h2 : Hw} (s : h.Settled h2) : h2.can = h.can := by
  obtain ⟨_, _, _, _, _, _, rfl⟩ := s; rfl
@[simp] theorem Hw.end_can (h : Hw) : (h.settleCi.varSettle 4).can = h.can := (settled_end h).can
theorem Hw.Settled.cop {h h2 : Hw} (s : h.Settled h2) : h2.cop = h.cop := by
  obtain ⟨_, _, _, _, _, _, rfl⟩ := s; rfl
@[simp] theorem Hw.end_cop (h : Hw) : (h.settleCi.varSettle 4).cop = h.cop := (settled_end h).cop
theorem Hw.Settled.voc {h h2 : Hw} (s : h.Settled h2) : h2.voc = h.voc := by
  obtain ⟨_, _, _, _, _, _, rfl⟩ := s; rfl
@[simp] theorem Hw.end_voc (h : Hw) : (h.settleCi.varSettle 4).voc = h.voc := (settled_end h).voc
theorem Hw.Settled.mix {h h2 : Hw} (s : h.Settled h2) : h2.mix = h.mix := by
  obtain ⟨_, _, _, _, _, _, rfl⟩ := s; rfl
@[simp] theorem Hw.end_mix (h : Hw) : (h.settleCi.varSettle 4).mix = h.mix := (settled_end h).mix
theorem Hw.Settled.tim {h h2 : Hw} (s : h.Settled h2) : h2.tim = h.tim := by
  obtain ⟨_, _, _, _, _, _, rfl⟩ := s; rfl
@[simp] theorem Hw.end_tim (h : Hw) : (h.settleCi.varSettle 4).tim = h.tim := (settled_end h).tim
theorem Hw.Settled.lnl {h h2 : Hw} (s : h.Settled h2) : h2.lnl = h.lnl := by
  obtain ⟨_, _, _, _, _, _, rfl⟩ := s; rfl
@[simp] theorem Hw.end_lnl (h : Hw) : (h.settleCi.varSettle 4).lnl = h.lnl := (settled_end h).lnl
theorem Hw.Settled.texels {h h2 : Hw} (s : h.Settled h2) : h2.texels = h.texels := by
  obtain ⟨_, _, _, _, _, _, rfl⟩ := s; rfl
@[simp] theorem Hw.end_texels (h : Hw) : (h.settleCi.varSettle 4).texels = h.texels := (settled_end h).texels
theorem Hw.Settled.cam {h h2 : Hw} (s : h.Settled h2) : h2.cam = h.cam := by
  obtain ⟨_, _, _, _, _, _, rfl⟩ := s; rfl
@[simp] theorem Hw.end_cam (h : Hw) : (h.settleCi.varSettle 4).cam = h.cam := (settled_end h).cam
theorem Hw.Settled.ano {h h2 : Hw} (s : h.Settled h2) : h2.ano = h.ano := by
  obtain ⟨_, _, _, _, _, _, rfl⟩ := s; rfl
@[simp] theorem Hw.end_ano (h : Hw) : (h.settleCi.varSettle 4).ano = h.ano := (settled_end h).ano
theorem Hw.Settled.ldg {h h2 : Hw} (s : h.Settled h2) : h2.ldg = h.ldg := by
  obtain ⟨_, _, _, _, _, _, rfl⟩ := s; rfl
@[simp] theorem Hw.end_ldg (h : Hw) : (h.settleCi.varSettle 4).ldg = h.ldg := (settled_end h).ldg
theorem Hw.Settled.eng {h h2 : Hw} (s : h.Settled h2) : h2.eng = h.eng := by
  obtain ⟨_, _, _, _, _, _, rfl⟩ := s; rfl
@[simp] theorem Hw.end_eng (h : Hw) : (h.settleCi.varSettle 4).eng = h.eng := (settled_end h).eng

end Sys2Proof.Machine
end

