-- ==== Sys2Proof/Laws/Store.lean ====
section
/-! SUPPORT. Sparse stores: a write is read back and leaves every other key alone, and every operation keeps the canonical
form, in which equal contents are equal lists. -/

namespace Sys2Proof.Machine

open Sys2Proof

theorem Store.above_le {α : Type} {j k : Nat} {l : List (Nat × α)} (h : Store.above k l = true) (hjk : j ≤ k) :
    Store.above j l = true := by
  simp only [Store.above, List.all_eq_true, decide_eq_true_eq] at *
  exact fun p hp => Nat.lt_of_le_of_lt hjk (h p hp)

theorem Store.above_cons {α : Type} (j : Nat) (e : Nat × α) (l : List (Nat × α)) :
    Store.above j (e :: l) = true ↔ j < e.1 ∧ Store.above j l = true := by
  simp [Store.above]

theorem Store.above_put {α : Type} [DecidableEq α] (d : Nat → α) {j : Nat} :
    ∀ {l : List (Nat × α)} {k : Nat} {v : α}, Store.above j l = true → j < k → Store.above j (Store.put d l k v) = true
  | [], k, v, _, hk => by
    unfold Store.put; split <;> simp [Store.above, hk]
  | (i, w) :: l, k, v, h, hk => by
    obtain ⟨hi, hl⟩ := (Store.above_cons j (i, w) l).1 h
    have hl' := Store.above_put d (k := k) (v := v) hl hk
    unfold Store.put
    split
    · split
      · exact h
      · exact (Store.above_cons _ _ _).2 ⟨hk, h⟩
    · split
      · split
        · exact hl
        · exact (Store.above_cons _ _ _).2 ⟨hk, hl⟩
      · exact (Store.above_cons _ _ _).2 ⟨hi, hl'⟩

/-- A write keeps the canonical form. -/
theorem Store.wf_put {α : Type} [DecidableEq α] (d : Nat → α) :
    ∀ {l : List (Nat × α)} {k : Nat} {v : α}, Store.wf d l = true → Store.wf d (Store.put d l k v) = true
  | [], k, v, _ => by
    unfold Store.put; split <;> simp_all [Store.wf, Store.above]
  | (j, w) :: l, k, v, h => by
    simp only [Store.wf, Bool.and_eq_true, decide_eq_true_eq] at h
    obtain ⟨⟨hw, ha⟩, hl⟩ := h
    unfold Store.put
    split
    · rename_i hkj
      split
      · simp [Store.wf, hw, ha, hl]
      · rename_i hv
        have : Store.above k ((j, w) :: l) = true := by
          simp only [Store.above, List.all_cons, Bool.and_eq_true, decide_eq_true_eq]
          exact ⟨hkj, Store.above_le ha (Nat.le_of_lt hkj)⟩
        simp [Store.wf, hv, this, hw, ha, hl]
    · split
      · rename_i _ hkj
        subst hkj
        split
        · exact hl
        · rename_i hv; simp [Store.wf, hv, ha, hl]
      · rename_i h1 h2
        have hjk : j < k := by omega
        simp [Store.wf, hw, Store.above_put d ha hjk, Store.wf_put d hl]

theorem Store.get_above {α : Type} (d : Nat → α) {k : Nat} :
    ∀ {l : List (Nat × α)}, Store.above k l = true → Store.get d l k = d k
  | [], _ => rfl
  | (j, w) :: l, h => by
    simp only [Store.above, List.all_cons, Bool.and_eq_true, decide_eq_true_eq] at h
    unfold Store.get
    rw [if_neg (by omega)]
    exact Store.get_above d h.2

/-- A key written reads as what was written. -/
theorem Store.get_put_same {α : Type} [DecidableEq α] (d : Nat → α) {k : Nat} {v : α} :
    ∀ {l : List (Nat × α)}, Store.wf d l = true → Store.get d (Store.put d l k v) k = v
  | [], _ => by
    unfold Store.put; split <;> simp_all [Store.get]
  | (j, w) :: l, h => by
    simp only [Store.wf, Bool.and_eq_true, decide_eq_true_eq] at h
    obtain ⟨⟨_, ha⟩, hl⟩ := h
    unfold Store.put
    split
    · rename_i hkj
      split
      · rename_i hv
        unfold Store.get
        rw [if_neg (by omega), Store.get_above d (Store.above_le ha (Nat.le_of_lt hkj)), hv]
      · simp [Store.get]
    · split
      · rename_i _ hkj
        subst hkj
        split
        · rename_i hv; rw [Store.get_above d ha, hv]
        · simp [Store.get]
      · unfold Store.get
        rw [if_neg (by omega)]
        exact Store.get_put_same d hl

/-- A write leaves every other key alone. -/
theorem Store.get_put_other {α : Type} [DecidableEq α] (d : Nat → α) {k i : Nat} {v : α} (hi : i ≠ k) :
    ∀ {l : List (Nat × α)}, Store.get d (Store.put d l k v) i = Store.get d l i
  | [] => by
    unfold Store.put; split
    · rfl
    · simp [Store.get, Ne.symm hi]
  | (j, w) :: l => by
    unfold Store.put
    split
    · split
      · rfl
      · simp [Store.get, Ne.symm hi]
    · split
      · rename_i _ hkj
        subst hkj
        split <;> simp [Store.get, Ne.symm hi]
      · have := Store.get_put_other d (v := v) hi (l := l)
        simp [Store.get, this]

/-- Dropping keys keeps the canonical form. -/
theorem Store.wf_drop {α : Type} [DecidableEq α] (d : Nat → α) (p : Nat → Bool) :
    ∀ {l : List (Nat × α)}, Store.wf d l = true → Store.wf d (Store.drop p l) = true
  | [], _ => rfl
  | (k, v) :: l, h => by
    simp only [Store.wf, Bool.and_eq_true, decide_eq_true_eq] at h
    obtain ⟨⟨hv, ha⟩, hl⟩ := h
    have ih := Store.wf_drop d p hl
    have ha' : Store.above k (Store.drop p l) = true := by
      simp only [Store.above, List.all_eq_true, decide_eq_true_eq, Store.drop] at ha ⊢
      exact fun q hq => ha q (List.mem_filter.1 hq).1
    unfold Store.drop at *
    rw [List.filter_cons]
    split
    · simp [Store.wf, hv, ha', ih]
    · exact ih

end Sys2Proof.Machine
end

