-- ==== Sys2Proof/Laws/Exec.lean ====
section
/-! SUPPORT. The two shapes of a meaning: a register cycle of the device alone, or one of the command engine with the store
and the fuses. What follows for every command follows from the two. -/

namespace Sys2Proof.Machine

open Sys2Proof

set_option maxRecDepth 4000 in
/-- Every command is one of the two shapes. -/
theorem exec_shape (i : Instr) (s : State) :
    (∃ f : Hw → Hw, exec i s = s.onHw f) ∨ (∃ f : Sys → Sys, exec i s = s.onSys f) := by
  cases i <;> (dsimp only [exec]; first | exact Or.inl ⟨_, rfl⟩ | exact Or.inr ⟨_, rfl⟩)

end Sys2Proof.Machine
end

