-- ==== Sys2Proof/Laws/Issue.lean ====
section
/-! SUPPORT. What issuing an instruction does where the eft can issue at once: the fetch hits, and the instruction's body
acts. One lemma for each way its body can end. -/

namespace Sys2Proof.Machine

open Sys2Proof

theorem Hw.reg_setReg_other (h : Hw) {a b : Nat} (v : Word) (hab : b ≠ a) : (h.setReg a v).reg b = h.reg b := by
  unfold Hw.reg Hw.setReg
  exact Store.get_put_other regReset hab

/-- The fields that a fetch reads stay as they are while AWSTAT.LEN is written. -/
theorem Hw.rd_wr_other (h : Hw) (f g : FieldRef) (v i j : Nat) (hne : g.addr j ≠ f.addr i) :
    (h.wr f v i).rd g j = h.rd g j := by
  unfold Hw.rd Hw.wr
  rw [Hw.reg_setReg_other _ _ hne]

theorem Eft.landAll_of_none (t : Eft) (hf : t.fly = []) : t.landAll = t := by
  cases t; simp_all [Eft.landAll]

theorem Hw.setEft_self (h : Hw) (e : Fin 4) : h.setEft e (h.eft e) = h := by
  unfold Hw.setEft Hw.eft
  have : h.efts.set (e : Nat) h.efts[e] e.isLt = h.efts := by
    ext i hi
    simp only [Vector.getElem_set]
    split
    · subst_vars; rfl
    · rfl
  rw [this]

@[simp] theorem Hw.eft_setEft (h : Hw) (e : Fin 4) (t : Eft) : (h.setEft e t).eft e = t := by
  unfold Hw.setEft Hw.eft
  simp

@[simp] theorem Hw.issued_eft (h : Hw) (e k : Fin 4) : (h.issued e).eft k = h.eft k := rfl
@[simp] theorem Hw.issued_mem (h : Hw) (e : Fin 4) : (h.issued e).mem = h.mem := rfl

theorem Hw.takeUp_of_none (h : Hw) (e : Fin 4) (ho : (h.eft e).out = []) : h.takeUp e = h := by
  unfold Hw.takeUp; rw [ho]; rfl

/-- The conditions of an immediate issue, one by one. -/
theorem Hw.canIssue_iff (h : Hw) (e : Fin 4) (m : Bool) : h.canIssue e m = true ↔
    (h.eft e).run = .ready ∧ (h.eft e).sr.mode = m ∧ (h.eft e).slot = none ∧ (h.eft e).pend = none ∧
    (h.eft e).late = none ∧ (h.eft e).fly = [] ∧ (h.eft e).out = [] ∧ executable (h.eft e).pc.toNat = true ∧
    h.uncached (h.eft e).pc.toNat = false ∧ h.pageMode (h.eft e).pc.toNat = m ∧
    ∃ i, h.caches.findI (h.eft e).pc.toNat = some i := by
  simp [Hw.canIssue, Bool.and_eq_true, and_assoc, Option.isSome_iff_exists]

theorem Hw.uncached_waked (h : Hw) (a : Nat) :
    ({ h.wr F.EFT_AWSTAT_LEN 0 with awArmed := false } : Hw).uncached a = h.uncached a := by
  unfold Hw.uncached Hw.rdB
  have key : ∀ (g : FieldRef) (k : Nat), g.addr k ≠ F.EFT_AWSTAT_LEN.addr 0 →
      ({ h.wr F.EFT_AWSTAT_LEN 0 with awArmed := false } : Hw).rd g k = h.rd g k :=
    fun g k hk => Hw.rd_wr_other h F.EFT_AWSTAT_LEN g 0 0 k hk
  have l : List.range 2 = [0, 1] := rfl
  rw [l]
  simp only [List.any_cons, List.any_nil, key F.EFT_UNC_BASE_EN 0 (by decide), key F.EFT_UNC_BASE_EN 1 (by decide),
    key F.EFT_UNC_BASE_ADDR 0 (by decide), key F.EFT_UNC_BASE_ADDR 1 (by decide), key F.EFT_UNC_LIMIT_ADDR 0 (by decide),
    key F.EFT_UNC_LIMIT_ADDR 1 (by decide)]

theorem Hw.pageMode_waked (h : Hw) (a : Nat) :
    ({ h.wr F.EFT_AWSTAT_LEN 0 with awArmed := false } : Hw).pageMode a = h.pageMode a := by
  unfold Hw.pageMode
  have key : ({ h.wr F.EFT_AWSTAT_LEN 0 with awArmed := false } : Hw).rd F.EFT_CPMODE_MODE (a / 65536 / 32)
      = h.rd F.EFT_CPMODE_MODE (a / 65536 / 32) := by
    refine Hw.rd_wr_other h F.EFT_AWSTAT_LEN F.EFT_CPMODE_MODE 0 0 _ ?_
    simp only [FieldRef.addr]
    omega
  rw [key]

/-- The fetch of an eft that can issue hits. -/
theorem Hw.fetchAt_of_canIssue (h : Hw) (e : Fin 4) (m : Bool) (hc : h.canIssue e m = true) :
    ({ h.wr F.EFT_AWSTAT_LEN 0 with awArmed := false } : Hw).fetchAt e = (h.issued e, .ok) := by
  obtain ⟨_, hm, _, _, _, _, _, hx, hu, hp, i, hi⟩ := (Hw.canIssue_iff h e m).1 hc
  unfold Hw.fetchAt
  have he : ({ h.wr F.EFT_AWSTAT_LEN 0 with awArmed := false } : Hw).eft e = h.eft e := rfl
  simp only [he, Hw.uncached_waked, Hw.pageMode_waked, hx, hu, hp, hm]
  simp [Hw.issued, hi]

/-- What an instruction without an illegal field does where its eft can issue: its body acts on the device after the fetch,
and the eft goes on as the body's answer says. -/
theorem Hw.issue_of_canIssue (h : Hw) (e : Fin 4) (m ctl : Bool) (body : Hw → Eft → IRes) (hc : h.canIssue e m = true) :
    h.issue e m false ctl body =
      (let r := body (h.issued e) (h.eft e)
       match r.exc, r.stall, r.wait with
       | some x, _, _ => r.hw.syncExc e { ((r.hw.eft e).settle none) with pend := none } x
       | none, some w, _ => r.hw.modEft e (fun t => { t with run := .stalled, stall := w })
       | none, none, some (k, d) => r.hw.setEft e { r.eft with run := .waiting, wmask := k, waitTo := d }
       | none, none, none =>
         let u := r.eft.advance r.load r.branch
         r.hw.setEft e (match r.goto with | some g => { u with pc := g.1, slot := g.2 } | none => u)) := by
  obtain ⟨hr, hm, hs, hpe, hl, hf, ho, hx, hu, hp, i, hi⟩ := (Hw.canIssue_iff h e m).1 hc
  have hfe := Hw.fetchAt_of_canIssue h e m hc
  have he : ({ h.wr F.EFT_AWSTAT_LEN 0 with awArmed := false } : Hw).eft e = h.eft e := rfl
  have hmod : ({ h.wr F.EFT_AWSTAT_LEN 0 with awArmed := false } : Hw).modEft e Eft.landAll =
      { h.wr F.EFT_AWSTAT_LEN 0 with awArmed := false } := by
    unfold Hw.modEft
    rw [he, Eft.landAll_of_none _ hf]
    exact Hw.setEft_self _ e
  unfold Hw.issue
  simp only [Hw.takeUp_of_none h e ho, hr, hm, ne_eq, not_true_eq_false, decide_false, Bool.or_self, Bool.false_eq_true,
    if_false, hmod, ite_self, he, hs, hpe, Eft.badLoad, hfe, Option.isSome_none, Bool.and_false, loadWaits,
    Hw.issued_eft] <;> rfl

/-- An illegal field: ILLEGAL, and no effect of the body. -/
theorem Hw.issue_illegal (h : Hw) (e : Fin 4) (m ctl : Bool) (body : Hw → Eft → IRes) (hc : h.canIssue e m = true) :
    h.issue e m true ctl body =
      (h.issued e).syncExc e { ((h.eft e).settle none) with pend := none } ⟨1, (h.eft e).pc, none⟩ := by
  obtain ⟨hr, hm, hs, hpe, hl, hf, ho, hx, hu, hp, i, hi⟩ := (Hw.canIssue_iff h e m).1 hc
  have hfe := Hw.fetchAt_of_canIssue h e m hc
  have he : ({ h.wr F.EFT_AWSTAT_LEN 0 with awArmed := false } : Hw).eft e = h.eft e := rfl
  have hmod : ({ h.wr F.EFT_AWSTAT_LEN 0 with awArmed := false } : Hw).modEft e Eft.landAll =
      { h.wr F.EFT_AWSTAT_LEN 0 with awArmed := false } := by
    unfold Hw.modEft
    rw [he, Eft.landAll_of_none _ hf]
    exact Hw.setEft_self _ e
  unfold Hw.issue
  simp only [Hw.takeUp_of_none h e ho, hr, hm, ne_eq, not_true_eq_false, decide_false, Bool.or_self, Bool.false_eq_true,
    if_false, hmod, ite_self, he, hs, hpe, Eft.badLoad, hfe, loadWaits, Hw.issued_eft, if_true]

/-- An eft with no load before it and no slot goes on with the next word. -/
theorem Eft.advance_plain (u : Eft) (hp : u.pend = none) (hs : u.slot = none) : u.advance none none = u.onward := by
  cases u; simp_all [Eft.advance, Eft.settle, loadWaits, Eft.onward]

/-- A body that only leaves the eft's own registers as `u` retires. -/
theorem Hw.issue_retires (h : Hw) (e : Fin 4) (m ctl : Bool) (body : Hw → Eft → IRes) (u : Eft) (hc : h.canIssue e m = true)
    (hb : body (h.issued e) (h.eft e) = { hw := h.issued e, eft := u }) (hp : u.pend = (h.eft e).pend)
    (hs : u.slot = (h.eft e).slot) : h.issue e m false ctl body = (h.issued e).setEft e u.onward := by
  obtain ⟨_, _, hs', hp', _⟩ := (Hw.canIssue_iff h e m).1 hc
  rw [Hw.issue_of_canIssue h e m ctl body hc, hb]
  simp only
  rw [Eft.advance_plain u (hp.trans hp') (hs.trans hs')]

theorem Hw.issueReg_retires (h : Hw) (e : Fin 4) (f : Eft → Eft) (hc : h.canIssue e false = true)
    (hp : (f (h.eft e)).pend = (h.eft e).pend) (hs : (f (h.eft e)).slot = (h.eft e).slot) :
    h.issueReg e f = (h.issued e).setEft e (f (h.eft e)).onward :=
  Hw.issue_retires h e false false _ _ hc rfl hp hs

/-- A synchronous exception of an eft that can issue, with EXL clear. -/
theorem Hw.syncExc_enters (h g : Hw) (e : Fin 4) (m : Bool) (x : Exc) (hc : h.canIssue e m = true)
    (hg : g.eft e = h.eft e) (hx : (h.eft e).sr.exl = false) :
    g.syncExc e { ((g.eft e).settle none) with pend := none } x = g.enters e x.v x.epc x.efa := by
  obtain ⟨hr, hm, hs, hpe, hl, hf, _⟩ := (Hw.canIssue_iff h e m).1 hc
  unfold Hw.syncExc Hw.enterExc Hw.enters Hw.vector
  simp only [Eft.settle, hg, hx, Bool.false_eq_true, if_false]
  generalize h.eft e = t at *
  rw [Eft.landAll_of_none _ (by simpa using hf)]
  simp [hs, hr, hpe]

end Sys2Proof.Machine
end

