-- ==== Sys2Proof/Laws/Memory.lean ====
section
/-! SUPPORT. Memory: what a write leaves, and that every operation on memory keeps its canonical form. -/

namespace Sys2Proof.Machine

open Sys2Proof

/-- A byte written is read back. -/
theorem Hw.byte_setByte_same (h : Hw) (a : Nat) (v : Byte) (w : Memory.wf h.mem = true) : (h.setByte a v).byte a = v :=
  Store.get_put_same memReset w

/-- A byte written leaves every other byte alone. -/
theorem Hw.byte_setByte_other (h : Hw) {a b : Nat} (v : Byte) (hb : b ≠ a) : (h.setByte a v).byte b = h.byte b :=
  Store.get_put_other memReset hb

/-- Bytes written leave every byte outside them alone. -/
theorem Hw.byte_setBytes_other : ∀ (l : List Byte) (h : Hw) (a b : Nat), b < a ∨ a + l.length ≤ b → (h.setBytes a l).byte b = h.byte b
  | [], _, _, _, _ => rfl
  | v :: l, h, a, b, hb => by
    simp only [List.length_cons] at hb
    exact (Hw.byte_setBytes_other l (h.setByte a v) (a + 1) b (by omega)).trans (Hw.byte_setByte_other h v (by omega))

/-- Bytes written are read back. -/
theorem Hw.bytes_setBytes_same : ∀ (l : List Byte) (h : Hw) (a : Nat), Memory.wf h.mem = true → (h.setBytes a l).bytes a l.length = l
  | [], _, _, _ => rfl
  | v :: l, h, a, w => by
    have w' : Memory.wf (h.setByte a v).mem = true := Store.wf_put memReset w
    have e : ((h.setByte a v).setBytes (a + 1) l).byte a = v :=
      (Hw.byte_setBytes_other l (h.setByte a v) (a + 1) a (by omega)).trans (Hw.byte_setByte_same h a v w)
    simp only [Hw.setBytes, List.length_cons, Hw.bytes, e, Hw.bytes_setBytes_same l (h.setByte a v) (a + 1) w']

/-- A byte written keeps the form. -/
theorem Hw.wf_setByte (h : Hw) (a : Nat) (v : Byte) (w : Memory.wf h.mem = true) : Memory.wf (h.setByte a v).mem = true :=
  Store.wf_put memReset w

/-- Bytes written keep the form. -/
theorem Hw.wf_setBytes : ∀ (l : List Byte) (h : Hw) (a : Nat), Memory.wf h.mem = true → Memory.wf (h.setBytes a l).mem = true
  | [], _, _, w => w
  | v :: l, h, a, w => Hw.wf_setBytes l (h.setByte a v) (a + 1) (Hw.wf_setByte h a v w)

/-- A zero fill keeps the form. -/
theorem Hw.wf_zeroMem (h : Hw) (lo hi : Nat) (w : Memory.wf h.mem = true) : Memory.wf (h.zeroMem lo hi).mem = true :=
  Store.wf_drop memReset (fun a => decide (lo ≤ a) && decide (a < hi)) w

/-- A reset keeps the form. -/
theorem Hw.wf_chipReset (h : Hw) (por : Bool) (w : Memory.wf h.mem = true) : Memory.wf (h.chipReset por).mem = true := by
  unfold Hw.chipReset
  dsimp only
  split
  · rfl
  · exact Store.wf_drop memReset (fun a => !(decide (a < 0x01000000) && h.domState (4 + a / 0x100000) == .retain)) w

end Sys2Proof.Machine
end

