-- ==== Sys2Proof/WellFormed.lean ====
section
/-! DEFINITION. Well-formed commands: the operands that their types do not bound lie in the ranges that the spec gives them.
The block takes every command; the senders of the spec send only well-formed ones. -/

namespace Sys2Proof

/-- A request of a master (05 R166 to R178): a small ID, a 32-bit address, accesses of 1, 2, 4, 8 or 16 bytes, bursts of up to
16 beats of 16 bytes, naturally aligned; a write carries its bytes and a read none. -/
def MReq.wf (r : MReq) : Bool :=
  decide (r.id < 16) && decide (r.addr < 2 ^ 32) && [1, 2, 4, 8, 16].contains r.size && decide (1 ≤ r.beats) && decide (r.beats ≤ 16)
    && (decide (r.beats = 1) || decide (r.size = 16)) && decide (r.addr % r.size = 0)
    && decide (r.data.length = if r.write then r.size * r.beats else 0)

/-- The data bytes that a DLC counts: up to 8 in a classic frame, up to 64 in an FD frame (18 R620). -/
def canBytes (fdf : Bool) (dlc : Nat) : Nat :=
  if dlc ≤ 8 then dlc else if !fdf then 8 else [12, 16, 20, 24, 32, 48, 64].getD (dlc - 9) 64

/-- A CAN frame: an identifier of 11 or 29 bits, a DLC of 4 bits, its data; a remote frame is classic and carries none. -/
def CanFrame.wf (f : CanFrame) : Bool :=
  decide (f.id < if f.ide then 2 ^ 29 else 2 ^ 11) && decide (f.dlc < 16) && !(f.rtr && f.fdf) && (f.fdf || !f.brs)
    && decide (f.data.length = if f.rtr then 0 else canBytes f.fdf f.dlc)

/-- A packet of the link (17 R591): types, nodes, tags and fragments in a byte each, at most 1,016 bytes of payload. -/
def LPkt.wf (p : LPkt) : Bool :=
  decide (p.kind < 16) && decide (p.dst < 128) && decide (p.src < 128) && decide (p.tag < 256) && decide (p.frag < 256)
    && decide (p.payload.length ≤ 1016)

/-- A 24-bit audio word. -/
def fits24 (v : Int) : Bool := decide (-(2 ^ 23) ≤ v) && decide (v < 2 ^ 23)

/-- A superframe (17 R571): its fields in their widths, its packets well-formed. -/
def SFrame.wf (f : SFrame) : Bool :=
  decide (f.sfn < 2 ^ 16) && decide (f.hops < 256) && decide (f.nodes < 256) && decide (f.srcId < 256) && decide (f.sysTime < 2 ^ 64)
    && decide (f.corr < 2 ^ 32) && decide (f.beam < 2 ^ 64) && decide (f.beamSeq < 2 ^ 16) && decide (f.lrxd < 256)
    && decide (f.blat < 2 ^ 24) && decide (f.bunt.length ≤ 4)
    && f.bunt.all (fun e => decide (e.1 < 8) && decide (e.2.1 < 256) && decide (e.2.2 < 2 ^ 48)) && decide (f.audio.length ≤ 32)
    && f.audio.all (fun w => match w with | some v => fits24 v | none => true) && f.packets.all LPkt.wf

/-- What a read of work memory meets: the syndrome is 8 bits wide (05 R161). -/
def Ecc.wf : Ecc → Bool
  | .clean => true
  | .single k => decide (k < 256)
  | .double k => decide (k < 256)

/-- A request packet: at most 4,100 bytes of parameters (04 R119). -/
def EngReq.wf (r : EngReq) : Bool := decide (r.par.length ≤ 4100)

/-- A background task's slot. -/
def BgSlot.wf : BgSlot → Bool
  | .patrol _ e => e.wf
  | .writeback _ e => e.wf
  | .refresh _ => true
  | .wearMove => true
  | .phy => true
  | .telemetry => true

/-- The end of an I2C transfer: at most 32 bytes received, and no more than were completed (18 R640). -/
def I2cEnd.wf (e : I2cEnd) : Bool := decide (e.received.length ≤ 32) && decide (e.received.length ≤ e.count)

/-- The address of a 32-bit register of a peripheral block (02 R32). -/
def regAddress (a : Nat) : Bool := decide (0x04000000 ≤ a) && decide (a < 0x04170000) && decide (a % 4 = 0)

/-- A well-formed command. -/
def Instr.wf : Instr → Bool
  | .hello req => req.wf
  | .select req => req.wf
  | .status req => req.wf
  | .resetSoft req => req.wf
  | .powerState req => req.wf
  | .domainSet req => req.wf
  | .retainSet req => req.wf
  | .wakeConfig req => req.wf
  | .domainGet req => req.wf
  | .runsetWrite req => req.wf
  | .startPolicy req => req.wf
  | .imageBegin req => req.wf
  | .imageData req => req.wf
  | .imageEnd req => req.wf
  | .imageBootFlash req => req.wf
  | .appStart req => req.wf
  | .appStop req => req.wf
  | .imageInfo req => req.wf
  | .penCellSet req => req.wf
  | .penCellEnable req => req.wf
  | .penStoreWrite req => req.wf
  | .penPaletteWrite req => req.wf
  | .penMode req => req.wf
  | .penAlarmClear req => req.wf
  | .penGapSet req => req.wf
  | .sigtabWrite req => req.wf
  | .avasConfig req => req.wf
  | .penStatus req => req.wf
  | .gpioOwnSet req => req.wf
  | .gpioOwnGet req => req.wf
  | .gpioWrite req => req.wf
  | .gpioRead req => req.wf
  | .ledgerCapSet req => req.wf
  | .ledgerQuery req => req.wf
  | .ledgerShedOrder req => req.wf
  | .ledgerCommit req => req.wf
  | .nvmRead req => req.wf
  | .nvmWrite req => req.wf
  | .nvmWear req => req.wf
  | .calWrite req => req.wf
  | .restoreFactory req => req.wf
  | .factoryLock req => req.wf
  | .secretStore req => req.wf
  | .linkEnum req => req.wf
  | .linkStatus req => req.wf
  | .linkPolicy req => req.wf
  | .linkPrbs req => req.wf
  | .linkForward req => req.wf
  | .matrixRelease req => req.wf
  | .resetSystem req => req.wf
  | .bankRetire req => req.wf
  | .eftRestart req => req.wf
  | .recoveryLog req => req.wf
  | .debugOpen req => req.wf
  | .debugStatus req => req.wf
  | .lifecycleSet req => req.wf
  | .keyhashProgram req => req.wf
  | .keyhashRevoke req => req.wf
  | .telemRead req => req.wf
  | .telemConfig req => req.wf
  | .eventLog req => req.wf
  | .spRequest bytes => decide (0 < bytes.length)
  | .spRead _ => true
  | .spPsbRead => true
  | .spFramingError => true
  | .hpRequest _ bytes => decide (0 < bytes.length)
  | .hpRead _ _ => true
  | .hpPsbRead => true
  | .hpFramingError => true
  | .mbxSend _ _ => true
  | .mbxRequestCopied => true
  | .mbxRequestWrite _ _ _ => true
  | .mbxRfree _ => true
  | .mbxReplyPlaced => true
  | .lkSlotTimeout _ => true
  | .dpDrScan _ _ => true
  | .classNBegin => true
  | .jobComplete => true
  | .railDip => true
  | .porRelease => true
  | .pinReset => true
  | .tapReset => true
  | .coldStart => true
  | .imageVerifyDone flash => decide (flash.length ≤ 16777216)
  | .autorunStart => true
  | .powerTransitionDone => true
  | .domainWaveDone => true
  | .domainOffDone => true
  | .masterDrainTimeout => true
  | .bankZeroFillDone _ => true
  | .spCsWake => true
  | .wakeBall => true
  | .gpioWake _ => true
  | .linkActivityWake _ => true
  | .tmrAlm0 _ => true
  | .tmrAlm1 _ => true
  | .wideUpperWrite _ => true
  | .wideLowerRead _ => true
  | .lscSwitch => true
  | .lscCrystalFail => true
  | .xt24Ready => true
  | .xt24Fail => true
  | .pllSysLock => true
  | .pllSysUnlock => true
  | .pllPixLock _ => true
  | .pllPixUnlock => true
  | .pllAudLock => true
  | .pllAudUnlock => true
  | .pllLnkLock => true
  | .pllLnkUnlock => true
  | .evtWrite _ _ _ _ => true
  | .evtenWrite _ _ _ => true
  | .commitArm _ _ _ _ => true
  | .commitDisarm _ _ _ _ _ => true
  | .registerWrite _ addr _ _ => regAddress addr
  | .stoppedTransfer => true
  | .matrixRequest req => req.wf
  | .matrixResponse _ ecc => ecc.wf
  | .heldRequestPresented _ => true
  | .requestAgePromotion _ => true
  | .stallRelease _ => true
  | .stallTimeout _ => true
  | .pathHoldTimeout _ beats => decide (beats ≤ 16)
  | .bankRetirement _ => true
  | .creditGain _ => true
  | .scrubStormEnd _ => true
  | .bankSleepEntry _ => true
  | .bankWakeAhead _ => true
  | .bankWakeDone _ => true
  | .retentionRefresh _ => true
  | .patrolScrub _ ecc => ecc.wf
  | .eccWriteback _ ecc => ecc.wf
  | .backgroundForcedSlot slot => slot.wf
  | .wearMove => true
  | .phyCalibrationStep => true
  | .telemetrySample => true
  | .nvmRowWriteDone _ => true
  | .add _ _ _ _ => true
  | .addc _ _ _ _ => true
  | .sub _ _ _ _ => true
  | .subb _ _ _ _ => true
  | .andCmd _ _ _ _ => true
  | .orCmd _ _ _ _ => true
  | .xorCmd _ _ _ _ => true
  | .shl _ _ _ _ => true
  | .shr _ _ _ _ => true
  | .sar _ _ _ _ => true
  | .ror _ _ _ _ => true
  | .cmp _ _ _ => true
  | .tst _ _ _ => true
  | .mov _ _ _ => true
  | .notCmd _ _ _ => true
  | .neg _ _ _ => true
  | .extB _ _ _ => true
  | .extH _ _ _ => true
  | .zxB _ _ _ => true
  | .zxH _ _ _ => true
  | .minCmd _ _ _ _ => true
  | .maxCmd _ _ _ _ => true
  | .clz _ _ _ => true
  | .addi _ _ _ _ => true
  | .andi _ _ _ _ => true
  | .ori _ _ _ _ => true
  | .xori _ _ _ _ => true
  | .cmpi _ _ _ => true
  | .movi _ _ _ => true
  | .lui _ _ _ => true
  | .shi _ _ _ _ _ _ => true
  | .addiA _ _ _ _ => true
  | .luiA _ _ _ => true
  | .addA _ _ _ _ => true
  | .subA _ _ _ _ => true
  | .movA _ _ _ => true
  | .cmpA _ _ _ => true
  | .mulH _ _ _ _ => true
  | .macH _ _ _ _ => true
  | .msuH _ _ _ _ => true
  | .mulW _ _ _ _ => true
  | .macW _ _ _ _ => true
  | .msuW _ _ _ _ => true
  | .clrAcc _ _ => true
  | .addAcc _ _ _ => true
  | .shaAcc _ _ _ => true
  | .movDa _ _ _ => true
  | .movAd _ _ _ => true
  | .rdAcc _ _ _ _ => true
  | .wrAcc _ _ _ _ => true
  | .ld _ _ _ _ _ _ ecc => ecc.wf
  | .ldu _ _ _ _ _ _ ecc => ecc.wf
  | .st _ _ _ _ _ _ ecc => ecc.wf
  | .ldA _ _ _ _ _ _ ecc => ecc.wf
  | .stA _ _ _ _ _ _ ecc => ecc.wf
  | .ldl _ _ _ _ _ _ ecc => ecc.wf
  | .stul _ _ _ _ _ _ ecc => ecc.wf
  | .bcc _ _ _ _ => true
  | .bsr _ _ _ _ => true
  | .dbnz _ _ _ _ => true
  | .jmpA _ _ _ => true
  | .jmpT _ _ _ => true
  | .nop _ => true
  | .sync _ => true
  | .wait _ _ _ => true
  | .poll _ _ _ => true
  | .signal _ _ => true
  | .signalD _ _ => true
  | .trap _ _ => true
  | .brk _ => true
  | .rte _ => true
  | .mfsr _ _ => true
  | .mtsr _ _ => true
  | .mfx _ _ _ => true
  | .mtx _ _ _ => true
  | .cacheCleanLine _ _ => true
  | .cacheInvalidateLine _ _ => true
  | .cacheCleanInvalidateLine _ _ => true
  | .cacheInvalidateIline _ _ => true
  | .cacheCleanAll _ => true
  | .cacheInvalidateIcache _ => true
  | .ei _ => true
  | .di _ => true
  | .cop _ _ _ _ _ => true
  | .copr _ _ _ => true
  | .coprP _ _ _ => true
  | .interruptEntry _ => true
  | .storeErrorDbus _ => true
  | .waitRelease => true
  | .eftStallEnd _ => true
  | .allwaitFire => true
  | .eftFlagsetWrite _ _ => true
  | .blockIrqRise _ => true
  | .tmodeWord _ _ ecc => ecc.wf
  | .tAdd _ _ _ => true
  | .tAddc _ _ _ => true
  | .tSub _ _ _ => true
  | .tSubb _ _ _ => true
  | .tAnd _ _ _ => true
  | .tOr _ _ _ => true
  | .tXor _ _ _ => true
  | .tMin _ _ _ => true
  | .tMax _ _ _ => true
  | .tCmp _ _ _ => true
  | .tTst _ _ _ => true
  | .tShl _ _ _ => true
  | .tShr _ _ _ => true
  | .tSar _ _ _ => true
  | .tRor _ _ _ => true
  | .tMulH _ _ _ _ => true
  | .tMacH _ _ _ _ => true
  | .tMsuH _ _ _ _ => true
  | .tMulW _ _ _ _ => true
  | .tMacW _ _ _ _ => true
  | .tMsuW _ _ _ _ => true
  | .tLoad _ _ _ _ ecc => ecc.wf
  | .tStore _ _ _ _ ecc => ecc.wf
  | .tBra _ _ _ => true
  | .tBrc _ _ _ => true
  | .tJmpt _ _ _ => true
  | .tJmpa _ _ _ => true
  | .tJsrt _ _ _ => true
  | .tJsra _ _ _ => true
  | .tEvWait _ _ _ => true
  | .tEvPoll _ _ _ => true
  | .tEvSig _ _ _ => true
  | .tSync _ _ _ => true
  | .tTrap _ _ _ => true
  | .tBrk _ _ _ => true
  | .tRte _ _ _ => true
  | .tCache _ _ _ => true
  | .tCsCmd _ _ _ _ => true
  | .tCsResRead _ _ _ _ => true
  | .listRun => true
  | .anoSlotStatus => true
  | .fenceWait => true
  | .keyOn => true
  | .keyOff => true
  | .pitch => true
  | .pos => true
  | .div => true
  | .divu => true
  | .sqrt => true
  | .sincos => true
  | .atan2 => true
  | .recip => true
  | .sadd => true
  | .ssub => true
  | .smul => true
  | .swtrig => true
  | .varMarkCmd => true
  | .varStateCmd => true
  | .stime => true
  | .copResultReady _ => true
  | .copRemoteTimeout _ _ _ => true
  | .lineStart _ _ => true
  | .flipGroupFault _ => true
  | .flipGroupReadyTransfer _ => true
  | .camStaleFill => true
  | .lnlRecordWrites _ => true
  | .affineTexelLoad => true
  | .composeLineBegin => true
  | .lineBufferUnderflow first count => decide (first + count ≤ 4096)
  | .timRunStart _ => true
  | .timRunStop _ => true
  | .seamEnd _ => true
  | .xsyncEdge _ _ _ => true
  | .referenceMissing => true
  | .lockAcquired => true
  | .pennantCheckComplete => true
  | .pennantGapTimeout _ => true
  | .penRefDone _ => true
  | .histogramSwap => true
  | .cmpFencesetWrite _ => true
  | .cameraTimingCode _ px _ => px.all (fun v => decide (v < 65536))
  | .cameraEavTimeout => true
  | .captureFrameComplete => true
  | .anoGo _ => true
  | .anoLgo _ => true
  | .anoStop _ => true
  | .anoOpDone => true
  | .anoNop => true
  | .anoSrc => true
  | .anoDst => true
  | .anoPen => true
  | .anoMode => true
  | .anoClip => true
  | .anoCopy => true
  | .anoFill => true
  | .anoExpand => true
  | .anoLine => true
  | .anoTri => true
  | .anoFence => true
  | .anoFwait => true
  | .anoFwaitRelease => true
  | .anoMark => true
  | .anoJump => true
  | .anoEnd => true
  | .samplePeriodBoundary => true
  | .voiceChunkArrival _ => true
  | .voicePrimeTimeout _ => true
  | .voiceFadeEnd _ => true
  | .meterWindowEnd _ _ => true
  | .meterHoldFallback _ => true
  | .meterCfgWrite _ _ => true
  | .pennantSoundAudit => true
  | .as1ReadbackMismatch left right => fits24 left && fits24 right
  | .as1SilenceTimeout => true
  | .canFrameReceived frame _ => frame.wf
  | .canProtocolException => true
  | .signalTimeout _ => true
  | .canTxRequest _ _ _ => true
  | .canTxAbort _ => true
  | .canTxComplete => true
  | .canRxfAck _ _ frame _ => (frame.map CanFrame.wf).getD true
  | .canBusOff => true
  | .canBusRecovery => true
  | .varStreamStart _ _ => true
  | .varStreamStop _ => true
  | .varSwtrig _ => true
  | .varRecordComplete _ _ _ => true
  | .varAutoRelax _ => true
  | .trigInputEdge _ _ => true
  | .trigPulseEnd _ => true
  | .gpioInputEdge _ _ => true
  | .gpiOutWrite _ _ _ => true
  | .gpiOeWrite _ _ _ => true
  | .gpiPinWrite _ _ _ => true
  | .bankSupplyFault _ => true
  | .xspCmdGo _ _ => true
  | .xspCmdDone _ => true
  | .xspDmaGo _ => true
  | .xspDmaDone _ => true
  | .xspLineFillDone _ data => decide (data.length = 64)
  | .i2cXferGo _ _ completes => (completes.map I2cEnd.wf).getD true
  | .i2cXferDone _ ending => ending.wf
  | .i2cSclTimeout _ count received => decide (received.length ≤ count)
  | .uartTxPush _ _ => true
  | .uartRxPop _ _ => true
  | .uartRxFrame _ _ _ _ _ => true
  | .pwmPeriodStart _ => true
  | .as0InputFrame words => words.all fits24
  | .linkSignalDetect _ => true
  | .portUp _ _ _ partnerNode => decide (partnerNode < 128)
  | .portDown _ _ => true
  | .pathLost => true
  | .superframeReceived _ frame subTick _ => frame.wf && decide (subTick < 10000)
  | .delayExchange _ _ _ => true
  | .buntingRequest _ => true
  | .buntingLanding => true
  | .cmdreqPacket _ packet => packet.wf
  | .cmdrepPacket _ packet => packet.wf
  | .wrdPacket _ packet => packet.wf
  | .wwrPacket _ packet => packet.wf
  | .wrspPacket _ packet => packet.wf
  | .copreqPacket _ packet => packet.wf
  | .coprspPacket _ packet => packet.wf
  | .linkPacketRetry _ _ => true
  | .windowBusyRetry _ _ => true
  | .windowTimeout _ _ => true
  | .linkPrbsDone _ _ _ _ => true
  | .linkEnumTimeout => true
  | .linkForwardTimeout => true
  | .flashHeaderTimeout => true
  | .undefinedInstruction _ => true
  | .instructionFetchRefused _ => true
  | .canBusError _ => true
  | .uartTxFrameSent _ => true
  | .gpioInputChange _ _ => true
  | .lineBufferWatermarkBelow level => decide (level < 65536)
  | .fuseBlowDone _ => true

end Sys2Proof
end

