-- ==== Sys2Proof/Tests/Slice0.lean ====
section
/-! SUPPORT. Tests: ill-formed commands that the checks refuse, worked examples of the spec, and for every statement with
hypotheses concrete states and operands that meet them. -/

set_option Elab.async false

namespace Sys2Proof.Tests

open Sys2Proof Sys2Proof.Machine

/-! ## States -/

/-- The reset machine with every power domain on, in RUN. -/
def lit : Hw :=
  let h := State.reset.hw
  let h := { h with pwr := { h.pwr with dom := h.pwr.dom.map fun _ => Dom.on } }
  h.wr F.SYS_STATE_STATE 2

/-- `lit` with engine `e` READY at 1000H in mode `m` (T when true), its line in the instruction cache. -/
def core (e : Fin 4) (m : Bool) (f : Eft → Eft) : State :=
  let h := lit.setEft e (f (Eft.start 0x1000#32 m))
  let h := { h with caches := { h.caches with ilines := [(setOf 0x1000 * 4 + 1, lineOf 0x1000)] } }
  { State.reset with hw := if m then h.wr F.EFT_CPMODE_MODE 1 0 else h }

/-- A state with its hardware changed by `g`. -/
def tweak (g : Hw → Hw) (s : State) : State := { s with hw := g s.hw }

/-- A state with `lit` and an empty queue. -/
def here : State := { State.reset with hw := lit }

/-- Changes of a state's power record and of its command engine. -/
def pw (f : Pwr → Pwr) (s : State) : State := tweak (fun h => { h with pwr := f h.pwr }) s
def en (f : Eng → Eng) (s : State) : State := tweak (fun h => { h with eng := f h.eng }) s
def nv (f : Nv → Nv) (s : State) : State := { s with nv := f s.nv }

/-- A field written. -/
def put (f : FieldRef) (v : Nat) (s : State) (k : Nat := 0) : State := tweak (fun h => h.wr f v k) s

/-- The bytes of a number, big-endian. -/
def wide (n : Nat) : List Byte := (leBytes 32 n).reverse

/-- An image of 768 bytes at 1000H: a header, a pin table of zeros, an empty pennant section, the base point of P-256 as its key,
its signature with the private key 1 and the nonce 1. -/
def image : List Byte :=
  [0x47#8, 0x56#8, 0x49#8, 0x4D#8] ++ leBytes 4 1 ++ leBytes 4 768 ++ leBytes 4 7 ++ leBytes 4 0x1000 ++ leBytes 4 0x1000 ++ leBytes 4 0x1000
    ++ List.replicate 48 0#8 ++ leBytes 4 0x100 ++ leBytes 4 0x280 ++ List.replicate 556 0#8
    ++ wide p256G.1 ++ wide p256G.2 ++ wide (p256G.1 % p256N) ++ wide 0xA725FD4286D842BD76BF2857763CBC5FE14110B0928AC44F055AC2F24A78AEB

/-- The hash of its key. -/
def imageKey : Nat := 0x9F0DB5CBF5EED6FE24DFF4D80F5D2F14803EBBB0C638C7AE362223EF7DDB75D8

/-- Its key programmed in slot 0, and the image wholly received. -/
def imaged (n : Nv) : Nv := { n with prg := 1, kh := [imageKey, 0, 0, 0] }

/-- A state in which port `n` of the command engine has its session SELECTED with every feature, and no start is in progress. -/
def selected (n : Nat) : State :=
  en (fun e => { e with ports := e.ports.modify n fun p => { p with session := 2, mask := 0x3FFFF, rxmax := 4096 } })
    (pw (fun p => { p with starting := false, stage := 0 }) here)

/-- A request at the safety port. -/
def ask (par : List Byte) : EngReq := ⟨.sp, 9#8, 0#8, par⟩

/-! ## Helpers -/

/-- What holds after a command that answers a next state. -/
def after (i : Instr) (s : State) (f : State → Bool) : Bool :=
  match exec i s with
  | .next t => f t
  | _ => false

/-! ## Ill-formed commands -/

/-- A request that is well-formed, and requests that fail each check. -/
theorem test_wf_request :
    let r : MReq := ⟨1, 0, 0x10, true, 16, 1, zeros 16, false, false⟩
    r.wf = true ∧ MReq.wf { r with id := 16 } = false ∧ MReq.wf { r with addr := 2 ^ 32 } = false ∧
      MReq.wf { r with size := 3 } = false ∧ MReq.wf { r with beats := 0 } = false ∧ MReq.wf { r with beats := 17 } = false ∧
      MReq.wf { r with size := 4, beats := 2 } = false ∧ MReq.wf { r with addr := 8 } = false ∧
      MReq.wf { r with write := false } = false ∧ MReq.wf { r with data := zeros 15 } = false ∧
      (Instr.matrixRequest { r with addr := 8 }).wf = false := by decide +kernel

theorem test_wf_can_frame :
    let f : CanFrame := ⟨false, 0x7FF, false, true, true, false, 9, zeros 12⟩
    f.wf = true ∧ CanFrame.wf { f with id := 0x800 } = false ∧ CanFrame.wf { f with ide := true, id := 2 ^ 29 } = false ∧
      CanFrame.wf { f with dlc := 16 } = false ∧ CanFrame.wf { f with rtr := true } = false ∧
      CanFrame.wf { f with fdf := false } = false ∧ CanFrame.wf { f with data := zeros 9 } = false ∧
      (Instr.canFrameReceived { f with dlc := 16 } 0#32).wf = false := by decide +kernel

theorem test_wf_link :
    let p : LPkt := ⟨15, 127, 127, 255, 255, true, zeros 1016, true⟩
    let f : SFrame := {
      sfn := 0, tv := true, bv := true, enm := false, turn := false, ring := false, hops := 0, nodes := 2, srcId := 0,
      sysTime := 0, corr := 0, beam := 0, beamSeq := 0, lrxd := 2, blat := 4294, bunt := [], audio := [some (-8388608), none],
      hcrcOk := true, acrcOk := true, packets := [p] }
    p.wf = true ∧ LPkt.wf { p with kind := 16 } = false ∧ LPkt.wf { p with dst := 128 } = false ∧ LPkt.wf { p with src := 128 } = false ∧
      LPkt.wf { p with tag := 256 } = false ∧ LPkt.wf { p with frag := 256 } = false ∧ LPkt.wf { p with payload := zeros 1017 } = false ∧
      f.wf = true ∧ SFrame.wf { f with sfn := 65536 } = false ∧ SFrame.wf { f with hops := 256 } = false ∧
      SFrame.wf { f with nodes := 256 } = false ∧ SFrame.wf { f with srcId := 256 } = false ∧
      SFrame.wf { f with sysTime := 2 ^ 64 } = false ∧ SFrame.wf { f with corr := 2 ^ 32 } = false ∧
      SFrame.wf { f with beam := 2 ^ 64 } = false ∧ SFrame.wf { f with beamSeq := 65536 } = false ∧
      SFrame.wf { f with lrxd := 256 } = false ∧ SFrame.wf { f with blat := 2 ^ 24 } = false ∧
      SFrame.wf { f with bunt := [(8, 0, 0)] } = false ∧ SFrame.wf { f with bunt := [(0, 256, 0)] } = false ∧
      SFrame.wf { f with bunt := [(0, 0, 2 ^ 48)] } = false ∧ SFrame.wf { f with bunt := List.replicate 5 (0, 0, 0) } = false ∧
      SFrame.wf { f with audio := List.replicate 33 none } = false ∧
      SFrame.wf { f with audio := [some 8388608] } = false ∧ SFrame.wf { f with packets := [{ p with kind := 16 }] } = false := by
  decide +kernel

theorem test_wf_small :
    (Ecc.single 255).wf = true ∧ (Ecc.single 256).wf = false ∧ (Ecc.double 256).wf = false ∧ (BgSlot.patrol 0 (.single 256)).wf = false ∧
      (EngReq.mk .sp 0 0 (zeros 4101)).wf = false ∧ (I2cEnd.mk 0 33 (zeros 33)).wf = false ∧ (I2cEnd.mk 0 1 (zeros 2)).wf = false ∧
      (I2cEnd.mk 0 2 (zeros 2)).wf = true := by decide +kernel

theorem test_wf_operands :
    (Instr.registerWrite 2 0x04030002 0#32 .quiet).wf = false ∧ (Instr.registerWrite 2 0x03FFFFFC 0#32 .quiet).wf = false ∧
      (Instr.registerWrite 2 0x04170000 0#32 .quiet).wf = false ∧ (Instr.spRequest []).wf = false ∧ (Instr.hpRequest false []).wf = false ∧
      (Instr.lineBufferUnderflow 4096 1).wf = false ∧ (Instr.lineBufferWatermarkBelow 65536).wf = false ∧
      (Instr.portUp 0 0 true 128).wf = false ∧ (Instr.as0InputFrame [8388608]).wf = false ∧
      (Instr.as1ReadbackMismatch 0 (-8388609)).wf = false ∧ (Instr.xspLineFillDone 0 (zeros 63)).wf = false ∧
      (Instr.pathHoldTimeout none 17).wf = false ∧ (Instr.cameraTimingCode 0#8 [65536] false).wf = false ∧
      (Instr.i2cSclTimeout 0 1 (zeros 2)).wf = false := by decide +kernel

/-! ## The spec's worked examples -/

/-- 04 R118: the CRC of "123456789". -/
theorem test_crc16 : crc16 ((List.range 9).map fun i => BitVec.ofNat 8 (0x31 + i)) = 0x29B1 := by decide +kernel

/-- 12 R421: the CRC of "123456789". -/
theorem test_crc32 : crc32 ((List.range 9).map fun i => BitVec.ofNat 8 (0x31 + i)) = 0xCBF43926 := by decide +kernel

/-- 02, a line-buffer reserve that dips twice: THRESH 512, HYST 32. -/
theorem test_watermark :
    let h := (lit.wr F.TIM_LBWM_CFG_THRESH 512).wr F.TIM_LBWM_CFG_HYST 32
    let r := [900, 480, 530, 600, 400, 700].foldl (fun (h : Hw) n => h.watermark bTIM 0x04030084 0x04030088 0x04030080 3 n) h
    r.rdB F.TIM_LBWM_STAT_BELOW = false ∧ getBits (r.reg 0x04030088) 31 16 = 2 ∧ getBits (r.reg 0x04030088) 15 0 = 400 ∧
      bit (r.rd (evtF bTIM)) 3 = true := by decide +kernel

/-- 04, the safety host wakes the cluster device: HELLO is answered with 24 bytes, LIFE 1 and OFFER 0002FFFFH. -/
theorem test_hello :
    after (.hello ⟨.sp, 0#8, 0#8, [1, 0, 0, 1]⟩)
      (nv (fun n => { n with life := 1 }) (pw (fun p => { p with starting := false, stage := 0 }) here)) (fun t =>
      let p := ((t.sys.port 0).ready.getD [])
      decide (p.length = 32 ∧ byteAt p 2 = 0 ∧ byteAt p 13 = 1 ∧ fieldAt p 18 4 = 0x2FFFF)) = true := by decide +kernel

/-- 07, smoothing the speed needle: the last MAC.H, and RD.ACC. -/
theorem test_mac :
    after (.macH 1 0 1 2) (core 1 false fun t => { t with d := (t.d.set 1 5000#32).set 2 4096#32, acc := t.acc.set 0 143360000#48 })
      (fun t => (t.hw.eft 1).acc[0] = 163840000#48) = true := by decide +kernel

theorem test_read_accumulator :
    after (.rdAcc 1 4 0 15) (core 1 false fun t => { t with acc := t.acc.set 0 163840000#48 })
      (fun t => (t.hw.eft 1).d[4] = 5000#32) = true := by decide +kernel

/-- 07: DBNZ takes D0 from 1 to 0 and does not branch. -/
theorem test_dbnz :
    after (.dbnz 1 false 0 0x1FFFFD#21) (core 1 false fun t => { t with d := t.d.set 0 1#32 })
      (fun t => (t.hw.eft 1).d[0] = 0#32 && (t.hw.eft 1).pc = 0x1004#32) = true := by decide +kernel

/-- 08, the needle's tip: an arithmetic shift rounds toward minus infinity. -/
theorem test_sar :
    after (.sar 1 2 1 3) (core 1 false fun t => { t with d := (t.d.set 1 (BitVec.ofInt 32 (-992008095))).set 3 14#32 })
      (fun t => (t.hw.eft 1).d[2] = BitVec.ofInt 32 (-60548)) = true := by decide +kernel

/-- 09, the cargo display locks to the cluster: 396,003 pixel clocks early and 30 ppm fast, the blanking grows by 300 lines and
28 pixels. -/
theorem test_jump :
    (lit.modTim fun t => { t with ras := ⟨1280, 10, 10, 20, 600, 10, 5, 10, 49500, 0⟩, refGap := 26667475 }).jumpLength (-396003) =
      300 * 1320 + 28 := by decide +kernel

/-- 10, the reverse camera: BT.709 limited range. -/
theorem test_ycbcr : ycbcr true false 126 128 128 = rgb 128 128 128 ∧ ycbcr true false 81 90 240 = rgb 255 24 0 := by decide +kernel

/-- 10: the source weights of output columns 0 to 2. -/
theorem test_scaling :
    (scaleTaps 0 87381 1280).1 = [(0, 64), (1, 21)] ∧ (scaleTaps 1 87381 1280).1 = [(1, 42), (2, 42)] ∧
      (scaleTaps 2 87381 1280).1 = [(2, 21), (3, 63)] := by decide +kernel

/-- 11, the route map over the plan: the entries of the list. -/
theorem test_line_list :
    lnlKind 0x40000000 0 = 1 ∧ lnlKind 0x01000104 0x00200000 = 0 ∧ lnlKind 0x40000168 0 = 1 ∧ lnlKind 0x80000000 0 = 2 ∧
      lnlTarget 0x0100010C = some 0x0404010C := by decide +kernel

/-- 14, AVAS at walking speed: the pitch and the level at 5.00 km/h. -/
theorem test_avas :
    let pts := [(0, 4096, 39322), (1000, 5120, 52429), (2000, 6144, 65535), (3000, 6144, 65535)]
    avasInterp pts (·.2.1) 500 * 16 = 0x12000 ∧ avasInterp pts (·.2.2) 500 = 45875 := by decide +kernel

/-- 15, the reverse chime over loud radio: the limiter's gain, and what leaves it eight periods later. -/
theorem test_limiter :
    let l := (limitStep ⟨List.replicate 8 (0, 0), 32768⟩ 0x400000 0x20 false (6000000, 0)).1
    let l8 := (List.range 7).foldl (fun l _ => (limitStep l 0x400000 0x20 false (0, 0)).1) l
    l.gain = 22906 ∧ (limitStep l8 0x400000 0x20 false (0, 0)).2.1 = 4194213 := by decide +kernel

/-- 17, the cargo device joins the cluster: LRXD and BLAT at a hop delay of 28.6 ns. -/
theorem test_link_timing : linkTiming 28600 = (2, 4294) := by decide +kernel

/-! ## Witnesses that need more than evaluation -/

/-- A state whose wear reserve has one free row, 100,000 writes above the mapped rows. -/
def worn : State :=
  nv (fun n => { n with fresh := 32768, freed := [40000], map := [], counts := [(40000, 100000)] }) here

theorem leastBy_of_zero (f : Nat → Nat) (a : Nat) (l : List Nat) (h : f a = 0) : leastBy f (a :: l) = some a := by
  simp only [leastBy]
  split
  · rfl
  · simp [h]

theorem leastBy_single (f : Nat → Nat) (a : Nat) : leastBy f [a] = some a := by simp [leastBy]

theorem mappedRows_of_identity (n : Nv) (h : n.phys 0 = 0) : ∃ l, n.mappedRows false = 0 :: l := by
  simp [Nv.mappedRows, List.range_succ_eq_map (n := 511), h]

/-- The wear move of a pool whose row 0 was never written and whose one free row was, often. -/
theorem wearPick_of_single (n : Nv) (p l : Nat) (h0 : n.phys 0 = 0) (h1 : n.count 0 = 0)
    (h2 : (if n.fresh < 32768 then [] else n.freed) = [p]) (h3 : n.count 0 + 100000 ≤ n.count p) (h4 : n.owner 0 = some l) :
    n.wearPick false = some (l, p) := by
  obtain ⟨r, hr⟩ := mappedRows_of_identity n h0
  unfold Nv.wearPick
  rw [if_neg Bool.false_ne_true, h2, hr, leastBy_of_zero _ _ _ h1]
  dsimp only
  rw [leastBy_single, leastBy_single]
  dsimp only
  rw [if_pos h3, h4]
  rfl

/-- Meets the hypotheses of `Obligations.StoreRows` on a wear move. -/
theorem witness_StoreRows_wearMove :
    let s : State := worn
    let e := s.hw.eng
    e.wear = none ∧ s.hw.on 48 = true ∧ e.zero = false ∧ s.nv.pendingZero = none ∧ s.hw.pwr.goal ≠ .enter .deep ∧
      s.nv.wearPick false = some (0, 40000) := by
  dsimp only
  refine ⟨by decide +kernel, by decide +kernel, by decide +kernel, by decide +kernel, by decide +kernel, ?_⟩
  exact wearPick_of_single worn.nv 40000 0 (by decide +kernel) (by decide +kernel) (by decide +kernel) (by decide +kernel)
    (by decide +kernel)

/-- The bytes of the mailbox's request buffer. -/
def mailBytes (s : State) : List Byte := (List.range 1027).flatMap fun k => leBytes 4 (s.hw.rd F.MBX_REQUEST k)

/-- A state in whose mailbox a STATUS waits. -/
def mailed : State :=
  tweak (fun h => (List.range 2).foldl (fun (h : Hw) k => h.wr F.MBX_REQUEST (fieldAt
    (withCrc ([0xA5#8] ++ leBytes 1 3 ++ leBytes 2 0 ++ [9#8, 0#8])) (4 * k) 4) k) (h.wr F.MBX_CTRL_SEND 1)) (selected 2)

theorem append_drop_of_take (l a : List Byte) (n : Nat) (h : l.take n = a) : l = a ++ l.drop n := by
  rw [← h, List.take_append_drop]

theorem mailBytes_take : (mailBytes mailed).take 8 = withCrc ([0xA5#8] ++ leBytes 1 3 ++ leBytes 2 0 ++ [9#8, 0#8]) := by
  decide +kernel

/-- Meets the hypotheses of `Obligations.Mailbox` on a packet copied, with what follows the packet for `rest`. -/
theorem witness_Mailbox_copied :
    let s : State := mailed
    let q : EngReq := ⟨.mb, 9#8, 0#8, []⟩
    let rest := (mailBytes s).drop 8
    let d := s.sys
    let buffer := (List.range 1027).flatMap fun k => leBytes 4 (s.hw.rd F.MBX_REQUEST k)
    s.hw.on 2 = true ∧ s.hw.rdB F.MBX_CTRL_SEND = true ∧ d.mbListens = true ∧ q.port = .mb ∧ q.par.length ≤ 4100 ∧
      (Instr.status q, 3) ∈ engineCommands q ∧
      buffer = withCrc ([0xA5#8] ++ leBytes 1 3 ++ leBytes 2 q.par.length ++ [q.seq, q.flags] ++ q.par) ++ rest := by
  dsimp only
  refine ⟨by decide +kernel, by decide +kernel, by decide +kernel, rfl, by decide +kernel, by decide +kernel, ?_⟩
  exact append_drop_of_take (mailBytes mailed) _ 8 mailBytes_take

/-- A state with the fuse operation that revokes slot 3 in progress. -/
def blowing : State := en (fun e => { e with fuse := some (.revoke 3) }) here

/-- A step of `Obligations.FusesOnlyGrow`. -/
theorem witness_FusesOnlyGrow : ∃ t, step { blowing with pending := [.fuseBlowDone false] } = .next t ∧ t.nv.rev = 8 :=
  ⟨_, rfl, by decide +kernel⟩

/-- A store in its form and a step, for `Obligations.StoreKeepsItsForm`. -/
theorem witness_StoreKeepsItsForm :
    blowing.nv.Inv = true ∧ ∃ t, step { blowing with pending := [.fuseBlowDone false] } = .next t :=
  ⟨by decide +kernel, _, rfl⟩

/-! ## Witnesses -/

/-- Meets the hypotheses of `Obligations.RegisterOperations`, part RegisterArithmetic, clause by clause. -/
theorem witness_RegisterOperations_RegisterArithmetic :
    let s : State := core 0 false id
    let e : Fin 4 := 0
    s.hw.canIssue e false = true := by
  dsimp only
  and_intros <;> decide +kernel

/-- Meets the hypotheses of `Obligations.RegisterOperations`, part Shifts, clause by clause. -/
theorem witness_RegisterOperations_Shifts :
    let s : State := core 0 false id
    let e : Fin 4 := 0
    let high : BitVec 9 := 0x1F0#9
    s.hw.canIssue e false = true ∧ high ≠ 0#9 ∧ (s.hw.eft e).sr.exl = false := by
  dsimp only
  and_intros <;> decide +kernel

/-- Meets the hypotheses of `Obligations.RegisterOperations`, part MovesAndExtensions, clause by clause. -/
theorem witness_RegisterOperations_MovesAndExtensions :
    (let s : State := core 0 false id
     let e : Fin 4 := 0
     s.hw.canIssue e false = true) ∧
    (let s : State := core 0 false id
     let e : Fin 4 := 0
     let rs : Fin 8 := 3
     let n : Nat := 32
     let t := s.hw.eft e
     let x := t.d[rs]
     s.hw.canIssue e false = true ∧ n ≤ 32 ∧ x.toNat < 2 ^ (32 - n) ∧ (n < 32 → 2 ^ (31 - n) ≤ x.toNat)) := by
  dsimp only
  and_intros <;> decide +kernel

/-- Meets the hypotheses of `Obligations.ImmediatesAndAddresses`, part ImmediatesAndComparisons, clause by clause. -/
theorem witness_ImmediatesAndAddresses_ImmediatesAndComparisons :
    let s : State := core 0 false id
    let e : Fin 4 := 0
    s.hw.canIssue e false = true := by
  dsimp only
  and_intros <;> decide +kernel

/-- Meets the hypotheses of `Obligations.ImmediatesAndAddresses`, part AddressRegisters, clause by clause. -/
theorem witness_ImmediatesAndAddresses_AddressRegisters :
    let s : State := core 0 false id
    let e : Fin 4 := 0
    s.hw.canIssue e false = true := by
  dsimp only
  and_intros <;> decide +kernel

/-- Meets the hypotheses of `Obligations.AccumulatorOperations`, part Accumulators, clause by clause. -/
theorem witness_AccumulatorOperations_Accumulators :
    let s : State := core 0 false id
    let e : Fin 4 := 0
    s.hw.canIssue e false = true := by
  dsimp only
  and_intros <;> decide +kernel

/-- Meets the hypotheses of `Obligations.AccumulatorOperations`, part AccumulatorMoves, clause by clause. -/
theorem witness_AccumulatorOperations_AccumulatorMoves :
    (let s : State := core 0 false id
     let e : Fin 4 := 0
     let k : Fin 64 := 47
     let t := s.hw.eft e
     s.hw.canIssue e false = true ∧ k.val ≤ 47 ∧ t.sr.exl = false ∧ 16 < k.val) ∧
    (let s : State := core 0 false id
     let e : Fin 4 := 0
     let k : Fin 64 := 16
     s.hw.canIssue e false = true ∧ k.val ≤ 16) ∧
    (let s : State := core 0 false id
     let e : Fin 4 := 0
     let k : Fin 64 := 48
     let t := s.hw.eft e
     s.hw.canIssue e false = true ∧ t.sr.exl = false ∧ 47 < k.val) := by
  dsimp only
  and_intros <;> decide +kernel

/-- Meets the hypotheses of `Obligations.LocalRamAccess`, part LocalRamLoads, clause by clause. -/
theorem witness_LocalRamAccess_LocalRamLoads :
    (let e : Fin 4 := 0
     let rv : Fin 8 := 3
     let an : Fin 8 := 2
     let size : Fin 4 := 2
     let addr : Fin 4 := 0
     let disp : BitVec 16 := 4#16
     let key : Nat := 0xE0013FFC
     let s : State := core 0 false fun t => { t with a := t.a.set 2 0xE0003FF8#32 }
     let t := s.hw.eft e
     let sum := t.a[an] + disp.signExtend 32
     let a := if addr = 2 then t.a[an] else sum
     let w : Nat := 2 ^ size.val
     s.hw.canIssue e false = true ∧ addr ≠ 3 ∧ lramKey e a.toNat = some key ∧ a.toNat % w = 0 ∧ size ≠ 3 ∧ size = 2 ∧
       (rv ≠ an ∨ addr = 0) ∧ addr = 0 ∧ s.hw.caches.dlines = []) ∧
    (let e : Fin 4 := 0
     let an : Fin 8 := 2
     let size : Fin 4 := 0
     let addr : Fin 4 := 0
     let disp : BitVec 16 := 0#16
     let key : Nat := 0xE0013FFF
     let s : State := core 0 false fun t => { t with a := t.a.set 2 0xE0003FFF#32 }
     let t := s.hw.eft e
     let sum := t.a[an] + disp.signExtend 32
     let a := if addr = 2 then t.a[an] else sum
     let w : Nat := 2 ^ size.val
     s.hw.canIssue e false = true ∧ addr ≠ 3 ∧ lramKey e a.toNat = some key ∧ a.toNat % w = 0 ∧ size.val ≤ 1) := by
  dsimp only
  and_intros <;> decide +kernel

/-- Meets the hypotheses of `Obligations.LocalRamAccess`, part LocalRamStores, clause by clause. -/
theorem witness_LocalRamAccess_LocalRamStores :
    let e : Fin 4 := 0
    let an : Fin 8 := 2
    let size : Fin 4 := 2
    let addr : Fin 4 := 0
    let disp : BitVec 16 := 4#16
    let key : Nat := 0xE0013FFC
    let s : State := core 0 false fun t => { t with a := t.a.set 2 0xE0003FF8#32 }
    let t := s.hw.eft e
    let sum := t.a[an] + disp.signExtend 32
    let a := if addr = 2 then t.a[an] else sum
    let w : Nat := 2 ^ size.val
    s.hw.canIssue e false = true ∧ addr ≠ 3 ∧ lramKey e a.toNat = some key ∧ a.toNat % w = 0 ∧ size ≠ 3 ∧ size = 2 ∧ addr = 0 := by
  dsimp only
  and_intros <;> decide +kernel

/-- Meets the hypotheses of `Obligations.AccessExceptionsAndLocks`, part AccessExceptions, clause by clause. -/
theorem witness_AccessExceptionsAndLocks_AccessExceptions :
    (let s : State := core 0 false fun t => { t with a := t.a.set 2 0xE0003FF8#32 }
     let e : Fin 4 := 0
     let size : Fin 4 := 3
     let addr : Fin 4 := 0
     s.hw.canIssue e false = true ∧ (s.hw.eft e).sr.exl = false ∧ (size = 3 ∨ addr = 3) ∧ (2 ≤ size.val ∨ addr = 3) ∧
       (size ≠ 2 ∨ addr = 3) ∧ (size ≠ 2 ∨ addr ≠ 0)) ∧
    (let s : State := core 0 false fun t => { t with a := t.a.set 2 0xE0003FF8#32 }
     let e : Fin 4 := 0
     let addr : Fin 4 := 2
     s.hw.canIssue e false = true ∧ (s.hw.eft e).sr.exl = false ∧ (addr = 1 ∨ addr = 2)) ∧
    (let e : Fin 4 := 0
     let an : Fin 8 := 2
     let size : Fin 4 := 1
     let addr : Fin 4 := 0
     let disp : BitVec 16 := 5#16
     let s : State := core 0 false fun t => { t with a := t.a.set 2 0xE0003FF8#32 }
     let t := s.hw.eft e
     let a := if addr = 2 then t.a[an] else t.a[an] + disp.signExtend 32
     s.hw.canIssue e false = true ∧ (s.hw.eft e).sr.exl = false ∧ size ≠ 3 ∧ addr ≠ 3 ∧ a.toNat % 2 ^ size.val ≠ 0) ∧
    (let e : Fin 4 := 0
     let an : Fin 8 := 2
     let size : Fin 4 := 2
     let addr : Fin 4 := 2
     let disp : BitVec 16 := 4#16
     let s : State := core 0 false fun t => { t with a := t.a.set 2 0xE0003FF8#32 }
     let t := s.hw.eft e
     let a := if addr = 2 then t.a[an] else t.a[an] + disp.signExtend 32
     s.hw.canIssue e false = true ∧ (s.hw.eft e).sr.exl = false ∧ size ≠ 3 ∧ addr ≠ 3 ∧ a.toNat % 2 ^ size.val = 0 ∧
       (lramKey e a.toNat).isSome) := by
  dsimp only
  and_intros <;> decide +kernel

/-- Meets the hypotheses of `Obligations.AccessExceptionsAndLocks`, part LockedSequence, clause by clause. -/
theorem witness_AccessExceptionsAndLocks_LockedSequence :
    (let e : Fin 4 := 0
     let an : Fin 8 := 2
     let disp : BitVec 16 := 4#16
     let s : State := core 0 false fun t => { t with a := t.a.set 2 0x00FFFFF8#32 }
     let t := s.hw.eft e
     let a := (t.a[an] + disp.signExtend 32).toNat
     let m := s.hw.mtx
     s.hw.canIssue e false = true ∧ a < 0x01000000 ∧ a % 4 = 0 ∧ s.hw.on (4 + a / 0x100000) = true ∧
       m.retired.contains (a / 0x100000) = false ∧ s.hw.caches.dlines = [] ∧ m.out = [] ∧ m.held = [] ∧ m.stalled = [] ∧
       m.broken = [] ∧ m.promoted = [] ∧ m.waking = [] ∧ m.sleep[a / 0x100000]? = some 0 ∧ s.hw.pwr.filling = [] ∧
       m.lock = none) ∧
    (let e : Fin 4 := 0
     let an : Fin 8 := 2
     let disp : BitVec 16 := 4#16
     let n : Nat := 7
     let c : Nat := 0
     let s : State := tweak (fun h => { h with mtx := { h.mtx with lock := some ⟨1, 0, 3, some 0x3FFFF, 7, 0⟩ } }) (core 0
       false fun t => { t with a := t.a.set 2 0x00FFFFF8#32 })
     let t := s.hw.eft e
     let a := (t.a[an] + disp.signExtend 32).toNat
     let m := s.hw.mtx
     s.hw.canIssue e false = true ∧ a < 0x01000000 ∧ a % 4 = 0 ∧ s.hw.on (4 + a / 0x100000) = true ∧
       m.retired.contains (a / 0x100000) = false ∧ s.hw.caches.dlines = [] ∧ m.out = [] ∧ m.held = [] ∧ m.stalled = [] ∧
       m.broken = [] ∧ m.promoted = [] ∧ m.waking = [] ∧ m.sleep[a / 0x100000]? = some 0 ∧ s.hw.pwr.filling = [] ∧
       m.lock = some ⟨1, e, a / 0x100000 % 4, some (a / 64), n, c⟩ ∧ n < 8) := by
  dsimp only
  and_intros <;> decide +kernel

/-- Meets the hypotheses of `Obligations.CachedMemory`, part CachedAccess, clause by clause. -/
theorem witness_CachedMemory_CachedAccess :
    let e : Fin 4 := 0
    let an : Fin 8 := 2
    let disp : BitVec 16 := 4#16
    let i : Nat := setOf 0xFFFFFC * 4 + 1
    let l : DLine := ⟨0xFFFFE0, List.replicate 32 1#8, false⟩
    let s : State := tweak (fun h =>
      { h with caches := { h.caches with dlines := [(setOf 0xFFFFFC * 4 + 1, ⟨0xFFFFE0, List.replicate 32 1#8, false⟩)] } })
      (core 0 false fun t => { t with a := t.a.set 2 0x00FFFFF8#32 })
    let t := s.hw.eft e
    let a := (t.a[an] + disp.signExtend 32).toNat
    let c := s.hw.caches
    s.hw.canIssue e false = true ∧ a < 0x01000000 ∧ a % 4 = 0 ∧ s.hw.uncached a = false ∧ s.hw.lockCovers 1 e a = false ∧
      c.find a = some (i, l) ∧ t.fillBad = none := by
  dsimp only
  and_intros <;> decide +kernel

/-- Meets the hypotheses of `Obligations.CachedMemory`, part LoadDelaySlot, clause by clause. -/
theorem witness_CachedMemory_LoadDelaySlot :
    let s : State := core 0 false fun t =>
      { t with pend := some ⟨false, 3, 4, false, 0x2000, false, .got 9#32, 0xFFC#32, none, false⟩ }
    let e : Fin 4 := 0
    let l : PendLoad := ⟨false, 3, 4, false, 0x2000, false, .got 9#32, 0xFFC#32, none, false⟩
    let w : Word := 9#32
    l.value = .got w ∧ (s.hw.eft e).pend = some l ∧ (s.hw.modEft e (fun t => { t with pend := none })).canIssue e false = true := by
  dsimp only
  and_intros <;> decide +kernel

/-- Meets the hypotheses of `Obligations.BranchesAndSlots`, part Branches, clause by clause. -/
theorem witness_BranchesAndSlots_Branches :
    (let s : State := core 0 false fun t => { t with a := t.a.set 2 0xFFFFFFFC#32 }
     let e : Fin 4 := 0
     let cond : Fin 16 := 14
     s.hw.canIssue e false = true ∧ cond ≠ 15) ∧
    (let e : Fin 4 := 0
     let annul : Bool := false
     let cond : Fin 16 := 14
     let an : Fin 8 := 2
     let s : State := core 0 false fun t => { t with a := t.a.set 2 0xFFFFFFFC#32 }
     let t := s.hw.eft e
     let f := t.sr
     s.hw.canIssue e false = true ∧ t.a[an].toNat % 4 = 0 ∧ f.exl = false ∧ (annul = true ∨ cond ≠ 0)) ∧
    (let e : Fin 4 := 0
     let an : Fin 8 := 2
     let s : State := core 0 false fun t => { t with a := t.a.set 2 0xFFFFFFFE#32 }
     let t := s.hw.eft e
     let f := t.sr
     s.hw.canIssue e false = true ∧ f.exl = false ∧ t.a[an].toNat % 4 ≠ 0) := by
  dsimp only
  and_intros <;> decide +kernel

/-- Meets the hypotheses of `Obligations.BranchesAndSlots`, part DelaySlots, clause by clause. -/
theorem witness_BranchesAndSlots_DelaySlots :
    (let s : State := core 0 false fun t => { t with slot := some ⟨0x2000#32, false, false⟩ }
     let e : Fin 4 := 0
     let target : Word := 0x2000#32
     let m : Bool := false
     let annulled : Bool := false
     (s.hw.eft e).slot = some ⟨target, m, annulled⟩ ∧
       (s.hw.modEft e (fun t => { t with slot := none })).canIssue e false = true ∧ annulled = false) ∧
    (let s : State := core 0 false fun t => { t with slot := some ⟨0x2000#32, false, true⟩ }
     let e : Fin 4 := 0
     let target : Word := 0x2000#32
     let m : Bool := false
     let annulled : Bool := true
     (s.hw.eft e).slot = some ⟨target, m, annulled⟩ ∧
       (s.hw.modEft e (fun t => { t with slot := none })).canIssue e false = true ∧ annulled = true) ∧
    (let e : Fin 4 := 0
     let target : Word := 0x2000#32
     let m : Bool := false
     let annulled : Bool := false
     let s : State := core 0 false fun t => { t with slot := some ⟨0x2000#32, false, false⟩ }
     let t := s.hw.eft e
     (s.hw.eft e).slot = some ⟨target, m, annulled⟩ ∧
       (s.hw.modEft e (fun t => { t with slot := none })).canIssue e false = true ∧ annulled = false ∧ t.sr.exl = false) := by
  dsimp only
  and_intros <;> decide +kernel

/-- Meets the hypotheses of `Obligations.SystemRegisterMoves`, part SystemRegisters, clause by clause. -/
theorem witness_SystemRegisterMoves_SystemRegisters :
    let s : State := core 0 false id
    let e : Fin 4 := 0
    s.hw.canIssue e false = true := by
  dsimp only
  and_intros <;> decide +kernel

/-- Meets the hypotheses of `Obligations.EventsAndAllWait`, part EventFlags, clause by clause. -/
theorem witness_EventsAndAllWait_EventFlags :
    (let s : State := core 0 false id
     let e : Fin 4 := 0
     let rs : Fin 8 := 3
     let t := s.hw.eft e
     let mask := t.d[rs]
     let h := s.hw.issued e
     let got := h.rd F.EFT_FLAGS_FLAGS &&& mask.toNat
     let f : Fin 256 := 31
     s.hw.canIssue e false = true ∧ f.val ≤ 31 ∧ got = 0) ∧
    (let s : State := core 0 false id
     let e : Fin 4 := 0
     let f : Fin 256 := 32
     let t := s.hw.eft e
     s.hw.canIssue e false = true ∧ 31 < f.val ∧ t.sr.exl = false) ∧
    (let e : Fin 4 := 0
     let rs : Fin 8 := 3
     let s : State := tweak (fun h => h.wr F.EFT_FLAGS_FLAGS 4) (core 0 false fun t => { t with d := t.d.set 3 4#32 })
     let t := s.hw.eft e
     let mask := t.d[rs]
     let h := s.hw.issued e
     let got := h.rd F.EFT_FLAGS_FLAGS &&& mask.toNat
     s.hw.canIssue e false = true ∧ got ≠ 0) := by
  dsimp only
  and_intros <;> decide +kernel

/-- Meets the hypotheses of `Obligations.EventsAndAllWait`, part WaitRelease, clause by clause. -/
theorem witness_EventsAndAllWait_WaitRelease :
    let e : Fin 4 := 0
    let rd : Fin 8 := 7
    let s : State := tweak (fun h => h.wr F.EFT_FLAGS_FLAGS 4) (core 0 false fun t =>
      { t with run := .waiting, wmask := 4#32, waitTo := .d 7 })
    let t := s.hw.eft e
    let flags := s.hw.rd F.EFT_FLAGS_FLAGS
    let got := flags &&& t.wmask.toNat
    t.run = .waiting ∧ t.waitTo = .d rd ∧ t.sr.mode = false ∧ t.pend = none ∧ t.slot = none ∧ t.out = [] ∧ got ≠ 0 ∧
      (∀ k : Fin 4, k ≠ e → (s.hw.eft k).run = .stopped ∧ (s.hw.eft k).out = []) := by
  dsimp only
  and_intros <;> decide +kernel

/-- Meets the hypotheses of `Obligations.Exceptions`, part ExceptionsAndReturn, clause by clause. -/
theorem witness_Exceptions_ExceptionsAndReturn :
    let s : State := core 0 false id
    let e : Fin 4 := 0
    let t := s.hw.eft e
    s.hw.canIssue e false = true ∧ t.sr.exl = false := by
  dsimp only
  and_intros <;> decide +kernel

/-- Meets the hypotheses of `Obligations.Exceptions`, part RefusedFetch, clause by clause. -/
theorem witness_Exceptions_RefusedFetch :
    (let e : Fin 4 := 0
     let s : State := core 0 false fun t => { t with pc := 0x04000000#32 }
     let t := s.hw.eft e
     let a := t.pc.toNat
     t.run = .ready ∧ t.slot = none ∧ t.pend = none ∧ t.late = none ∧ t.out = [] ∧ t.fly = [] ∧ t.sr.exl = false ∧
       executable a = false) ∧
    (let e : Fin 4 := 0
     let s : State := core 0 false fun t => { t with sr := { t.sr with mode := true } }
     let t := s.hw.eft e
     let a := t.pc.toNat
     t.run = .ready ∧ t.slot = none ∧ t.pend = none ∧ t.late = none ∧ t.out = [] ∧ t.fly = [] ∧ t.sr.exl = false ∧
       executable a = true ∧ s.hw.uncached a = false ∧ (s.hw.caches.findI a).isSome ∧ s.hw.pageMode a ≠ t.sr.mode) := by
  dsimp only
  and_intros <;> decide +kernel

/-- Meets the hypotheses of `Obligations.Exceptions`, part DoubleFault, clause by clause. -/
theorem witness_Exceptions_DoubleFault :
    let s : State := core 0 false fun t => { t with sr := { t.sr with exl := true } }
    let e : Fin 4 := 0
    s.hw.canIssue e false = true ∧ (s.hw.eft e).sr.exl = true := by
  dsimp only
  and_intros <;> decide +kernel

/-- Meets the hypotheses of `Obligations.Exceptions`, part AsynchronousExceptions, clause by clause. -/
theorem witness_Exceptions_AsynchronousExceptions :
    (let e : Fin 4 := 0
     let s : State := tweak (fun h => ((h.wr F.EFT_IRQROUTE_IEN 1 19).wr (evtenF bEFT) 2).raiseBit bEFT 1) (core 0 false fun t
       => { t with sr := { t.sr with ie := true } })
     let t := s.hw.eft e
     t.run = .ready ∧ t.slot = none ∧ t.pend = none ∧ t.late = none ∧ t.fly = [] ∧ t.out = [] ∧ t.sr.exl = false ∧
       t.sr.ie = true ∧ s.hw.irqPend e ≠ 0 ∧ t.storeErrs = []) ∧
    (let e : Fin 4 := 0
     let a : Word := 8#32
     let rest : List Word := []
     let s : State := core 0 false fun t => { t with storeErrs := [8#32] }
     let t := s.hw.eft e
     t.run = .ready ∧ t.slot = none ∧ t.pend = none ∧ t.late = none ∧ t.fly = [] ∧ t.out = [] ∧ t.sr.exl = false ∧
       t.storeErrs = a :: rest) := by
  dsimp only
  and_intros <;> decide +kernel

/-- Meets the hypotheses of `Obligations.EventsAndAllWait`, part AllWait, clause by clause. -/
theorem witness_EventsAndAllWait_AllWait :
    (let e : Fin 4 := 0
     let s : State := tweak (fun h => h.wr F.EFT_AWEN_EN 1) (core 0 false fun t => { t with run := .waiting })
     let t := s.hw.eft e
     t.run = .waiting ∧ t.slot = none ∧ t.pend = none ∧ t.late = none ∧ t.fly = [] ∧ t.sr.exl = false ∧ t.sr.ie = false ∧
       s.hw.rd F.EFT_FLAGS_FLAGS = 0 ∧ t.storeErrs = [] ∧ (∀ k : Fin 4, k ≠ e → (s.hw.eft k).run = .stopped) ∧
       (∀ b, b < 23 → s.hw.rdB F.EFT_IRQROUTE_FEN b = false) ∧ bit (s.hw.rd F.EFT_AWEN_EN) e = true) ∧
    (let e : Fin 4 := 0
     let s : State := core 0 false fun t => { t with run := .waiting }
     let t := s.hw.eft e
     t.run = .waiting ∧ t.slot = none ∧ t.pend = none ∧ t.late = none ∧ t.fly = [] ∧ t.sr.exl = false ∧ t.sr.ie = false ∧
       s.hw.rd F.EFT_FLAGS_FLAGS = 0 ∧ t.storeErrs = [] ∧ (∀ k : Fin 4, k ≠ e → (s.hw.eft k).run = .stopped) ∧
       (∀ b, b < 23 → s.hw.rdB F.EFT_IRQROUTE_FEN b = false) ∧ bit (s.hw.rd F.EFT_AWEN_EN) e = false ∧ s.hw.awArmed = false) := by
  dsimp only
  and_intros <;> decide +kernel

/-- Meets the hypotheses of `Obligations.SystemRegisterMoves`, part FlagSources, clause by clause. -/
theorem witness_SystemRegisterMoves_FlagSources :
    (let s : State := tweak (fun h => ((h.wr F.EFT_IRQROUTE_FEN 1 19).wr (evtenF bEFT) 2).raiseBit bEFT 1) (core 0 false id)
     let m : Fin 12 := 1
     let b : Fin 23 := 19
     s.hw.on 2 = true ∧ s.hw.irq (blockBase b) = true ∧ s.hw.rdB F.EFT_IRQROUTE_FEN b = true ∧ s.hw.reaches m = true) ∧
    (let e : Fin 4 := 0
     let s : State := core 0 false fun t => { t with run := .stalled, stall := .cacheOp }
     let t := s.hw.eft e
     t.run = .stalled ∧ t.late = none ∧ t.out = [] ∧ t.stall = .cacheOp) := by
  dsimp only
  and_intros <;> decide +kernel

/-- Meets the hypotheses of `Obligations.CachedMemory`, part CacheInstructions, clause by clause. -/
theorem witness_CachedMemory_CacheInstructions :
    (let e : Fin 4 := 0
     let ra : Fin 8 := 2
     let i : Nat := setOf 0xFFFFFC * 4 + 1
     let l : DLine := ⟨0xFFFFE0, List.replicate 32 1#8, true⟩
     let s : State := tweak (fun h =>
       { h with caches := { h.caches with dlines := [(setOf 0xFFFFFC * 4 + 1, ⟨0xFFFFE0, List.replicate 32 1#8, true⟩)] } })
       (core 0 false fun t => { t with a := t.a.set 2 0x00FFFFF8#32 })
     let t := s.hw.eft e
     let a := t.a[ra].toNat
     let c := s.hw.caches
     s.hw.canIssue e false = true ∧ c.find a = some (i, l)) ∧
    (let e : Fin 4 := 0
     let ra : Fin 8 := 2
     let i : Nat := setOf 0xFFFFFC * 4 + 1
     let l : DLine := ⟨0xFFFFE0, List.replicate 32 1#8, false⟩
     let s : State := tweak (fun h =>
       { h with caches := { h.caches with dlines := [(setOf 0xFFFFFC * 4 + 1, ⟨0xFFFFE0, List.replicate 32 1#8, false⟩)] } })
       (core 0 false fun t => { t with a := t.a.set 2 0x00FFFFF8#32 })
     let t := s.hw.eft e
     let a := t.a[ra].toNat
     let c := s.hw.caches
     s.hw.canIssue e false = true ∧ c.find a = some (i, l) ∧ l.dirty = false) ∧
    (let e : Fin 4 := 0
     let ra : Fin 8 := 2
     let i : Nat := setOf 0x1000 * 4 + 1
     let s : State := core 0 false fun t => { t with a := t.a.set 2 0x1000#32 }
     let t := s.hw.eft e
     let a := t.a[ra].toNat
     let c := s.hw.caches
     s.hw.canIssue e false = true ∧ c.findI a = some i) ∧
    (let s : State := tweak (fun h =>
       { h with caches := { h.caches with dlines := [(setOf 0xFFFFFC * 4 + 1, ⟨0xFFFFE0, List.replicate 32 1#8, true⟩)] } })
       (core 0 false fun t => { t with a := t.a.set 2 0x00FFFFF8#32 })
     let e : Fin 4 := 0
     s.hw.canIssue e false = true) ∧
    (let e : Fin 4 := 0
     let ra : Fin 8 := 2
     let i : Nat := setOf 0xFFFFFC * 4 + 1
     let l : DLine := ⟨0xFFFFE0, List.replicate 32 1#8, true⟩
     let s : State := tweak (fun h =>
       { h with caches := { h.caches with dlines := [(setOf 0xFFFFFC * 4 + 1, ⟨0xFFFFE0, List.replicate 32 1#8, true⟩)] } })
       (core 0 false fun t => { t with a := t.a.set 2 0x00FFFFF8#32 })
     let t := s.hw.eft e
     let a := t.a[ra].toNat
     let c := s.hw.caches
     let m := s.hw.mtx
     let b := l.base
     s.hw.canIssue e false = true ∧ b < 0x01000000 ∧ b % 32 = 0 ∧ l.data.length = 32 ∧ s.hw.on (4 + b / 0x100000) = true ∧
       m.retired.contains (b / 0x100000) = false ∧ m.out = [] ∧ m.held = [] ∧ m.stalled = [] ∧ m.broken = [] ∧
       m.promoted = [] ∧ m.lock = none ∧ m.waking = [] ∧ m.sleep[b / 0x100000]? = some 0 ∧ s.hw.pwr.filling = [] ∧
       l.dirty = true ∧ c.find a = some (i, l)) ∧
    (let e : Fin 4 := 0
     let ra : Fin 8 := 2
     let i : Nat := setOf 0xFFFFFC * 4 + 1
     let l : DLine := ⟨0xFFFFE0, List.replicate 32 1#8, true⟩
     let s : State := tweak (fun h =>
       { h with caches := { h.caches with dlines := [(setOf 0xFFFFFC * 4 + 1, ⟨0xFFFFE0, List.replicate 32 1#8, true⟩)] } })
       (core 0 false fun t => { t with a := t.a.set 2 0x00FFFFF8#32 })
     let t := s.hw.eft e
     let a := t.a[ra].toNat
     let c := s.hw.caches
     let m := s.hw.mtx
     let b := l.base
     s.hw.canIssue e false = true ∧ b < 0x01000000 ∧ b % 32 = 0 ∧ l.data.length = 32 ∧ s.hw.on (4 + b / 0x100000) = true ∧
       m.retired.contains (b / 0x100000) = false ∧ m.out = [] ∧ m.held = [] ∧ m.stalled = [] ∧ m.broken = [] ∧
       m.promoted = [] ∧ m.lock = none ∧ m.waking = [] ∧ m.sleep[b / 0x100000]? = some 0 ∧ s.hw.pwr.filling = [] ∧
       l.dirty = true ∧ c.find a = some (i, l)) ∧
    (let s : State := tweak (fun h =>
       { h with caches := { h.caches with dlines := [(setOf 0xFFFFFC * 4 + 1, ⟨0xFFFFE0, List.replicate 32 1#8, true⟩)] } })
       (core 0 false fun t => { t with a := t.a.set 2 0x00FFFFF8#32 })
     let e : Fin 4 := 0
     let i : Nat := setOf 0xFFFFFC * 4 + 1
     let l : DLine := ⟨0xFFFFE0, List.replicate 32 1#8, true⟩
     let c := s.hw.caches
     let m := s.hw.mtx
     let b := l.base
     s.hw.canIssue e false = true ∧ b < 0x01000000 ∧ b % 32 = 0 ∧ l.data.length = 32 ∧ s.hw.on (4 + b / 0x100000) = true ∧
       m.retired.contains (b / 0x100000) = false ∧ m.out = [] ∧ m.held = [] ∧ m.stalled = [] ∧ m.broken = [] ∧
       m.promoted = [] ∧ m.lock = none ∧ m.waking = [] ∧ m.sleep[b / 0x100000]? = some 0 ∧ s.hw.pwr.filling = [] ∧
       l.dirty = true ∧ c.dlines = [(i, l)]) := by
  dsimp only
  and_intros <;> decide +kernel

/-- Meets the hypotheses of `Obligations.CoprocessorQueues`, part CopIssue, clause by clause. -/
theorem witness_CoprocessorQueues_CopIssue :
    (let e : Fin 4 := 0
     let slot : Fin 8 := 3
     let op : Fin 256 := 3
     let rs : Fin 8 := 3
     let rt : Fin 8 := 4
     let k : Nat := 2
     let s : State := core 0 false fun t => { t with d := t.d.set 3 4#32 }
     let t := s.hw.eft e
     let h := s.hw.issued e
     let a := t.d[rs]
     let b := t.d[rt]
     let q := s.hw.copQueue e slot
     s.hw.canIssue e false = true ∧ slot.val < 4 ∧ (∀ x ∈ q, x.fail = none) ∧ h.copRefusal slot op a b = some k ∧
       t.sr.exl = false) ∧
    (let s : State := core 0 false id
     let e : Fin 4 := 0
     let slot : Fin 8 := 3
     let op : Fin 256 := 3
     let rs : Fin 8 := 3
     let rt : Fin 8 := 4
     let t := s.hw.eft e
     let h := s.hw.issued e
     let a := t.d[rs]
     let b := t.d[rt]
     let q := s.hw.copQueue e slot
     s.hw.canIssue e false = true ∧ slot.val < 4 ∧ (∀ x ∈ q, x.fail = none) ∧ h.copRefusal slot op a b = none ∧ q.length < 4) ∧
    (let e : Fin 4 := 0
     let slot : Fin 8 := 2
     let op : Fin 256 := 2
     let rs : Fin 8 := 3
     let rt : Fin 8 := 4
     let s : State := tweak (fun h =>
       { h with cop := { h.cop with queues := h.cop.queues.set (2) (List.replicate 4 ⟨0, 2, 0, false, [], none⟩) } }) (core 0
       false id)
     let t := s.hw.eft e
     let h := s.hw.issued e
     let a := t.d[rs]
     let b := t.d[rt]
     let q := s.hw.copQueue e slot
     s.hw.canIssue e false = true ∧ slot.val < 4 ∧ (∀ x ∈ q, x.fail = none) ∧ h.copRefusal slot op a b = none ∧ 4 ≤ q.length ∧
       (∃ x ∈ q, x.done = false)) := by
  dsimp only
  and_intros <;> decide +kernel

/-- Meets the hypotheses of `Obligations.CoprocessorQueues`, part CopRead, clause by clause. -/
theorem witness_CoprocessorQueues_CopRead :
    (let e : Fin 4 := 0
     let slot : Fin 8 := 2
     let n : Nat := 5
     let op : Nat := 2
     let tag : Nat := 0
     let w : Word := 7#32
     let ws : List Word := []
     let rest : List CopEntry := []
     let s : State := tweak (fun h =>
       { h with cop := { h.cop with queues := h.cop.queues.set (2) [⟨5, 2, 0, true, [7#32], none⟩] } }) (core 0 false id)
     let h := s.hw.issued e
     let c := h.cop
     let q := c.queues.getD (8 * e.val + slot.val) []
     s.hw.canIssue e false = true ∧ 8 * e.val + slot.val < c.queues.length ∧ (∀ x ∈ rest, x.fail = none ∧ x.entry ≠ n) ∧
       q = ⟨n, op, tag, true, w :: ws, none⟩ :: rest) ∧
    (let e : Fin 4 := 0
     let slot : Fin 8 := 2
     let n : Nat := 5
     let tag : Nat := 0
     let rest : List CopEntry := []
     let s : State := tweak (fun h =>
       { h with cop := { h.cop with queues := h.cop.queues.set (2) [⟨5, 2, 0, false, [], none⟩] } }) (core 0 false id)
     let h := s.hw.issued e
     let c := h.cop
     let q := c.queues.getD (8 * e.val + slot.val) []
     s.hw.canIssue e false = true ∧ (∀ x ∈ rest, x.fail = none) ∧ q = ⟨n, 2, tag, false, [], none⟩ :: rest ∧ slot = 2) ∧
    (let s : State := core 0 false id
     let e : Fin 4 := 0
     let slot : Fin 8 := 7
     let t := s.hw.eft e
     let h := s.hw.issued e
     let c := h.cop
     let q := c.queues.getD (8 * e.val + slot.val) []
     s.hw.canIssue e false = true ∧ q = [] ∧ t.sr.exl = false) := by
  dsimp only
  and_intros <;> decide +kernel

/-- Meets the hypotheses of `Obligations.CoprocessorQueues`, part TModeCop, clause by clause. -/
theorem witness_CoprocessorQueues_TModeCop :
    (let e : Fin 4 := 0
     let src : Fin 256 := 0x2A
     let slot : Fin 8 := 2
     let s : State := core 0 true fun t => { t with bank0 := { t.bank0 with aluR := 2#32 } }
     let t := s.hw.eft e
     let h := s.hw.issued e
     let v := (t.readPort e 0x1F1F#16 src).toNat
     let q := s.hw.copQueue e slot
     let a := t.bank.opA[slot]
     let b := t.bank.opB[slot]
     s.hw.canIssue e true = true ∧ canRead src = true ∧ resSlot src = none ∧ slot.val < 4 ∧
       (∀ k < 8, ∀ x ∈ s.hw.copQueue e k, x.fail = none) ∧ q.length < 4 ∧ v < 256 ∧ h.copRefusal slot v a b = none ∧ q = [] ∧
       t.sr.exl = false) ∧
    (let s : State := tweak (fun h =>
       { h with cop := { h.cop with queues := h.cop.queues.set (2) [⟨5, 2, 0, true, [7#32], none⟩] } }) (core 0 true id)
     let e : Fin 4 := 0
     let src : Fin 256 := 0x35
     let slot : Fin 8 := 2
     let n : Nat := 5
     let op : Nat := 2
     let w : Word := 7#32
     let q := s.hw.copQueue e slot
     s.hw.canIssue e true = true ∧ canRead src = true ∧ resSlot src = none ∧ slot.val < 4 ∧ q = [⟨n, op, 0, true, [w], none⟩]) := by
  dsimp only
  and_intros <;> decide +kernel

/-- Meets the hypotheses of `Obligations.MathSlot`, part MathUnit, clause by clause. -/
theorem witness_MathSlot_MathUnit :
    (let s : State := tweak (fun h => { h with cop := { h.cop with slots := h.cop.slots.set 2 [⟨.eft 0 5, 3, 4#32, 0#32⟩] } })
       here
     let c : CopCmd := ⟨.eft 0 5, 3, 4#32, 0#32⟩
     let rest : List CopCmd := []
     let r : Nat := 512
     let a := c.a
     let b := c.b
     s.hw.slotFront 2 c rest ∧ b = 0#32 ∧ r * r ≤ a.toNat * 65536 ∧ a.toNat * 65536 < (r + 1) * (r + 1) ∧ a ≠ 0#32) ∧
    (let s : State := tweak (fun h =>
       { h with cop := { h.cop with slots := h.cop.slots.set 2 [⟨.eft 0 5, 1, 0x80000000#32, 0xFFFFFFFF#32⟩] } }) here
     let c : CopCmd := ⟨.eft 0 5, 1, 0x80000000#32, 0xFFFFFFFF#32⟩
     let rest : List CopCmd := []
     let a := c.a
     let b := c.b
     s.hw.slotFront 2 c rest ∧ a = 0x80000000#32 ∧ b = 0xFFFFFFFF#32) ∧
    (let s : State := tweak (fun h => { h with cop := { h.cop with slots := h.cop.slots.set 2 [⟨.eft 0 5, 6, 0#32, 1#32⟩] } })
       here
     let c : CopCmd := ⟨.eft 0 5, 6, 0#32, 1#32⟩
     let rest : List CopCmd := []
     let a := c.a
     let b := c.b
     s.hw.slotFront 2 c rest ∧ b ≠ 0#32 ∧ (¬(a = 0x80000000#32 ∧ b = 0xFFFFFFFF#32)) ∧ a = 0#32) := by
  dsimp only
  and_intros <;> decide +kernel

/-- Meets the hypotheses of `Obligations.MathSlot`, part Trigonometry, clause by clause. -/
theorem witness_MathSlot_Trigonometry :
    (let s : State := tweak (fun h =>
       { h with cop := { h.cop with slots := h.cop.slots.set 2 [⟨.eft 0 5, 4, 0xFFFFFFFF#32, 0#32⟩] } }) here
     let c : CopCmd := ⟨.eft 0 5, 4, 0xFFFFFFFF#32, 0#32⟩
     let rest : List CopCmd := []
     s.hw.slotFront 2 c rest ∧ c.op = 4) ∧
    (let s : State := tweak (fun h => { h with cop := { h.cop with slots := h.cop.slots.set 2 [⟨.eft 0 5, 5, 0#32, 1#32⟩] } })
       here
     let c : CopCmd := ⟨.eft 0 5, 5, 0#32, 1#32⟩
     let rest : List CopCmd := []
     s.hw.slotFront 2 c rest ∧ c.op = 5 ∧ (c.a ≠ 0#32 ∨ c.b ≠ 0#32)) ∧
    (let s : State := tweak (fun h => { h with cop := { h.cop with slots := h.cop.slots.set 2 [⟨.eft 0 5, 5, 0#32, 0#32⟩] } })
       here
     let c : CopCmd := ⟨.eft 0 5, 5, 0#32, 0#32⟩
     let rest : List CopCmd := []
     s.hw.slotFront 2 c rest ∧ c.op = 5 ∧ c.a = 0#32 ∧ c.b = 0#32) := by
  dsimp only
  and_intros <;> decide +kernel

/-- Meets the hypotheses of `Obligations.VoiceAndVaranSlots`, clause by clause. -/
theorem witness_VoiceAndVaranSlots :
    (let s : State := tweak (fun h =>
       { h with cop := { h.cop with slots := h.cop.slots.set 1 [⟨.eft 0 5, 1, 239#32, 0#32⟩] } }) here
     let c : CopCmd := ⟨.eft 0 5, 1, 239#32, 0#32⟩
     let rest : List CopCmd := []
     s.hw.slotFront 1 c rest ∧ c.op = 1) ∧
    (let s : State := tweak (fun h => { h with cop := { h.cop with slots := h.cop.slots.set 1 [⟨.eft 0 5, 2, 0#32, 0#32⟩] } })
       here
     let c : CopCmd := ⟨.eft 0 5, 2, 0#32, 0#32⟩
     let rest : List CopCmd := []
     s.hw.slotFront 1 c rest ∧ c.op = 2) ∧
    (let s : State := tweak (fun h => { h with cop := { h.cop with slots := h.cop.slots.set 1 [⟨.eft 0 5, 3, 0#32, 0#32⟩] } })
       here
     let c : CopCmd := ⟨.eft 0 5, 3, 0#32, 0#32⟩
     let rest : List CopCmd := []
     s.hw.slotFront 1 c rest ∧ c.op = 3) ∧
    (let s : State := tweak (fun h => { h with cop := { h.cop with slots := h.cop.slots.set 1 [⟨.eft 0 5, 4, 0#32, 0#32⟩] } })
       here
     let c : CopCmd := ⟨.eft 0 5, 4, 0#32, 0#32⟩
     let rest : List CopCmd := []
     s.hw.slotFront 1 c rest ∧ c.op = 4) ∧
    (let s : State := tweak (fun h => { h with cop := { h.cop with slots := h.cop.slots.set 3 [⟨.eft 0 5, 3, 3#32, 0#32⟩] } })
       here
     let c : CopCmd := ⟨.eft 0 5, 3, 3#32, 0#32⟩
     let rest : List CopCmd := []
     s.hw.slotFront 3 c rest ∧ c.op = 3) ∧
    (let s : State := tweak (fun h => { h with cop := { h.cop with slots := h.cop.slots.set 3 [⟨.eft 0 5, 4, 0#32, 0#32⟩] } })
       here
     let c : CopCmd := ⟨.eft 0 5, 4, 0#32, 0#32⟩
     let rest : List CopCmd := []
     s.hw.slotFront 3 c rest ∧ c.op = 4) ∧
    (let s : State := tweak (fun h => let h := h.wr F.VAR_SSTAT_PHASE 1 3; h.modStream 3 fun v => { v with cfg := [0x400#32] })
       (tweak (fun h => { h with cop := { h.cop with slots := h.cop.slots.set 3 [⟨.eft 0 5, 2, 7#32, 0#32⟩] } }) here)
     let c : CopCmd := ⟨.eft 0 5, 2, 7#32, 0#32⟩
     let rest : List CopCmd := []
     let k : Fin 4 := 3
     s.hw.slotFront 3 c rest ∧ s.hw.on 39 = true ∧ (∀ j : Fin 4, j ≠ k → s.hw.streamRuns j = false) ∧ c.op = 2 ∧
       s.hw.streamRuns k = true ∧ (s.hw.stream k).marks = true) ∧
    (let s : State := tweak (fun h => let h := h.wr F.VAR_SSTAT_PHASE 1 3; h.modStream 3 fun v => { v with cfg := [0#32] })
       (tweak (fun h => { h with cop := { h.cop with slots := h.cop.slots.set 3 [⟨.eft 0 5, 1, 8#32, 0#32⟩] } }) here)
     let c : CopCmd := ⟨.eft 0 5, 1, 8#32, 0#32⟩
     let rest : List CopCmd := []
     let k : Fin 4 := 3
     let a := c.a.toNat
     s.hw.slotFront 3 c rest ∧ s.hw.on 39 = true ∧ (∀ j : Fin 4, j ≠ k → s.hw.streamRuns j = false) ∧ c.op = 1 ∧ a = 2 ^ k.val) := by
  dsimp only
  and_intros <;> decide +kernel

/-- Meets the hypotheses of `Obligations.CoprocessorQueues`, part CopCompletion, clause by clause. -/
theorem witness_CoprocessorQueues_CopCompletion :
    (let s : State := tweak (fun h =>
       { h with cop := { h.cop with results := h.cop.results.set 3 [(⟨.eft 3 5, 4, 0#32, 0#32⟩, [1#32, 2#32])] } }) here
     let slot : Fin 4 := 3
     let f : Fin 4 := 3
     let c : CopCmd := ⟨.eft 3 5, 4, 0#32, 0#32⟩
     let ws : List Word := [1#32, 2#32]
     let n : Nat := 5
     s.hw.cop.results[slot.val]? = some [(c, ws)] ∧ c.src = .eft f n ∧ ws ≠ []) ∧
    (let s : State := tweak (fun h =>
       { h with cop := { h.cop with results := h.cop.results.set 3 [(⟨.eft 3 5, 4, 0#32, 0#32⟩, [])] } }) here
     let slot : Fin 4 := 3
     let f : Fin 4 := 3
     let c : CopCmd := ⟨.eft 3 5, 4, 0#32, 0#32⟩
     let n : Nat := 5
     s.hw.cop.results[slot.val]? = some [(c, [])] ∧ c.src = .eft f n) ∧
    (let s : State := tweak (fun h => h.wr (copCfg 7 31 16) 1) (tweak (fun h =>
       { h with cop := { h.cop with queues := h.cop.queues.set (7) [⟨5, 2, 0, false, [], none⟩] } }) (core 0 false id))
     let slot : Fin 4 := 3
     let e : Fin 4 := 0
     let place : Fin 4 := 0
     let x : CopEntry := ⟨5, 2, 0, false, [], none⟩
     (s.hw.copQueue e (4 + slot.val))[place.val]? = some x ∧ s.hw.rd (copCfg (4 + slot.val) 31 16) ≠ 0 ∧ x.done = false ∧
       x.fail = none) := by
  dsimp only
  and_intros <;> decide +kernel

/-- Meets the hypotheses of `Obligations.RegisterRows`, part RegisterWrite, clause by clause. -/
theorem witness_RegisterRows_RegisterWrite :
    let s : State := here
    let m : Fin 12 := 1
    let a : Nat := 0x04040040
    a / 0x10000 ∈ [0x0404, 0x0405, 0x0407, 0x0412] ∧ 0x40 ≤ a % 0x10000 ∧ a % 0x10000 < 0x8000 ∧ s.hw.on (regDomain a) = true ∧
      s.hw.reaches m = true := by
  dsimp only
  and_intros <;> decide +kernel

/-- Meets the hypotheses of `Obligations.RegisterRows`, part EventRegisters, clause by clause. -/
theorem witness_RegisterRows_EventRegisters :
    let s : State := here
    let m : Fin 12 := 1
    let block : Fin 23 := 22
    let base := 0x04000000 + 0x10000 * block.val
    s.hw.reaches m = true ∧ s.hw.blockTakes m block = true ∧ s.hw.on (regDomain base) = true := by
  dsimp only
  and_intros <;> decide +kernel

/-- Meets the hypotheses of `Obligations.RegisterRows`, part CommitRegister, clause by clause. -/
theorem witness_RegisterRows_CommitRegister :
    let s : State := here
    let m : Fin 12 := 1
    let block : Fin 23 := 5
    let b : RegBlock := (blockOf (0x04000000 + 0x10000 * 5)).getD ⟨0, false, false, 0, []⟩
    let base := 0x04000000 + 0x10000 * block.val
    s.hw.reaches m = true ∧ s.hw.blockTakes m block = true ∧ s.hw.on (regDomain base) = true ∧ blockOf base = some b ∧
      b.shadowed = true := by
  dsimp only
  and_intros <;> decide +kernel

/-- Meets the hypotheses of `Obligations.RegisterRows`, part UnreachedRegisters, clause by clause. -/
theorem witness_RegisterRows_UnreachedRegisters :
    let s : State := here
    let r : MReq := ⟨11, 1, 4096, false, 4, 1, [], false, false⟩
    let m : Fin 12 := 3
    s.hw.reaches m = false ∧ r.master = 11 ∧ s.hw.rdB F.NVS_STAT_DEBUG = false := by
  dsimp only
  and_intros <;> decide +kernel

/-- Meets the hypotheses of `Obligations.RegisterRows`, part WideRegisters, clause by clause. -/
theorem witness_RegisterRows_WideRegisters :
    (let s : State := here
     let k : Fin 5 := 4
     let a := [0x04160040, 0x04160048, 0x04160050, 0x040D0050, 0x04150064].getD k 0
     s.hw.on (regDomain a) = true) ∧
    (let s : State := tweak (fun h => { h with wideWrite := [(0x04160050, 3#32)] }) here
     let lo : Word := 3#32
     s.hw.wideWrite = [(0x04160050, lo)]) := by
  dsimp only
  and_intros <;> decide +kernel

/-- Meets the hypotheses of `Obligations.WakeAndTimer`, part WakeEvents, clause by clause. -/
theorem witness_WakeAndTimer_WakeEvents :
    (let s : State := here
     let k : Fin 8 := 7
     let p : Fin 2 := 1
     let x := (.gpioWake 7, 8 + 7, bit (s.hw.rd F.SYS_WAKECFG_EN_GPIO) 7)
     s.hw.pwr.inPor = false ∧ x.2.2 = false ∧ x ∈
       (([(.spCsWake, 0, s.hw.rdB F.SYS_WAKECFG_EN_SPCS), (.wakeBall, 1, s.hw.rdB F.SYS_WAKECFG_EN_WAKE), (.linkActivityWake p, 3 + p.val, if p = 0 then s.hw.rdB F.SYS_WAKECFG_EN_LNK0 else s.hw.rdB F.SYS_WAKECFG_EN_LNK1), (.gpioWake k, 8 + k.val, bit (s.hw.rd F.SYS_WAKECFG_EN_GPIO) k)]
       : List (Instr × Nat × Bool)))) ∧
    (let s : State := pw (fun p => { p with goal := .enter .run }) (put F.SYS_WAKECFG_EN_LNK1 1 here)
     let k : Fin 8 := 7
     let p : Fin 2 := 1
     let x := (.linkActivityWake 1, 3 + (1 : Fin 2).val, if (1 : Fin 2) = 0 then s.hw.rdB F.SYS_WAKECFG_EN_LNK0 else s.hw.rdB
       F.SYS_WAKECFG_EN_LNK1)
     s.hw.pwr.inPor = false ∧ x.2.2 = true ∧ s.hw.pstate ≠ 0 ∧ s.hw.pwr.goal ≠ .enter .deep ∧ x ∈
       (([(.spCsWake, 0, s.hw.rdB F.SYS_WAKECFG_EN_SPCS), (.wakeBall, 1, s.hw.rdB F.SYS_WAKECFG_EN_WAKE), (.linkActivityWake p, 3 + p.val, if p = 0 then s.hw.rdB F.SYS_WAKECFG_EN_LNK0 else s.hw.rdB F.SYS_WAKECFG_EN_LNK1), (.gpioWake k, 8 + k.val, bit (s.hw.rd F.SYS_WAKECFG_EN_GPIO) k)]
       : List (Instr × Nat × Bool)))) ∧
    (let s : State := put F.SYS_STATE_STATE 0 (pw (fun p => { p with dom := List.replicate 50 .off, goal := .idle }) (put
       F.SYS_WAKECFG_EN_LNK1 1 here))
     let k : Fin 8 := 7
     let p : Fin 2 := 1
     let x := (.linkActivityWake 1, 3 + (1 : Fin 2).val, if (1 : Fin 2) = 0 then s.hw.rdB F.SYS_WAKECFG_EN_LNK0 else s.hw.rdB
       F.SYS_WAKECFG_EN_LNK1)
     s.hw.pwr.inPor = false ∧ x.2.2 = true ∧ s.hw.inDeep = true ∧ x ∈
       (([(.spCsWake, 0, s.hw.rdB F.SYS_WAKECFG_EN_SPCS), (.wakeBall, 1, s.hw.rdB F.SYS_WAKECFG_EN_WAKE), (.linkActivityWake p, 3 + p.val, if p = 0 then s.hw.rdB F.SYS_WAKECFG_EN_LNK0 else s.hw.rdB F.SYS_WAKECFG_EN_LNK1), (.gpioWake k, 8 + k.val, bit (s.hw.rd F.SYS_WAKECFG_EN_GPIO) k)]
       : List (Instr × Nat × Bool)))) := by
  dsimp only
  and_intros <;> decide +kernel

/-- Meets the hypotheses of `Obligations.WakeAndTimer`, part TimerAlarms, clause by clause. -/
theorem witness_WakeAndTimer_TimerAlarms :
    (let s : State := here
     let count : BitVec 48 := 0xFFFFFFFFFFFF#48
     let n := count.toNat
     let now := s.hw.rd F.TMR_CNTLO_COUNT + s.hw.rd F.TMR_CNTHI_COUNT * 2 ^ 32
     s.hw.pwr.inPor = false ∧ now ≤ n ∧ s.hw.rd F.TMR_ALM0LO_CMP + s.hw.rd F.TMR_ALM0HI_CMP * 2 ^ 32 ≤ n ∧
       s.hw.rdB F.SYS_WAKECFG_EN_TMR = false ∧ s.hw.rd F.TMR_ALM1LO_CMP + s.hw.rd F.TMR_ALM1HI_CMP * 2 ^ 32 ≤ n) ∧
    (let s : State := put F.SYS_WAKECFG_EN_TMR 1 here
     let count : BitVec 48 := 0xFFFFFFFFFFFF#48
     let n := count.toNat
     let now := s.hw.rd F.TMR_CNTLO_COUNT + s.hw.rd F.TMR_CNTHI_COUNT * 2 ^ 32
     s.hw.pwr.inPor = false ∧ now ≤ n ∧ s.hw.rd F.TMR_ALM0LO_CMP + s.hw.rd F.TMR_ALM0HI_CMP * 2 ^ 32 ≤ n ∧
       s.hw.rdB F.SYS_WAKECFG_EN_TMR = true ∧ s.hw.pstate ≠ 0 ∧ s.hw.pwr.goal ≠ .enter .deep) := by
  dsimp only
  and_intros <;> decide +kernel

/-- Meets the hypotheses of `Obligations.ClocksAndFailSafe`, part Clocks, clause by clause. -/
theorem witness_ClocksAndFailSafe_Clocks :
    let s : State := pw (fun p => { p with goal := .enter .run, xtEnabled := true, unlocked := false }) (put
      F.SYS_CLKSTAT_XT24_OK 1 (put F.SYS_CLKSTAT_SYS_LOCK 0 here))
    let h := s.hw
    h.pwr.inPor = false ∧ h.rdB F.SYS_CLKSTAT_LSC_SRC = false ∧ h.rdB F.SYS_CLKSTAT_LSC_FAIL = false ∧ h.pwr.xtEnabled = true ∧
      h.pwr.goal = .enter .run ∧ h.rdB F.SYS_CLKSTAT_XT24_OK = true ∧ h.rdB F.SYS_CLKSTAT_SYS_LOCK = false ∧
      h.pwr.unlocked = false := by
  dsimp only
  and_intros <;> decide +kernel

/-- Meets the hypotheses of `Obligations.ClocksAndFailSafe`, part ClockFailSafe, clause by clause. -/
theorem witness_ClocksAndFailSafe_ClockFailSafe :
    let s : State := pw (fun p => { p with goal := .enter .run, xtEnabled := true, unlocked := false }) (put
      F.SYS_CLKSTAT_XT24_OK 1 (put F.SYS_CLKSTAT_SYS_LOCK 0 here))
    let i : Instr := .xt24Fail
    s.hw.pwr.dom.length = 50 ∧ s.hw.eng.ports.length = 8 ∧ (i = .xt24Fail ∧ s.hw.pwr.xtEnabled = true ∧ s.hw.rdB
      F.SYS_CLKSTAT_XT24_OK = true ∨ i = .pllSysUnlock ∧ s.hw.rdB F.SYS_CLKSTAT_SYS_LOCK = true) := by
  dsimp only
  and_intros <;> decide +kernel

/-- Meets the hypotheses of `Obligations.DomainsAndBanks`, part DomainSwitching, clause by clause. -/
theorem witness_DomainsAndBanks_DomainSwitching :
    (let w : List Nat := [49]
     let waves : List (List Nat) := [[3]]
     let s : State := pw (fun p => { p with goal := .domains, waves := [[49], [3]] }) here
     let p := s.hw.pwr
     p.dom.length = 50 ∧ p.goal = .domains ∧ p.boot = 0 ∧ p.waves = w :: waves ∧ p.offs = [] ∧ waves ≠ [] ∧ (∀ x ∈ w, x < 50)) ∧
    (let d : Nat := 49
     let rest : List Nat := [3]
     let s : State := pw (fun p => { p with goal := .domains, offs := [49, 3] }) here
     let p := s.hw.pwr
     p.dom.length = 50 ∧ p.goal = .domains ∧ p.boot = 0 ∧ p.offs = d :: rest ∧ rest ≠ [] ∧ d < 50 ∧ s.hw.on d = true ∧
       s.sys.offWaits d = false) := by
  dsimp only
  and_intros <;> decide +kernel

/-- Meets the hypotheses of `Obligations.DomainsAndBanks`, part BankFill, clause by clause. -/
theorem witness_DomainsAndBanks_BankFill :
    let s : State := here
    s.hw.pwr.goal ≠ .image ∧ s.hw.eng.img.state = 0 := by
  dsimp only
  and_intros <;> decide +kernel

/-- Meets the hypotheses of `Obligations.StatesAndStarts`, part PowerTransitions, clause by clause. -/
theorem witness_StatesAndStarts_PowerTransitions :
    (let s : State := pw (fun p => { p with goal := .enter .standby }) here
     let p := s.hw.pwr
     p.offs = [] ∧ p.waves = [] ∧ p.boot = 0 ∧ p.goal = .enter .standby ∧ s.hw.pstate = 2) ∧
    (let s : State := pw (fun p => { p with goal := .enter .run }) (put F.SYS_STATE_STATE 1 (put F.SYS_CLKSTAT_SYS_LOCK 1
       here))
     let p := s.hw.pwr
     p.offs = [] ∧ p.waves = [] ∧ p.boot = 0 ∧ p.goal = .enter .run ∧ s.hw.pstate = 1 ∧ s.hw.rdB F.SYS_CLKSTAT_SYS_LOCK = true) ∧
    (let s : State := pw (fun p => { p with goal := .enter .deep }) (put F.SYS_STATE_STATE 1 here)
     let p := s.hw.pwr
     p.offs = [] ∧ p.waves = [] ∧ p.boot = 0 ∧ p.goal = .enter .deep ∧ s.hw.pstate = 1 ∧ p.heldWake = []) ∧
    (let s : State := pw (fun p => { p with goal := .enter .standby }) (put F.SYS_STATE_STATE 0 here)
     let p := s.hw.pwr
     p.offs = [] ∧ p.waves = [] ∧ p.boot = 0 ∧ p.goal = .enter .standby ∧ s.hw.pstate = 0) := by
  dsimp only
  and_intros <;> decide +kernel

/-- Meets the hypotheses of `Obligations.StatesAndStarts`, part Starts, clause by clause. -/
theorem witness_StatesAndStarts_Starts :
    (let s : State := nv (fun n => { n with key := some 3, policy := some 4 }) (here)
     let p := s.hw.pwr
     p.starting = true ∧ p.stage = 1 ∧ p.inPor = false ∧ p.fromDeep = false ∧ s.nv.pendingZero = none ∧ s.nv.key.isSome ∧
       s.hw.on 49 = true ∧ s.nv.policy = some 4) ∧
    (let s : State := nv (fun n => { n with key := some 3, policy := some 3 }) (here)
     let p := s.hw.pwr
     p.starting = true ∧ p.stage = 1 ∧ p.inPor = false ∧ p.fromDeep = false ∧ s.nv.pendingZero = none ∧ s.nv.key.isSome ∧
       s.hw.on 49 = true ∧ s.nv.policy.getD 0 < 4) ∧
    (let s : State := nv (fun n => { n with pendingZero := some true }) (here)
     let p := s.hw.pwr
     p.starting = true ∧ p.stage = 1 ∧ p.inPor = false ∧ s.nv.pendingZero = some true) ∧
    (let s : State := pw (fun p => { p with autorun := true, starting := false }) (put F.SYS_STATE_STATE 1 here)
     let p := s.hw.pwr
     p.autorun = true ∧ p.starting = false ∧ s.hw.pstate = 1 ∧ s.hw.transit = false ∧ p.failSafe = false) := by
  dsimp only
  and_intros <;> decide +kernel

/-- Meets the hypotheses of `Obligations.Resets`, clause by clause. -/
theorem witness_Resets :
    (let s : State := pw (fun p => { p with inPor := true }) here
     s.hw.pwr.inPor = true) ∧
    (let s : State := here
     s.hw.pwr.inPor = false) := by
  dsimp only
  and_intros <;> decide +kernel

/-- Meets the hypotheses of `Obligations.StoreRows`, part RowWrites, clause by clause. -/
theorem witness_StoreRows_RowWrites :
    let l : Nat := 5
    let p : Nat := 5
    let d : List Byte := [1#8]
    let n : NvStep := .row 6 6 [2#8]
    let rest : List NvStep := []
    let w : NvWork := ⟨[.row 5 5 [1#8], .row 6 6 [2#8]], [], [], 1, .nothing⟩
    let s : State := pw (fun p => { p with stage := 0 }) (en (fun e =>
      { e with work := [⟨[.row 5 5 [1#8], .row 6 6 [2#8]], [], [], 1, .nothing⟩] }) (nv (fun n =>
      { n with counts := [(5, 999998)] }) (here)))
    let e := s.hw.eng
    e.wearRow = false ∧ e.wear = none ∧ e.work = [w] ∧ w.steps = .row l p d :: n :: rest ∧ s.hw.on 48 = true ∧
      s.hw.pwr.stage = 0 ∧ s.hw.pwr.goal = .idle ∧ e.job = none ∧ s.nv.inPlace n = none ∧ s.nv.count p + 1 < 1000000 ∧
      w.fails < 2 := by
  dsimp only
  and_intros <;> decide +kernel

/-- Meets the hypotheses of `Obligations.StoreRows`, part Commit, clause by clause. -/
theorem witness_StoreRows_Commit :
    let l : Nat := 20
    let p : Nat := 18208
    let item : NvRec := .runSet 5
    let m : Nat := 5
    let s : State := pw (fun p => { p with stage := 0 }) (en (fun e =>
      { e with work := [⟨[.commit], [.runSet 5], [(20, 18208)], 0, .nothing⟩] }) here)
    let e := s.hw.eng
    e.wearRow = false ∧ e.wear = none ∧ e.work = [⟨[.commit], [item], [(l, p)], 0, .nothing⟩] ∧ s.hw.on 48 = true ∧
      s.hw.pwr.stage = 0 ∧ s.hw.pwr.goal = .idle ∧ e.job = none ∧ item = .runSet m ∧ l ≠ p := by
  dsimp only
  and_intros <;> decide +kernel

/-- Meets the hypotheses of `Obligations.StoreRows`, part WearAndFuses, clause by clause. -/
theorem witness_StoreRows_WearAndFuses :
    (let k : Nat := 3
     let h : Nat := 9
     let s : State := en (fun e => { e with fuse := some (.keyhash 3 9) }) here
     let e := s.hw.eng
     e.ncur = none ∧ e.job = none ∧ e.fuse = some (.keyhash k h)) ∧
    (let k : Nat := 3
     let s : State := en (fun e => { e with fuse := some (.revoke 3) }) here
     let e := s.hw.eng
     e.ncur = none ∧ e.job = none ∧ e.fuse = some (.revoke k)) ∧
    (let s : State := en (fun e => { e with fuse := some (.life 1) }) here
     let e := s.hw.eng
     e.ncur = none ∧ e.job = none ∧ e.fuse = some (.life 1)) := by
  dsimp only
  and_intros <;> decide +kernel

/-- Meets the hypotheses of `Obligations.ImageVerification`, clause by clause. -/
theorem witness_ImageVerification :
    (let s : State := pw (fun p => { p with dom := p.dom.set 2 .off }) (nv imaged (en (fun e =>
       { e with img := { Img.reset with state := 1, data := image, total := 768, checking := true } }) here))
     let g := s.hw.eng.img
     g.checking = true ∧ s.hw.pwr.offs = [] ∧ s.hw.pwr.waves = [] ∧ g.src = 0 ∧ s.sys.imageBad g.data (some g.total) = 0 ∧
       s.hw.on 2 = false ∧ s.nv.runSet = none) ∧
    (let s : State := en (fun e =>
       { e with img := { Img.reset with state := 1, data := image, total := 768, checking := true } }) here
     let g := s.hw.eng.img
     g.checking = true ∧ s.hw.pwr.offs = [] ∧ s.hw.pwr.waves = [] ∧ g.src = 0 ∧ s.sys.imageBad g.data (some g.total) ≠ 0) ∧
    (let s : State := en (fun e => { e with img := { Img.reset with state := 1, src := 1, checking := true, port := 0 } }) here
     let g := s.hw.eng.img
     g.checking = true ∧ s.hw.pwr.offs = [] ∧ s.hw.pwr.waves = [] ∧ g.src = 1 ∧ g.port ≠ 0xFF) := by
  dsimp only
  and_intros <;> decide +kernel

/-- Meets the hypotheses of `Obligations.Sessions`, clause by clause. -/
theorem witness_Sessions :
    (let s : State := en (fun e => { e with ports := e.ports.modify 0 fun p => { p with session := 1, rxmax := 24 } })
       (selected 0)
     let q : EngReq := ask (leBytes 4 1)
     let n : Nat := 0
     let d := s.sys
     let m := fieldAt q.par 0 4
     let b := byteAt q.par
     n < 8 ∧ s.hw.eng.ports.length = 8 ∧ b 0 = 1 ∧ 24 ≤ (d.port n).rxmax ∧ s.sys.accepts 0x01 q n ∧ ((([1#8, 0#8] ++ leBytes 4
       (s.hw.rd F.SYS_REVID_REV) ++ leBytes 1 (portCode n) ++ leBytes 1 s.nv.lifecycle ++ leBytes 1 (if s.hw.on 21 then
       s.hw.nodeId else 0xFF) ++ leBytes 1 s.hw.pstate ++ leBytes 2 (if n = 0 ∨ n = 1 ∨ n = 3 then 4100 else 256) ++ leBytes 4
       (d.offer n) ++ [1#8, 0#8, 0#8, 0#8] ++ zeros 4) : List Byte)).length ≤ (s.sys.port n).rxmax ∧ (d.port n).session ≠ 2 ∧
       bit m 0 = true ∧ (∀ k < 32, bit m k = true → bit (d.offer n) k = true) ∧ s.sys.accepts 0x02 q n ∧
       (((q.par.take 4) : List Byte)).length ≤ (s.sys.port n).rxmax) ∧
    (let s : State := en (fun e => { e with ports := e.ports.modify 0 fun p => { p with session := 1, rxmax := 24 } })
       (selected 0)
     let q : EngReq := ask (leBytes 4 0x80)
     let n : Nat := 0
     let d := s.sys
     let m := fieldAt q.par 0 4
     let b := byteAt q.par
     n < 8 ∧ s.hw.eng.ports.length = 8 ∧ b 0 ≠ 1 ∧ s.sys.accepts 0x01 q n ∧
       ((d.port n).session = 2 ∨ bit m 0 = false ∧ m < 256) ∧ s.sys.accepts 0x02 q n) ∧
    (let s : State := selected 0
     let q : EngReq := ask ([])
     let n : Nat := 0
     let d := s.sys
     let p := d.port n
     let job := s.hw.eng.job
     n < 8 ∧ s.hw.eng.ports.length = 8 ∧ s.sys.accepts 0x03 q n ∧
       ((([s.hw.pstate + 128 * b2n s.hw.transit, s.nv.lifecycle, b2n job.isSome + 2 * b2n s.hw.eng.zero + 4 * b2n s.hw.allWait + 8 * b2n s.hw.pwr.failSafe + 16 * b2n s.hw.pennAlarm + 32 * b2n s.hw.eng.storeBusy + 64 * b2n d.debugOpen, (match job with | some j => j.op | none => 0), d.jobPort, p.session].map (BitVec.ofNat 8) ++ leBytes 2 (if n = 2 then s.hw.rd F.MBX_NOTICE_NOTICES else p.notices) ++ leBytes 2 p.overrun ++ leBytes 2 p.rejects ++ [p.lastStat, p.lastOp, p.framing, p.lost].map (BitVec.ofNat 8)) : List Byte)).length ≤ (s.sys.port n).rxmax) := by
  dsimp only
  and_intros <;> decide +kernel

/-- Meets the hypotheses of `Obligations.PowerAndLedgerCommands`, part PowerGpioTelemetry, clause by clause. -/
theorem witness_PowerAndLedgerCommands_PowerGpioTelemetry :
    (let s : State := selected 0
     let q : EngReq := ask (leBytes 2 255)
     let n : Nat := 0
     s.sys.accepts 0x12 q n ∧ (([] : List Byte)).length ≤ (s.sys.port n).rxmax ∧ fieldAt q.par 0 2 ≤ 255 ∧
       s.sys.accepts 0xA2 q n ∧
       (((match s.hw.evLog[fieldAt q.par 0 2]? with | some x => [x.kind, x.port, x.detail0, x.detail1].map (BitVec.ofNat 8) ++ leBytes 4 x.aux ++ leBytes 4 x.frame ++ leBytes 4 x.stamp | none => 0xFF#8 :: zeros 15) : List Byte)).length ≤ (s.sys.port n).rxmax) ∧
    (let s : State := selected 0
     let q : EngReq := ask (leBytes 4 1 ++ zeros 6)
     let n : Nat := 0
     bit (fieldAt q.par 0 4) 0 = true ∧ s.sys.accepts 0x13 q n ∧ (([] : List Byte)).length ≤ (s.sys.port n).rxmax) ∧
    (let s : State := selected 0
     let q : EngReq := ask (zeros 10)
     let n : Nat := 0
     fieldAt q.par 0 4 = 0 ∧ s.sys.accepts 0x13 q n) ∧
    (let s : State := selected 0
     let q : EngReq := ask ([])
     let n : Nat := 0
     let d := s.sys
     s.sys.accepts 0x14 q n ∧ (((s.hw.pdstat ++ leBytes 4 (s.hw.liveWord 0x04000050).toNat) : List Byte)).length ≤ (s.sys.port
       n).rxmax ∧ s.sys.accepts 0x41 q n ∧ ((((List.range 96).map fun k => BitVec.ofNat 8 (s.hw.owner k)) : List Byte)).length
       ≤ (s.sys.port n).rxmax ∧ s.sys.accepts 0x43 q n ∧ (((([0, 1, 2] : List Nat).flatMap fun k => leBytes 4 (s.hw.gpiIn
       k).toNat) : List Byte)).length ≤ (s.sys.port n).rxmax ∧ s.sys.accepts 0x91 q n ∧
       ((([s.nv.lifecycle, b2n d.debugOpen + 2 * b2n s.nv.pendingZero.isSome + 4 * b2n s.hw.eng.zero + 8 * b2n s.hw.eng.devKey.isSome + 16 * b2n s.nv.factoryLock + 32 * b2n d.evaluated, s.nv.rev + 16 * s.nv.prg, s.nv.svn].map
       (BitVec.ofNat 8) ++ leBytes 4 s.nv.zeroCount) : List Byte)).length ≤ (s.sys.port n).rxmax) ∧
    (let s : State := selected 0
     let q : EngReq := ask ([0#8, 96#8, 1#8])
     let n : Nat := 0
     let b := byteAt q.par
     b 0 ≤ 95 ∧ 0 < b 1 ∧ b 0 + b 1 ≤ 96 ∧ 1 ≤ b 2 ∧ b 2 ≤ 5 ∧ (∀ k < 96, b 0 ≤ k → k < b 0 + b 1 → s.hw.owner k = 0) ∧
       s.sys.accepts 0x40 q n ∧ (([] : List Byte)).length ≤ (s.sys.port n).rxmax) ∧
    (let s : State := tweak (fun h => { h with gpi := { h.gpi with owner := h.gpi.owner.set 95 2 } }) (selected 0)
     let q : EngReq := ask ([95#8, 1#8, 5#8])
     let n : Nat := 0
     let k : Nat := 95
     let b := byteAt q.par
     b 0 ≤ 95 ∧ 0 < b 1 ∧ b 0 + b 1 ≤ 96 ∧ 1 ≤ b 2 ∧ b 2 ≤ 5 ∧ b 0 ≤ k ∧ k < b 0 + b 1 ∧ s.hw.owner k ≠ 0 ∧
       s.sys.accepts 0x40 q n) ∧
    (let s : State := tweak (fun h => { h with gpi := { h.gpi with owner := h.gpi.owner.set 95 1 } }) (selected 0)
     let q : EngReq := ask (leBytes 12 (2 ^ 95) ++ zeros 24)
     let n : Nat := 0
     (∀ k < 96, bit (fieldAt q.par 0 12) k = true → s.hw.owner k = if n = 0 then 1 else 2) ∧ s.sys.accepts 0x42 q n ∧
       (([] : List Byte)).length ≤ (s.sys.port n).rxmax) ∧
    (let s : State := selected 0
     let q : EngReq := ask (leBytes 12 (2 ^ 95) ++ zeros 24)
     let n : Nat := 0
     let k : Nat := 95
     k < 96 ∧ bit (fieldAt q.par 0 12) k = true ∧ s.hw.owner k ≠ (if n = 0 then 1 else 2) ∧ s.sys.accepts 0x42 q n) ∧
    (let s : State := en (fun e => { e with telMask := 8, telRecs := [none, none, none, some [7#8]] }) (selected 0)
     let q : EngReq := ask ([3#8])
     let n : Nat := 0
     let r : List Byte := [7#8]
     let b := byteAt q.par
     b 0 ≤ 3 ∧ bit s.hw.eng.telMask (b 0) = true ∧ s.hw.eng.telRecs[b 0]? = some (some r) ∧ s.sys.accepts 0xA0 q n ∧
       ((r : List Byte)).length ≤ (s.sys.port n).rxmax ∧ b 0 ≤ 31 ∧ s.sys.accepts 0x84 q n ∧
       (((match s.hw.recLog[b 0]? with | some x => [x.kind, x.port, x.unit, x.sub].map (BitVec.ofNat 8) ++ leBytes 4 x.a ++ leBytes 4 x.b ++ leBytes 4 x.stamp | none => zeros 16) : List Byte)).length ≤ (s.sys.port n).rxmax) ∧
    (let s : State := selected 0
     let q : EngReq := ask ([3#8])
     let n : Nat := 0
     let b := byteAt q.par
     b 0 ≤ 3 ∧ b 0 ≠ 0 ∧ bit s.hw.eng.telMask (b 0) = false ∧ s.sys.accepts 0xA0 q n ∧
       (((s.hw.sample (b 0)).2 : List Byte)).length ≤ (s.sys.port n).rxmax) ∧
    (let s : State := selected 0
     let q : EngReq := ask ([4#8])
     let n : Nat := 0
     let b := byteAt q.par
     3 < b 0 ∧ s.sys.accepts 0xA0 q n) ∧
    (let s : State := selected 0
     let q : EngReq := ask (leBytes 4 1)
     let n : Nat := 0
     fieldAt q.par 2 2 ≤ 15 ∧ s.sys.accepts 0xA1 q n ∧ (([] : List Byte)).length ≤ (s.sys.port n).rxmax) ∧
    (let s : State := selected 0
     let q : EngReq := ask (leBytes 2 1000 ++ leBytes 2 16)
     let n : Nat := 0
     15 < fieldAt q.par 2 2 ∧ s.sys.accepts 0xA1 q n) := by
  dsimp only
  and_intros <;> decide +kernel

/-- Meets the hypotheses of `Obligations.ImageCommands`, clause by clause. -/
theorem witness_ImageCommands :
    (let s : State := selected 0
     let q : EngReq := ask (leBytes 4 16777216)
     let n : Nat := 0
     let m := fieldAt q.par 0 4
     0 < m ∧ m ≤ 16777216 ∧ (∀ e, (s.hw.eft e).run = .stopped) ∧ s.sys.accepts 0x20 q n ∧
       (([] : List Byte)).length ≤ (s.sys.port n).rxmax) ∧
    (let s : State := selected 0
     let q : EngReq := ask (leBytes 4 0)
     let n : Nat := 0
     let m := fieldAt q.par 0 4
     (m = 0 ∨ 16777216 < m) ∧ s.sys.accepts 0x20 q n) ∧
    (let s : State := en (fun e => { e with img := { Img.reset with state := 1, total := 256, data := [7#8, 7#8] } }) (selected
       0)
     let q : EngReq := ask (leBytes 4 2 ++ [9#8])
     let n : Nat := 0
     let g := s.hw.eng.img
     let m := fieldAt q.par 0 4
     g.state = 1 ∧ g.src = 0 ∧ m = g.data.length ∧ g.data.length + (q.par.drop 4).length ≤ g.total ∧
       g.data.length + (q.par.drop 4).length < 256 ∧ s.sys.accepts 0x21 q n ∧ (([] : List Byte)).length ≤ (s.sys.port n).rxmax) ∧
    (let s : State := selected 0
     let q : EngReq := ask (leBytes 4 2 ++ [9#8])
     let n : Nat := 0
     let g := s.hw.eng.img
     g.state ≠ 1 ∧ s.sys.accepts 0x21 q n) ∧
    (let s : State := en (fun e => { e with img := { Img.reset with state := 2, header := image.take 256 } }) (selected 0)
     let q : EngReq := ask ([15#8])
     let n : Nat := 0
     let b := byteAt q.par
     let g := s.hw.eng.img
     2 ≤ g.state ∧ 0 < b 0 ∧ b 0 ≤ 15 ∧ s.sys.accepts 0x24 q n ∧ (([] : List Byte)).length ≤ (s.sys.port n).rxmax ∧
       s.sys.accepts 0x83 q n) ∧
    (let s : State := selected 0
     let q : EngReq := ask ([0#8])
     let n : Nat := 0
     let b := byteAt q.par
     let g := s.hw.eng.img
     g.state < 2 ∧ s.sys.accepts 0x24 q n ∧ b 0 = 0 ∧ s.sys.accepts 0x83 q n) ∧
    (let s : State := en (fun e => { e with img := { Img.reset with state := 2, header := image.take 256 } }) (selected 0)
     let q : EngReq := ask ([])
     let n : Nat := 0
     let g := s.hw.eng.img
     g.header ≠ [] ∧ s.sys.accepts 0x26 q n ∧ (((leBytes 4 (fieldAt g.header 0x0C 4) ++ leBytes 4 (fieldAt g.header 8 4) ++
       leBytes 4 (fieldAt g.header 0x10 4) ++ leBytes 4 (fieldAt g.header 0x14 4) ++
       [byteAt g.header 0x1C, byteAt g.header 6, byteAt g.header 7, g.state].map (BitVec.ofNat 8) ++ fitBytes 12 g.digest) :
       List Byte)).length ≤ (s.sys.port n).rxmax) := by
  dsimp only
  and_intros <;> decide +kernel

/-- Meets the hypotheses of `Obligations.PennantCommands`, clause by clause. -/
theorem witness_PennantCommands :
    (let s : State := selected 0
     let q : EngReq := ask ([9#8] ++ zeros 16)
     let n : Nat := 0
     let b := byteAt q.par
     b 0 ≤ 63 ∧ s.hw.pen.cells.length = 64 ∧ penCellBad (q.par.drop 1) = none ∧ s.sys.accepts 0x30 q n ∧
       (([] : List Byte)).length ≤ (s.sys.port n).rxmax) ∧
    (let s : State := selected 0
     let q : EngReq := ask ([64#8] ++ zeros 16)
     let n : Nat := 0
     let off := fieldAt q.par 0 4
     let data := q.par.drop 4
     let b := byteAt q.par
     63 < b 0 ∧ s.sys.accepts 0x30 q n ∧ off + data.length ≤ 0x80000 ∧ s.sys.accepts 0x32 q n ∧
       (([] : List Byte)).length ≤ (s.sys.port n).rxmax ∧ 31 < b 0 ∧ s.sys.accepts 0x37 q n) ∧
    (let s : State := selected 0
     let q : EngReq := ask ([63#8] ++ zeros 1 ++ [255#8] ++ zeros 14)
     let n : Nat := 0
     let i : Nat := 1
     let b := byteAt q.par
     b 0 ≤ 63 ∧ penCellBad (q.par.drop 1) = some i ∧ s.sys.accepts 0x30 q n) ∧
    (let s : State := selected 0
     let q : EngReq := ask ([64#8] ++ zeros 7)
     let n : Nat := 0
     s.sys.accepts 0x31 q n ∧ (([] : List Byte)).length ≤ (s.sys.port n).rxmax) ∧
    (let s : State := selected 0
     let q : EngReq := ask ([0#8] ++ List.replicate 31 255#8)
     let n : Nat := 0
     let i : Nat := 1
     let off := fieldAt q.par 0 4
     let data := q.par.drop 4
     0x80000 < off + data.length ∧ s.sys.accepts 0x32 q n ∧ (s.hw.voc.recs.foldl Hw.avasApply s.hw).avasBad q.par = some i ∧
       s.sys.accepts 0x38 q n) ∧
    (let s : State := selected 0
     let q : EngReq := ask ([255#8] ++ leBytes 2 1 ++ zeros 4)
     let n : Nat := 0
     let b := byteAt q.par
     q.par.length = 3 + 4 * fieldAt q.par 1 2 ∧ 0 < fieldAt q.par 1 2 ∧ b 0 + fieldAt q.par 1 2 ≤ 256 ∧
       s.sys.accepts 0x33 q n ∧ (([] : List Byte)).length ≤ (s.sys.port n).rxmax) ∧
    (let s : State := selected 0
     let q : EngReq := ask ([0#8])
     let n : Nat := 0
     let b := byteAt q.par
     b 0 ≤ 1 ∧ (b 0 = 1 → s.hw.on 31 = false ∨ s.hw.rd F.TIM_STAT_STATE ≠ 0) ∧ s.sys.accepts 0x34 q n ∧
       (([] : List Byte)).length ≤ (s.sys.port n).rxmax ∧ b 0 ≤ 8 ∧ s.sys.accepts 0x36 q n) ∧
    (let s : State := selected 0
     let q : EngReq := ask ([])
     let n : Nat := 0
     s.sys.accepts 0x35 q n ∧ ((([s.hw.pen.cause, s.hw.pen.recKind, s.hw.pen.recCell, s.hw.pen.recWatch].map (BitVec.ofNat 8)
       ++ leBytes 4 s.hw.pen.recF) : List Byte)).length ≤ (s.sys.port n).rxmax ∧ s.sys.accepts 0x39 q n ∧ (((leBytes 4 (s.hw.rd
       F.PEN_FAIL 0) ++ leBytes 4 (s.hw.rd F.PEN_FAIL 1) ++
       [b2n s.hw.pen.modeLat + 2 * b2n s.hw.pennAlarm + 4 * b2n (s.hw.pen.cells.any fun c => !c.ready) + 8 * b2n s.hw.penWatching, s.hw.pen.cause, s.hw.rd F.PEN_STAT_GAPMAX, (s.hw.pen.cells.filter fun c => c.latEn).length].map
       (BitVec.ofNat 8) ++ leBytes 4 (s.hw.rd F.PEN_CHKCNT_FRAMES)) : List Byte)).length ≤ (s.sys.port n).rxmax) ∧
    (let s : State := selected 0
     let q : EngReq := ask ([64#8] ++ zeros 0)
     let n : Nat := 0
     let b := byteAt q.par
     8 < b 0 ∧ s.sys.accepts 0x36 q n) ∧
    (let s : State := selected 0
     let q : EngReq := ask ([0#8] ++ zeros 6 ++ [32#8, 0x43#8] ++ zeros 8)
     let n : Nat := 0
     let b := byteAt q.par
     b 0 ≤ 31 ∧ sigtabBad (q.par.drop 1) = none ∧ s.sys.accepts 0x37 q n ∧ (([] : List Byte)).length ≤ (s.sys.port n).rxmax) ∧
    (let s : State := selected 0
     let q : EngReq := ask ([3#8] ++ zeros 31)
     let n : Nat := 0
     let b := byteAt q.par
     (s.hw.voc.recs.foldl Hw.avasApply s.hw).avasBad q.par = none ∧ (b 0 ≠ 3 ∨ bit (b 1) 1 = false) ∧ s.sys.accepts 0x38 q n ∧
       (([] : List Byte)).length ≤ (s.sys.port n).rxmax) := by
  dsimp only
  and_intros <;> decide +kernel

/-- Meets the hypotheses of `Obligations.PowerAndLedgerCommands`, part LedgerNvmLink, clause by clause. -/
theorem witness_PowerAndLedgerCommands_LedgerNvmLink :
    (let s : State := selected 0
     let q : EngReq := ask (leBytes 2 100)
     let n : Nat := 0
     let cap := fieldAt q.par 0 2
     100 ≤ cap ∧ cap ≤ 1400 ∧ s.hw.booked ≤ cap ∧ (∀ p < 4, s.hw.bookedOn p ≤ cap / 4) ∧ s.sys.accepts 0x50 q n ∧
       (([] : List Byte)).length ≤ (s.sys.port n).rxmax) ∧
    (let s : State := selected 0
     let q : EngReq := ask (leBytes 2 99)
     let n : Nat := 0
     let cap := fieldAt q.par 0 2
     (cap < 100 ∨ 1400 < cap) ∧ s.sys.accepts 0x50 q n) ∧
    (let s : State := put F.LDG_ACT_LU 200 (selected 0) 1
     let q : EngReq := ask (leBytes 2 100)
     let n : Nat := 0
     let cap := fieldAt q.par 0 2
     100 ≤ cap ∧ cap ≤ 1400 ∧ cap < s.hw.booked ∧ s.sys.accepts 0x50 q n) ∧
    (let s : State := selected 0
     let q : EngReq := ask ([])
     let n : Nat := 0
     s.sys.accepts 0x51 q n ∧ (((leBytes 2 s.hw.ldg.cap ++ leBytes 2 s.hw.effcap ++ leBytes 2 (s.hw.booked % 2048 + s.hw.rd
       F.LDG_STAT_REFPORT * 2048 + s.hw.rd F.LDG_STAT_OVER * 32768) ++ leBytes 2 (2 * s.hw.rd F.LDG_SHEDSTAT_SHED) ++
       ([0, 1, 2, 3] : List Nat).flatMap fun p => leBytes 2 (s.hw.bookedOn p % 4096 + b2n (s.hw.ldg.storm.getD p none).isSome *
       16384 + b2n (s.hw.ldg.margin.getD p false) * 32768)) : List Byte)).length ≤ (s.sys.port n).rxmax ∧ q.par = [] ∧
       s.sys.accepts 0x52 q n ∧ (∀ k ∈ consumers, s.hw.pendLu k = 0 ∨ s.hw.pendMask k ≠ 0) ∧ s.hw.failing (sumOver s.hw.pendLu)
       (fun p => sumOver fun k => portShare (s.hw.pendLu k) (s.hw.pendMask k) p) = none ∧ s.sys.accepts 0x53 q n ∧ (((leBytes 2
       (sumOver s.hw.pendLu) ++ leBytes 2 s.hw.ldg.cap) : List Byte)).length ≤ (s.sys.port n).rxmax) ∧
    (let s : State := selected 0
     let q : EngReq := ask ([3#8])
     let n : Nat := 0
     let b := byteAt q.par
     q.par ≠ [] ∧ q.par.length ≤ 16 ∧ (∀ c ∈ q.par, 1 ≤ c.toNat ∧ c.toNat ≤ 13) ∧ q.par.Nodup ∧ s.sys.accepts 0x52 q n ∧
       (([] : List Byte)).length ≤ (s.sys.port n).rxmax ∧ b 0 ≤ 3 ∧ s.sys.accepts 0x62 q n ∧
       (((s.nv.wearSummary (b 0)) : List Byte)).length ≤ (s.sys.port n).rxmax ∧ 1 < b 0 ∧ s.sys.accepts 0x71 q n) ∧
    (let s : State := selected 0
     let q : EngReq := ask ([3#8] ++ leBytes 4 0 ++ leBytes 2 1)
     let n : Nat := 0
     let b := byteAt q.par
     let region := fieldAt q.par 1 4
     let len := fieldAt q.par 5 2
     b 0 ≠ 2 ∧ b 0 ≤ 3 ∧ (n = 2 ∨ n = 3 → b 0 = 3) ∧ 0 < len ∧ len ≤ 4096 ∧ region + len ≤ 64 * regionRows (b 0) ∧
       s.sys.accepts 0x60 q n ∧ (((s.nv.read (b 0) region len) : List Byte)).length ≤ (s.sys.port n).rxmax) ∧
    (let s : State := selected 0
     let q : EngReq := ask ([2#8] ++ leBytes 4 0 ++ leBytes 2 1)
     let n : Nat := 0
     let b := byteAt q.par
     b 0 = 2 ∧ s.sys.accepts 0x60 q n) ∧
    (let s : State := selected 0
     let q : EngReq := ask ([1#8])
     let n : Nat := 0
     let b := byteAt q.par
     b 0 ≤ 1 ∧ s.sys.accepts 0x71 q n ∧ (((s.hw.linkStatus (b 0)) : List Byte)).length ≤ (s.sys.port n).rxmax) ∧
    (let s : State := selected 0
     let q : EngReq := ask (zeros 8)
     let n : Nat := 0
     let b := byteAt q.par
     policyBad q.par = none ∧ bit (b 7) 0 = false ∧ s.sys.accepts 0x72 q n ∧ (([] : List Byte)).length ≤ (s.sys.port n).rxmax) ∧
    (let s : State := selected 0
     let q : EngReq := ask (zeros 7 ++ [255#8])
     let n : Nat := 0
     let i : Nat := 7
     policyBad q.par = some i ∧ s.sys.accepts 0x72 q n) ∧
    (let s : State := selected 0
     let q : EngReq := ask ([3#8])
     let n : Nat := 0
     let d := s.sys
     let b := byteAt q.par
     b 0 ≤ 11 ∧ b 0 ≠ 2 ∧ 2 ≤ (d.port n).rxmax ∧ s.sys.accepts 0x80 q n) ∧
    (let s : State := selected 0
     let q : EngReq := ask ([2#8])
     let n : Nat := 0
     let b := byteAt q.par
     (b 0 = 2 ∨ 11 < b 0) ∧ s.sys.accepts 0x80 q n) := by
  dsimp only
  and_intros <;> decide +kernel

/-- Meets the hypotheses of `Obligations.RequestChecks`, part CheckingOrder, clause by clause. -/
theorem witness_RequestChecks_CheckingOrder :
    (let s : State := selected 0
     let q : EngReq := ⟨.sp, 9#8, 2#8, []⟩
     let n : Nat := 0
     let x : Instr × Nat := (.debugStatus ⟨.sp, 9#8, 2#8, []⟩, 0x91)
     let r : OpRow := (opRow 0x91).getD ⟨0, [], .imm, 0, 0⟩
     s.sys.reaches q n ∧ q.par.length ≤ 4100 ∧ opRow x.2 = some r ∧ 2 ≤ q.flags.toNat ∧ x ∈ (engineCommands q)) ∧
    (let s : State := en (fun e => { e with zero := true }) (selected 0)
     let q : EngReq := ⟨.sp, 9#8, 1#8, []⟩
     let n : Nat := 0
     let x : Instr × Nat := (.debugStatus ⟨.sp, 9#8, 1#8, []⟩, 0x91)
     let r : OpRow := (opRow 0x91).getD ⟨0, [], .imm, 0, 0⟩
     let d := s.sys
     s.sys.reaches q n ∧ q.par.length ≤ 4100 ∧ opRow x.2 = some r ∧ q.flags.toNat ≤ 1 ∧ d.zeroizing = true ∧
       x ∈ (engineCommands q)) ∧
    (let s : State := nv (fun n => { n with life := 3 }) (selected 0)
     let q : EngReq := ⟨.sp, 9#8, 1#8, zeros 40⟩
     let n : Nat := 0
     let x : Instr × Nat := (.secretStore ⟨.sp, 9#8, 1#8, zeros 40⟩, 0x66)
     let r : OpRow := (opRow 0x66).getD ⟨0, [], .imm, 0, 0⟩
     let d := s.sys
     let allowed := portCode n ∈ r.ports ∧ ¬(x.2 = 0x66 ∧ s.nv.lifecycle = 2) ∧ (4 ≤ n → s.hw.policyBars x.2 = false)
     s.sys.reaches q n ∧ q.par.length ≤ 4100 ∧ opRow x.2 = some r ∧ q.flags.toNat ≤ 1 ∧ d.zeroizing = false ∧ (¬ allowed) ∧
       x ∈ (engineCommands q)) ∧
    (let q : EngReq := ⟨.sp, 9#8, 0#8, zeros 40⟩
     let n : Nat := 0
     let x : Instr × Nat := (.secretStore ⟨.sp, 9#8, 0#8, zeros 40⟩, 0x66)
     let r : OpRow := (opRow 0x66).getD ⟨0, [], .imm, 0, 0⟩
     let s : State := en (fun e => { e with ports := e.ports.modify 0 fun p => { p with session := 1 } }) (selected 0)
     let d := s.sys
     let p := d.port n
     let allowed := portCode n ∈ r.ports ∧ ¬(x.2 = 0x66 ∧ s.nv.lifecycle = 2) ∧ (4 ≤ n → s.hw.policyBars x.2 = false)
     s.sys.reaches q n ∧ q.par.length ≤ 4100 ∧ opRow x.2 = some r ∧ q.flags.toNat ≤ 1 ∧ d.zeroizing = false ∧ allowed ∧
       p.unnegotiated x.2 = true ∧ x ∈ (engineCommands q)) ∧
    (let q : EngReq := ⟨.sp, 9#8, 0#8, List.replicate 257 1#8⟩
     let n : Nat := 0
     let x : Instr × Nat := (.nvmWrite ⟨.sp, 9#8, 0#8, List.replicate 257 1#8⟩, 0x61)
     let r : OpRow := (opRow 0x61).getD ⟨0, [], .imm, 0, 0⟩
     let s : State := en (fun e => { e with ports := e.ports.modify 0 fun p => { p with mask := 0x7FFF } }) (selected 0)
     let d := s.sys
     let p := d.port n
     let limit := if p.session = 2 ∧ bit p.mask 15 then 4100 else 256
     let allowed := portCode n ∈ r.ports ∧ ¬(x.2 = 0x66 ∧ s.nv.lifecycle = 2) ∧ (4 ≤ n → s.hw.policyBars x.2 = false)
     s.sys.reaches q n ∧ q.par.length ≤ 4100 ∧ opRow x.2 = some r ∧ q.flags.toNat ≤ 1 ∧ d.zeroizing = false ∧ allowed ∧
       p.unnegotiated x.2 = false ∧ limit < q.par.length ∧ x ∈ (engineCommands q)) ∧
    (let q : EngReq := ⟨.sp, 9#8, 1#8, []⟩
     let n : Nat := 0
     let x : Instr × Nat := (.debugStatus ⟨.sp, 9#8, 1#8, []⟩, 0x91)
     let r : OpRow := (opRow 0x91).getD ⟨0, [], .imm, 0, 0⟩
     let k : List Byte := [5#8]
     let s : State := en (fun e => { e with ports := e.ports.modify 0 fun p => { p with stored := some (0x91, 9, [5#8]) } })
       (selected 0)
     let d := s.sys
     let p := d.port n
     let limit := if p.session = 2 ∧ bit p.mask 15 then 4100 else 256
     let allowed := portCode n ∈ r.ports ∧ ¬(x.2 = 0x66 ∧ s.nv.lifecycle = 2) ∧ (4 ≤ n → s.hw.policyBars x.2 = false)
     s.sys.reaches q n ∧ q.par.length ≤ 4100 ∧ opRow x.2 = some r ∧ q.flags.toNat ≤ 1 ∧ d.zeroizing = false ∧ allowed ∧
       p.unnegotiated x.2 = false ∧ q.par.length ≤ limit ∧ q.flags = 1#8 ∧ p.stored = some (x.2, q.seq.toNat, k) ∧
       x ∈ (engineCommands q)) ∧
    (let s : State := en (fun e => { e with job := some ⟨0, 0x70, 3, [], none⟩ }) (selected 0)
     let q : EngReq := ⟨.sp, 9#8, 0#8, [1#8]⟩
     let n : Nat := 0
     let x : Instr × Nat := (.bankRetire ⟨.sp, 9#8, 0#8, [1#8]⟩, 0x82)
     let r : OpRow := (opRow 0x82).getD ⟨0, [], .imm, 0, 0⟩
     let d := s.sys
     let p := d.port n
     let limit := if p.session = 2 ∧ bit p.mask 15 then 4100 else 256
     let allowed := portCode n ∈ r.ports ∧ ¬(x.2 = 0x66 ∧ s.nv.lifecycle = 2) ∧ (4 ≤ n → s.hw.policyBars x.2 = false)
     s.sys.reaches q n ∧ q.par.length ≤ 4100 ∧ opRow x.2 = some r ∧ q.flags.toNat ≤ 1 ∧ d.zeroizing = false ∧ allowed ∧
       p.unnegotiated x.2 = false ∧ q.par.length ≤ limit ∧ q.flags = 0#8 ∧ d.held r q.par = true ∧ x ∈ (engineCommands q)) ∧
    (let s : State := selected 0
     let q : EngReq := ⟨.sp, 9#8, 0#8, [0#8]⟩
     let n : Nat := 0
     let x : Instr × Nat := (.debugStatus ⟨.sp, 9#8, 0#8, [0#8]⟩, 0x91)
     let r : OpRow := (opRow 0x91).getD ⟨0, [], .imm, 0, 0⟩
     let d := s.sys
     let p := d.port n
     let limit := if p.session = 2 ∧ bit p.mask 15 then 4100 else 256
     let allowed := portCode n ∈ r.ports ∧ ¬(x.2 = 0x66 ∧ s.nv.lifecycle = 2) ∧ (4 ≤ n → s.hw.policyBars x.2 = false)
     s.sys.reaches q n ∧ q.par.length ≤ 4100 ∧ opRow x.2 = some r ∧ q.flags.toNat ≤ 1 ∧ d.zeroizing = false ∧ allowed ∧
       p.unnegotiated x.2 = false ∧ q.par.length ≤ limit ∧ q.flags = 0#8 ∧ d.held r q.par = false ∧ d.misfit r q.par = true ∧
       x ∈ (engineCommands q)) := by
  dsimp only
  and_intros <;> decide +kernel

/-- Meets the hypotheses of `Obligations.RequestChecks`, part OneCommandAtATime, clause by clause. -/
theorem witness_RequestChecks_OneCommandAtATime :
    (let s : State := en (fun e => { e with ports := e.ports.modify 1 fun p => { p with exec := some (3, 4) } }) (put
       F.BRG_POLICY_BYTES 0x30 (selected 1))
     let q : EngReq := ⟨.hp, 9#8, 2#8, []⟩
     let x : Instr × Nat := (.status ⟨.hp, 9#8, 2#8, []⟩, 3)
     let d := s.sys
     q.port = .hp ∧ s.sys.hpListens = true ∧ (d.port 1).exec ≠ none ∧ x ∈ (engineCommands q)) ∧
    (let s : State := en (fun e => { e with ports := e.ports.modify 1 fun p => { p with ready := some [1#8] } }) (put
       F.BRG_POLICY_BYTES 0x30 (selected 1))
     let q : EngReq := ⟨.hp, 9#8, 2#8, []⟩
     let x : Instr × Nat := (.status ⟨.hp, 9#8, 2#8, []⟩, 3)
     let d := s.sys
     q.port = .hp ∧ s.sys.hpListens = true ∧ (d.port 1).exec = none ∧ (d.port 1).ready ≠ none ∧ q.flags = 2#8 ∧
       q.par.length ≤ 4100 ∧ x ∈ (engineCommands q)) := by
  dsimp only
  and_intros <;> decide +kernel

/-- Meets the hypotheses of `Obligations.ClassNCommands`, part ClassN, clause by clause. -/
theorem witness_ClassNCommands_ClassN :
    (let s : State := selected 0
     let q : EngReq := ask (leBytes 7 (2 ^ 49))
     let n : Nat := 0
     let b := byteAt q.par
     let v := s.nv
     let m := fieldAt q.par 0 7
     n < 8 ∧ s.hw.eng.ports.length = 8 ∧ s.hw.eng.ncur = none ∧ s.hw.eng.nq = [] ∧ m < 2 ^ 50 ∧
       needsHold ((List.range 50).filter fun k => bit m k || [0, 1, 21, 48].contains k) = true ∧ v.fresh < 32768 ∧
       s.sys.accepts 0x15 q n ∧ b 0 ≠ 3 ∧ s.sys.accepts 0x61 q n) ∧
    (let s : State := selected 0
     let q : EngReq := ask (leBytes 7 (2 ^ 50))
     let n : Nat := 0
     let m := fieldAt q.par 0 7
     n < 8 ∧ s.hw.eng.ports.length = 8 ∧ s.hw.eng.ncur = none ∧ s.hw.eng.nq = [] ∧ 2 ^ 50 ≤ m ∧ s.sys.accepts 0x15 q n) ∧
    (let s : State := nv (fun n => { n with prg := 8 }) (selected 0)
     let q : EngReq := ask ([1#8])
     let n : Nat := 0
     let b := byteAt q.par
     let v := s.nv
     n < 8 ∧ s.hw.eng.ports.length = 8 ∧ s.hw.eng.ncur = none ∧ s.hw.eng.nq = [] ∧ b 0 ≤ 4 ∧ v.fresh < 32768 ∧
       s.sys.accepts 0x16 q n ∧ (v.lifecycle = 0 ∧ b 0 = 1 ∧ (∃ k < 4, v.liveSlot k = true) ∨ v.lifecycle = 1 ∧ b 0 = 2) ∧
       s.sys.accepts 0x92 q n ∧ b 0 ≤ 3 ∧ bit v.rev (b 0) = false ∧
       (v.liveSlot (b 0) = true → ∃ k < 4, k ≠ b 0 ∧ v.liveSlot k = true) ∧ s.sys.accepts 0x94 q n) ∧
    (let s : State := selected 0
     let q : EngReq := ask ([5#8])
     let n : Nat := 0
     let b := byteAt q.par
     n < 8 ∧ s.hw.eng.ports.length = 8 ∧ s.hw.eng.ncur = none ∧ s.hw.eng.nq = [] ∧ 4 < b 0 ∧ s.sys.accepts 0x16 q n) ∧
    (let s : State := selected 0
     let q : EngReq := ask ([3#8] ++ zeros 32)
     let n : Nat := 0
     let b := byteAt q.par
     let v := s.nv
     let rows := fun (off len : Nat) => (off + len - 1) / 64 + 1 - off / 64
     let off := fieldAt q.par 1 4
     let len := q.par.length - 5
     n < 8 ∧ s.hw.eng.ports.length = 8 ∧ s.hw.eng.ncur = none ∧ s.hw.eng.nq = [] ∧ b 0 = 3 ∧ 6 ≤ q.par.length ∧
       off + len ≤ 0x100000 ∧ v.fresh + rows off len ≤ 32768 ∧ s.sys.accepts 0x61 q n ∧ v.lifecycle = 0 ∧ b 0 ≤ 3 ∧
       bit v.prg (b 0) = false ∧ bit v.rev (b 0) = false ∧ s.sys.accepts 0x93 q n) ∧
    (let s : State := selected 0
     let q : EngReq := ask (leBytes 7 (2 ^ 49))
     let n : Nat := 0
     let b := byteAt q.par
     let v := s.nv
     let rows := fun (off len : Nat) => (off + len - 1) / 64 + 1 - off / 64
     let off := fieldAt q.par 1 2
     let len := q.par.length - 3
     n < 8 ∧ s.hw.eng.ports.length = 8 ∧ s.hw.eng.ncur = none ∧ s.hw.eng.nq = [] ∧
       (b 0 = 0 ∨ b 0 = 1 ∧ n = 0 ∧ v.factoryLock = false) ∧ 4 ≤ q.par.length ∧ off + len ≤ 0x4000 ∧
       v.fresh + rows off len ≤ 32768 ∧ s.sys.accepts 0x63 q n) ∧
    (let s : State := (put F.BRG_POLICY_BYTES 0x30 (selected 1))
     let q : EngReq := ⟨.hp, 9#8, 0#8, [1#8] ++ leBytes 2 0 ++ [1#8]⟩
     let n : Nat := 1
     let b := byteAt q.par
     n < 8 ∧ s.hw.eng.ports.length = 8 ∧ s.hw.eng.ncur = none ∧ s.hw.eng.nq = [] ∧ b 0 = 1 ∧ n = 1 ∧ s.sys.accepts 0x63 q n) ∧
    (let s : State := nv (fun n => { n with factoryLock := true }) (selected 0)
     let q : EngReq := ask ([1#8] ++ leBytes 2 0 ++ [1#8])
     let n : Nat := 0
     let b := byteAt q.par
     let v := s.nv
     n < 8 ∧ s.hw.eng.ports.length = 8 ∧ s.hw.eng.ncur = none ∧ s.hw.eng.nq = [] ∧ b 0 = 1 ∧ n = 0 ∧ v.factoryLock = true ∧
       s.sys.accepts 0x63 q n) ∧
    (let s : State := nv (fun n => { n with rows := [(3, List.replicate 64 7#8)] }) (selected 0)
     let q : EngReq := ask ([])
     let n : Nat := 0
     let v := s.nv
     let changed := (List.range 256).filter fun k => v.rowBytes (v.phys (256 + k)) ≠ v.rowBytes (v.phys k)
     n < 8 ∧ s.hw.eng.ports.length = 8 ∧ s.hw.eng.ncur = none ∧ s.hw.eng.nq = [] ∧ changed ≠ [] ∧
       v.fresh + changed.length ≤ 32768 ∧ s.sys.accepts 0x64 q n ∧ v.factoryLock = false ∧ v.fresh < 32768 ∧
       s.sys.accepts 0x65 q n) ∧
    (let s : State := nv (fun n => { n with factoryLock := true }) (selected 0)
     let q : EngReq := ask ([])
     let n : Nat := 0
     let v := s.nv
     let changed := (List.range 256).filter fun k => v.rowBytes (v.phys (256 + k)) ≠ v.rowBytes (v.phys k)
     n < 8 ∧ s.hw.eng.ports.length = 8 ∧ s.hw.eng.ncur = none ∧ s.hw.eng.nq = [] ∧ changed = [] ∧ s.sys.accepts 0x64 q n ∧
       v.factoryLock = true ∧ s.sys.accepts 0x65 q n) ∧
    (let s : State := en (fun e => { e with devKey := some 3 }) (selected 0)
     let q : EngReq := ask ([0#8] ++ zeros 1)
     let n : Nat := 0
     let b := byteAt q.par
     let v := s.nv
     n < 8 ∧ s.hw.eng.ports.length = 8 ∧ s.hw.eng.ncur = none ∧ s.hw.eng.nq = [] ∧ s.hw.eng.devKey ≠ none ∧
       bit (b 0) 6 = false ∧ v.spares.Nodup ∧ 2 ≤ v.spares.length ∧ s.sys.accepts 0x66 q n) ∧
    (let s : State := nv (fun n => { n with life := 3 }) (selected 0)
     let q : EngReq := ask ([1#8])
     let n : Nat := 0
     let v := s.nv
     n < 8 ∧ s.hw.eng.ports.length = 8 ∧ s.hw.eng.ncur = none ∧ s.hw.eng.nq = [] ∧ v.lifecycle = 2 ∧ s.sys.accepts 0x92 q n) ∧
    (let s : State := nv (fun n => { n with life := 1 }) (selected 0)
     let q : EngReq := ask ([3#8] ++ zeros 32)
     let n : Nat := 0
     let v := s.nv
     n < 8 ∧ s.hw.eng.ports.length = 8 ∧ s.hw.eng.ncur = none ∧ s.hw.eng.nq = [] ∧ v.lifecycle ≠ 0 ∧ s.sys.accepts 0x93 q n) ∧
    (let s : State := nv (fun n => { n with prg := 8 }) (selected 0)
     let q : EngReq := ask ([3#8])
     let n : Nat := 0
     let b := byteAt q.par
     let v := s.nv
     n < 8 ∧ s.hw.eng.ports.length = 8 ∧ s.hw.eng.ncur = none ∧ s.hw.eng.nq = [] ∧ b 0 ≤ 3 ∧ v.liveSlot (b 0) = true ∧
       (∀ k < 4, k ≠ b 0 → v.liveSlot k = false) ∧ s.sys.accepts 0x94 q n) := by
  dsimp only
  and_intros <;> decide +kernel

/-- Meets the hypotheses of `Obligations.ClassNCommands`, part ClassNQueue, clause by clause. -/
theorem witness_ClassNCommands_ClassNQueue :
    (let s : State := en (fun e => { e with ncur := some ⟨1, 0x16, 2, [0#8]⟩ }) (selected 0)
     let q : EngReq := ask ([4#8])
     let n : Nat := 0
     let c : NReq := ⟨1, 0x16, 2, [0#8]⟩
     n < 8 ∧ s.hw.eng.ports.length = 8 ∧ s.hw.eng.ncur = some c ∧ byteAt q.par 0 ≤ 4 ∧ s.sys.accepts 0x16 q n) ∧
    (let s : State := en (fun e => { e with nq := [⟨1, 0x16, 2, [4#8]⟩] }) (selected 0)
     let n : Nat := 0
     let x : NReq := ⟨1, 0x16, 2, [4#8]⟩
     let rest : List NReq := []
     n < 8 ∧ s.hw.eng.ports.length = 8 ∧ s.hw.eng.ncur = none ∧ s.hw.eng.nq = x :: rest ∧ s.sys.zeroizing = false ∧
       s.hw.eng.jobOp ≠ 0x90 ∧ x.op = 0x16 ∧ byteAt x.par 0 ≤ 4 ∧ s.nv.fresh < 32768) := by
  dsimp only
  and_intros <;> decide +kernel

/-- Meets the hypotheses of `Obligations.ClassJCommands`, part ClassJ, clause by clause. -/
theorem witness_ClassJCommands :
    (let s : State := nv (fun n => { n with life := 1 }) (selected 0)
     let q : EngReq := ask ([])
     let n : Nat := 0
     n < 8 ∧ s.hw.eng.ports.length = 8 ∧ s.hw.pwr.dom.length = 50 ∧ (∀ m ∈ [0, 1, 6], s.hw.masterBusy m = false) ∧
       s.hw.on 2 = true ∧ s.hw.eng.img.header = [] ∧ s.sys.accepts 0x04 q n ∧ s.hw.eng.img.state ≠ 1 ∧ s.sys.accepts 0x22 q n ∧
       (∀ e, (s.hw.eft e).out = []) ∧ s.sys.accepts 0x25 q n ∧ s.sys.accepts 0x70 q n ∧ s.sys.accepts 0x81 q n) ∧
    (let s : State := pw (fun p => { p with dom := p.dom.set 34 .off }) (tweak (fun h =>
       { h with mtx := { h.mtx with out := [⟨0, 0, 0x2000, false, 4, 1, [], false, false⟩] } }) (selected 0))
     let q : EngReq := ask ([])
     let n : Nat := 0
     n < 8 ∧ s.hw.eng.ports.length = 8 ∧ s.hw.pwr.dom.length = 50 ∧ (∃ m ∈ [0, 1, 6], s.hw.masterBusy m = true) ∧
       s.hw.on 34 = false ∧ s.sys.accepts 0x04 q n) ∧
    (let s : State := selected 0
     let q : EngReq := ask ([2#8, 0#8])
     let n : Nat := 0
     let b := byteAt q.par
     n < 8 ∧ s.hw.eng.ports.length = 8 ∧ s.hw.pwr.dom.length = 50 ∧ s.hw.pwr.failSafe = false ∧
       (n ≠ 0 → s.hw.guarded (fun _ => true) = false) ∧ b 1 ≤ 1 ∧ s.hw.pstate = 2 ∧ b 0 = 2 ∧ s.sys.accepts 0x10 q n) ∧
    (let s : State := selected 0
     let q : EngReq := ask ([1#8, 1#8])
     let n : Nat := 0
     let b := byteAt q.par
     n < 8 ∧ s.hw.eng.ports.length = 8 ∧ s.hw.pwr.dom.length = 50 ∧ s.hw.pwr.failSafe = false ∧
       (n ≠ 0 → s.hw.guarded (fun _ => true) = false) ∧ b 1 ≤ 1 ∧ s.hw.pstate = 2 ∧ b 0 = 1 ∧ s.sys.accepts 0x10 q n) ∧
    (let s : State := put F.SYS_STATE_STATE 1 (selected 0)
     let q : EngReq := ask ([2#8, 0#8])
     let n : Nat := 0
     let b := byteAt q.par
     n < 8 ∧ s.hw.eng.ports.length = 8 ∧ s.hw.pwr.dom.length = 50 ∧ s.hw.pwr.failSafe = false ∧
       (n ≠ 0 → s.hw.guarded (fun _ => true) = false) ∧ b 1 ≤ 1 ∧ s.hw.pstate = 1 ∧ b 0 = 2 ∧ s.sys.accepts 0x10 q n) ∧
    (let s : State := put F.SYS_STATE_STATE 1 (selected 0)
     let q : EngReq := ask ([0#8, 1#8])
     let n : Nat := 0
     let b := byteAt q.par
     n < 8 ∧ s.hw.eng.ports.length = 8 ∧ s.hw.pwr.dom.length = 50 ∧ s.hw.pwr.failSafe = false ∧
       (n ≠ 0 → s.hw.guarded (fun _ => true) = false) ∧ b 1 ≤ 1 ∧ s.hw.pstate = 1 ∧ b 0 = 0 ∧ s.sys.accepts 0x10 q n) ∧
    (let s : State := selected 0
     let q : EngReq := ask (leBytes 7 0 ++ leBytes 7 (2 ^ 45))
     let n : Nat := 0
     let b := byteAt q.par
     let d := s.sys
     n < 8 ∧ s.hw.eng.ports.length = 8 ∧ s.hw.pwr.dom.length = 50 ∧ d.domainCheck n q.par = none ∧
       (∃ k < 50, bit (fieldAt q.par 7 7) k = true ∧ s.hw.on k = true) ∧ s.sys.accepts 0x11 q n ∧
       s.hw.reachable (b 0) = false ∧ s.sys.accepts 0x74 q n) ∧
    (let s : State := selected 0
     let q : EngReq := ask (leBytes 7 (2 ^ 45) ++ leBytes 7 (2 ^ 45))
     let n : Nat := 0
     let st : Nat := 6
     let data : List Byte := [0xFF#8, 0xFF#8]
     let d := s.sys
     n < 8 ∧ s.hw.eng.ports.length = 8 ∧ s.hw.pwr.dom.length = 50 ∧ d.domainCheck n q.par = some (st, data) ∧
       s.sys.accepts 0x11 q n) ∧
    (let s : State := en (fun e => { e with img := { Img.reset with state := 1, data := [7#8], total := 1 } }) (selected 0)
     let q : EngReq := ask ([])
     let n : Nat := 0
     n < 8 ∧ s.hw.eng.ports.length = 8 ∧ s.hw.pwr.dom.length = 50 ∧ s.hw.eng.img.state = 1 ∧ s.hw.eng.img.src = 0 ∧
       s.hw.eng.img.data.length = s.hw.eng.img.total ∧ s.sys.accepts 0x22 q n) ∧
    (let s : State := selected 0
     let q : EngReq := ask ([1#8, 0x43#8, 1#8, 0#8])
     let n : Nat := 0
     let b := byteAt q.par
     n < 8 ∧ s.hw.eng.ports.length = 8 ∧ s.hw.pwr.dom.length = 50 ∧ s.sys.accepts 0x23 q n ∧ b 0 ≤ 1 ∧ b 1 / 16 ≤ 4 ∧
       b 1 % 16 ≤ 3 ∧ fieldAt q.par 2 2 ≠ 0 ∧ s.hw.brg.ports.length = 2 ∧ s.sys.accepts 0x73 q n) ∧
    (let s : State := tweak (fun h => h.wr F.BRG_REACH_BITS 0x80000000 3) (selected 0)
     let q : EngReq := ask ([127#8] ++ zeros 8)
     let n : Nat := 0
     let b := byteAt q.par
     n < 8 ∧ s.hw.eng.ports.length = 8 ∧ s.hw.pwr.dom.length = 50 ∧ s.hw.reachable (b 0) = true ∧ s.sys.accepts 0x74 q n) ∧
    (let s : State := selected 0
     let q : EngReq := ask ([15#8])
     let n : Nat := 0
     let b := byteAt q.par
     n < 8 ∧ s.hw.eng.ports.length = 8 ∧ s.hw.pwr.dom.length = 50 ∧ b 0 ≤ 15 ∧ b 0 ∉ s.hw.mtx.retired ∧ s.sys.accepts 0x82 q n) ∧
    (let s : State := tweak (fun h => { h with mtx := { h.mtx with retired := [15] } }) (selected 0)
     let q : EngReq := ask ([15#8])
     let n : Nat := 0
     let b := byteAt q.par
     n < 8 ∧ s.hw.eng.ports.length = 8 ∧ s.hw.pwr.dom.length = 50 ∧ b 0 ≤ 15 ∧ b 0 ∈ s.hw.mtx.retired ∧ s.sys.accepts 0x82 q n) ∧
    (let s : State := nv (fun n => { n with life := 1 }) (selected 0)
     let q : EngReq := ask ([])
     let n : Nat := 0
     let d := s.sys
     n < 8 ∧ s.hw.eng.ports.length = 8 ∧ s.hw.pwr.dom.length = 50 ∧ d.debugOpen = false ∧ s.hw.eng.ncur = none ∧
       s.hw.eng.zero = false ∧ s.hw.eng.work = [] ∧ s.sys.accepts 0x90 q n) := by
  dsimp only
  and_intros <;> decide +kernel

/-- Meets the hypotheses of `Obligations.PortTransactions`, part PortTransactions, clause by clause. -/
theorem witness_PortTransactions_PortTransactions :
    (let s : State := (put F.BRG_POLICY_BYTES 0x30 (selected 1))
     let q : EngReq := ⟨.hp, 9#8, 0#8, []⟩
     let quad : Bool := false
     let x : Instr × Nat := (.status ⟨.hp, 9#8, 0#8, []⟩, 3)
     let bs : List Byte := [1#8]
     let d := s.sys
     d.spListens = true ∧ bs.head? ≠ some 0xA5#8 ∧ d.hpListens = true ∧
       (quad = false ∨ (d.port 1).session = 2 ∧ bit (d.port 1).mask 16 = true) ∧ q.port = .hp ∧ q.par.length ≤ 4100 ∧
       x ∈ (engineCommands q) ∧ d.dpListens = true) ∧
    (let s : State := selected 0
     let body : List Byte := [0xA5#8, 3#8, 0#8, 0#8, 1#8, 0#8]
     let crc : Nat := 65535
     let q : EngReq := ask ([])
     let x : Instr × Nat := (.status (ask ([])), 3)
     let d := s.sys
     d.spListens = true ∧ q.port = .sp ∧ q.par.length ≤ 4100 ∧ x ∈ (engineCommands q) ∧ 6 ≤ body.length ∧
       body.head? = some 0xA5#8 ∧ fieldAt body 2 2 = body.length - 6 ∧ fieldAt body 2 2 ≤ 4100 ∧ s.hw.pwr.goal ≠ .enter .deep ∧
       (d.port 0).exec = none ∧ (d.port 0).ready = none ∧ crc < 65536 ∧ crc ≠ crc16 body) ∧
    (let s : State := pw (fun p => { p with dom := p.dom.set 1 .off, goal := .enter .deep }) (put F.SYS_STATE_STATE 0 here)
     let d := s.sys
     d.spListens = false ∧ s.hw.pwr.inPor = false) ∧
    (let s : State := (put F.BRG_POLICY_BYTES 0x30 (selected 1))
     let bs : List Byte := [1#8]
     let quad : Bool := false
     let d := s.sys
     d.hpListens = true ∧ (quad = false ∨ (d.port 1).session = 2 ∧ bit (d.port 1).mask 16 = true) ∧ bs.head? ≠ some 0xA5#8) ∧
    (let s : State := en (fun e => { e with ports := e.ports.modify 1 fun p => { p with session := 1 } }) (put
       F.BRG_POLICY_BYTES 0x30 (selected 1))
     let quad : Bool := true
     let d := s.sys
     d.hpListens = true ∧ quad = true ∧ (d.port 1).session ≠ 2) ∧
    (let s : State := en (fun e => { e with debugOpen := true }) (selected 3)
     let q : EngReq := ⟨.dp, 9#8, 0#8, []⟩
     let x : Instr × Nat := (.status ⟨.dp, 9#8, 0#8, []⟩, 3)
     let d := s.sys
     d.dpListens = true ∧ q.port = .dp ∧ q.par.length ≤ 4100 ∧ x ∈ (engineCommands q)) := by
  dsimp only
  and_intros <;> decide +kernel

/-- Meets the hypotheses of `Obligations.Mailbox`, clause by clause. -/
theorem witness_Mailbox :
    (let s : State := en (fun e => { e with ports := e.ports.modify 2 fun p => { p with ready := some [1#8] } }) (selected 2)
     let m : Fin 12 := 1
     let p : List Byte := [1#8]
     let d := s.sys
     s.hw.on 2 = true ∧ s.hw.reaches m = true ∧ s.hw.rdB F.MBX_CTRL_SEND = false ∧ (d.port 2).ready = some p ∧
       s.hw.eng.ports.length = 8 ∧ s.hw.rdB F.MBX_STAT_RFULL = false ∧ s.hw.pstate = 2 ∧ p.length ≤ 4104) ∧
    (let s : State := tweak (fun h => h.wr F.MBX_CTRL_SEND 1) (selected 2)
     let m : Fin 12 := 1
     let d := s.sys
     let buffer := (List.range 1027).flatMap fun k => leBytes 4 (s.hw.rd F.MBX_REQUEST k)
     s.hw.on 2 = true ∧ s.hw.reaches m = true ∧ s.hw.rdB F.MBX_CTRL_SEND = true ∧ d.mbListens = true ∧ byteAt buffer 0 ≠ 0xA5) := by
  dsimp only
  and_intros <;> decide +kernel

/-- Meets the hypotheses of `Obligations.EngineEvents`, clause by clause. -/
theorem witness_EngineEvents :
    (let s : State := en (fun e => { e with job := some ⟨0, 0x82, 5, [], some (0, [])⟩ }) (selected 0)
     let j : Job := ⟨0, 0x82, 5, [], some (0, [])⟩
     let a : Answer := (0, [])
     s.hw.eng.job = some j ∧ j.result = some a) ∧
    (let s : State := en (fun e => { e with telPeriod := 0 }) (selected 0)
     let p : Fin 4 := 3
     s.hw.eng.job = none ∧ s.hw.eng.telPeriod = 0 ∧ s.hw.on 21 = true ∧ s.hw.ldg.wbq.getD p [] = []) ∧
    (let s : State := en (fun e => { e with job := some ⟨3, 0x74, 5, [1#8], none⟩ }) (selected 0)
     let d := s.sys
     let j : Job := ⟨3, 0x74, 5, [1#8], none⟩
     s.hw.eng.job = some j ∧ j.result = none ∧ j.op = 0x74 ∧ j.port < 4 ∧ s.hw.eng.ports.length = 8 ∧ d.spListens = true ∧
       s.hw.eng.telPeriod ≠ 0 ∧ s.hw.eng.telRecs.length = 4) ∧
    (let s : State := en (fun e => { e with job := some ⟨0, 0x70, 5, leBytes 8 0, none⟩ }) (selected 0)
     let j : Job := ⟨0, 0x70, 5, leBytes 8 0, none⟩
     s.hw.eng.job = some j ∧ j.result = none ∧ j.op = 0x70 ∧ j.par = leBytes 8 s.hw.brg.enumCount ∧ j.port < 4 ∧
       s.hw.eng.ports.length = 8) ∧
    (let s : State := en (fun e => { e with job := some ⟨0, 0x70, 5, leBytes 8 1, none⟩ }) (selected 0)
     let j : Job := ⟨0, 0x70, 5, leBytes 8 1, none⟩
     let d := s.sys
     s.hw.eng.job = some j ∧ j.result = none ∧ j.op = 0x70 ∧ leBytes 8 s.hw.brg.enumCount ≠ j.par ∧ j.port < 4 ∧
       s.hw.eng.ports.length = 8 ∧ (d.port j.port).discard = false) ∧
    (let s : State := en (fun e => { e with job := some ⟨0, 0x73, 5, [0#8, 0x43#8, 1#8, 0#8], none⟩ }) (selected 0)
     let j : Job := ⟨0, 0x73, 5, [0#8, 0x43#8, 1#8, 0#8], none⟩
     let d := s.sys
     s.hw.eng.job = some j ∧ j.op = 0x73 ∧ j.port < 4 ∧ s.hw.eng.ports.length = 8 ∧ (d.port j.port).discard = false ∧
       byteAt j.par 1 / 16 ≠ 3) ∧
    (let s : State := pw (fun p => { p with dom := p.dom.set 19 .off }) (selected 0)
     let b : Fin 16 := 15
     s.hw.on 21 = true ∧ s.hw.bankUp b = false) := by
  dsimp only
  and_intros <;> decide +kernel

/-- Meets the hypotheses of `Obligations.PortTransactions`, part CommandPackets, clause by clause. -/
theorem witness_PortTransactions_CommandPackets :
    (let s : State := put F.BRG_REACH_BITS 0x80000000 (put F.BRG_STAT_TOPO 1 (put F.BRG_P_STAT_STATE 3 (put F.BRG_STAT_ID 4
       (put F.BRG_POLICY_BYTES 0x00020030 here)) 1)) 0
     let p : Fin 2 := 1
     let k : LPkt := ⟨1, 4, 9, 7, 0, true, [], false⟩
     s.hw.portUp p = true ∧ k.crcOk = false ∧ s.hw.on 21 = true ∧
       (∃ n < 128, bit (s.hw.rd F.BRG_REACH_BITS (n / 32)) (n % 32) = true ∧ s.hw.leadsTo n = false)) ∧
    (let s : State := put F.BRG_P_STAT_STATE 3 (put F.BRG_STAT_ID 4 (put F.BRG_POLICY_BYTES 0x00020030 here)) 1
     let p : Fin 2 := 1
     let k : LPkt := ⟨1, 4, 9, 7, 0, true, withCrc ([0xA5#8] ++ leBytes 1 3 ++ leBytes 2 0 ++ [9#8, 0#8] ++ []), true⟩
     let q : EngReq := ⟨.lk 9 7, 9#8, 0#8, []⟩
     let node : Fin 128 := 9
     let tag : Fin 256 := 7
     let x : Instr × Nat := (.status ⟨.lk 9 7, 9#8, 0#8, []⟩, 3)
     s.hw.portUp p = true ∧ k.crcOk = true ∧ k.dst = s.hw.nodeId ∧ k.frag = 0 ∧ k.last = true ∧ k.kind = 1 ∧
       q.port = .lk node tag ∧ k.src = node.val ∧ k.tag = tag.val ∧ s.hw.answersTo k.src k.tag 1 = [] ∧ q.par.length ≤ 1008 ∧
       k.payload = withCrc ([0xA5#8] ++ leBytes 1 x.2 ++ leBytes 2 q.par.length ++ [q.seq, q.flags] ++ q.par) ∧
       x ∈ (engineCommands q)) ∧
    (let s : State := en (fun e =>
       { e with job := some ⟨0, 0x74, 5, [9#8, 7#8], none⟩, ports := e.ports.modify 0 fun p => { p with rxmax := 24 } }) (put
       F.BRG_P_STAT_STATE 3 (put F.BRG_STAT_ID 4 (put F.BRG_POLICY_BYTES 0x00020030 here)) 1)
     let p : Fin 2 := 1
     let k : LPkt := ⟨2, 4, 9, 7, 0, true, zeros 24, true⟩
     let j : Job := ⟨0, 0x74, 5, [9#8, 7#8], none⟩
     s.hw.portUp p = true ∧ k.crcOk = true ∧ k.dst = s.hw.nodeId ∧ k.frag = 0 ∧ k.last = true ∧ k.kind = 2 ∧
       s.hw.eng.job = some j ∧ j.op = 0x74 ∧ j.result = none ∧ byteAt j.par 0 = k.src ∧ byteAt j.par 1 = k.tag ∧
       k.payload.length ≤ min 4096 (s.sys.port j.port).rxmax) := by
  dsimp only
  and_intros <;> decide +kernel

/-- Meets the hypotheses of `Obligations.MatrixTraffic`, part MatrixRequests, clause by clause. -/
theorem witness_MatrixTraffic_MatrixRequests :
    (let r : MReq := ⟨1, 0, 0xFFFFFC, false, 4, 1, [], false, false⟩
     let i : Nat := 0
     let s : State := tweak (fun h =>
       { h with mtx := { h.mtx with held := [⟨1, 0, 0xFFFFFC, false, 4, 1, [], false, false⟩] } }) (here)
     let h := s.hw
     let same := fun (q : MReq) => q.master = r.master ∧ q.id = r.id
     let waits := (∃ q ∈ h.mtx.out, same q ∧ reqTarget q ≠ reqTarget r) ∨ (∃ q ∈ h.mtx.held, same q) ∨ 8 ≤ h.outCount r.master
       r.write ∨ ∃ q ∈ h.mtx.stalled, same q.1
     s.hw.on 21 = true ∧ s.hw.silent r.master = false ∧ waits ∧ h.mtx.held[i]? = some r ∧
       h.heldBack (h.mtx.held.take i) r = false ∧ h.decodeErr r = none) ∧
    (let s : State := here
     let r : MReq := ⟨1, 0, 0xFFFFFC, false, 4, 1, [], false, false⟩
     let h := s.hw
     let free := h.heldBack h.mtx.held r = false
     s.hw.on 21 = true ∧ s.hw.silent r.master = false ∧ free ∧ h.decodeErr r = none) ∧
    (let s : State := here
     let r : MReq := ⟨1, 0, 0x05000000, false, 4, 1, [], false, false⟩
     let h := s.hw
     let free := h.heldBack h.mtx.held r = false
     s.hw.on 21 = true ∧ s.hw.silent r.master = false ∧ free ∧ targetOf r.addr = none ∧ h.brg.serving = []) ∧
    (let s : State := here
     let r : MReq := ⟨3, 0, 0x04000000, false, 4, 1, [], false, false⟩
     let h := s.hw
     let free := h.heldBack h.mtx.held r = false
     s.hw.on 21 = true ∧ s.hw.silent r.master = false ∧ free ∧
       (∃ t ∈ targetOf r.addr, (pathOf r.master t = 0 ∨ r.write = true ∧ pathOf r.master t = 1)) ∧ h.brg.serving = []) ∧
    (let r : MReq := ⟨1, 0, 0xFFFFFC, false, 4, 1, [], false, false⟩
     let i : Nat := 1
     let s : State := tweak (fun h =>
       { h with mtx := { h.mtx with held := [⟨1, 0, 4096, false, 4, 1, [], false, false⟩, ⟨1, 0, 0xFFFFFC, false, 4, 1, [], false, false⟩] } })
       (here)
     let h := s.hw
     s.hw.on 21 = true ∧ s.hw.silent r.master = false ∧ h.mtx.held[i]? = some r ∧ h.heldBack (h.mtx.held.take i) r = true) := by
  dsimp only
  and_intros <;> decide +kernel

/-- Meets the hypotheses of `Obligations.MatrixTraffic`, part MatrixResponses, clause by clause. -/
theorem witness_MatrixTraffic_MatrixResponses :
    (let r : MReq := ⟨1, 0, 0xFFFFFC, false, 4, 1, [], false, false⟩
     let i : Nat := 1
     let s : State := tweak (fun h =>
       { h with mtx := { h.mtx with out := [⟨1, 0, 0xFFFFFC, false, 4, 1, [], false, false⟩] } }) (here)
     let h := s.hw
     h.mtx.out = [r] ∧ h.brg.serving = [] ∧ reqTarget r < 4 ∧ h.mtx.waking = [] ∧ h.pwr.filling = [] ∧
       (¬(r.master.val = 6 ∧ h.regRuns = true)) ∧ r.write = false ∧ 1 ≤ i) ∧
    (let r : MReq := ⟨1, 0, 0xFFFFFC, true, 4, 1, [1#8, 2#8, 3#8, 4#8], false, false⟩
     let s : State := tweak (fun h =>
       { h with mtx := { h.mtx with out := [⟨1, 0, 0xFFFFFC, true, 4, 1, [1#8, 2#8, 3#8, 4#8], false, false⟩] } }) (here)
     let h := s.hw
     h.mtx.out = [r] ∧ h.brg.serving = [] ∧ reqTarget r < 4 ∧ h.mtx.waking = [] ∧ h.pwr.filling = [] ∧
       (¬(r.master.val = 6 ∧ h.regRuns = true)) ∧ r.write = true) := by
  dsimp only
  and_intros <;> decide +kernel

/-- Meets the hypotheses of `Obligations.MatrixAndRemote`, part MatrixTimeouts, clause by clause. -/
theorem witness_MatrixAndRemote_MatrixTimeouts :
    (let b : Fin 16 := 15
     let r : MReq := ⟨1, 0, 0xFFFFFC, false, 4, 1, [], false, false⟩
     let i : Nat := 0
     let s : State := tweak (fun h =>
       { h with mtx := { h.mtx with out := [⟨1, 0, 0xFFFFFC, false, 4, 1, [], false, false⟩] } }) (here)
     let h := s.hw
     let thr := h.rd F.MTX_ECCCFG_UETHR
     let normal := h.classOf r = .normal ∨ h.classOf r = .low
     h.mtx.out[i]? = some r ∧ normal ∧ h.mtx.lock = none ∧ (thr = 0 ∨ h.rd F.MTX_ECCCNT_UE b < thr)) ∧
    (let r : MReq := ⟨1, 0, 0xFFFFFC, false, 4, 1, [], false, false⟩
     let i : Nat := 0
     let s : State := tweak (fun h =>
       { h with mtx := { h.mtx with out := [⟨1, 0, 0xFFFFFC, false, 4, 1, [], false, false⟩], promoted := [⟨1, 0, 0xFFFFFC, false, 4, 1, [], false, false⟩] } })
       (here)
     let h := s.hw
     let normal := h.classOf r = .normal ∨ h.classOf r = .low
     h.mtx.out[i]? = some r ∧ (¬ normal)) ∧
    (let r : MReq := ⟨1, 0, 0xFFFFFC, false, 4, 1, [], false, false⟩
     let i : Nat := 0
     let limit : Nat := 0
     let s : State := tweak (fun h =>
       { h with mtx := { h.mtx with stalled := [(⟨1, 0, 0xFFFFFC, false, 4, 1, [], false, false⟩, 0)] } }) (here)
     let h := s.hw
     h.mtx.stalled[i]? = some (r, limit) ∧ h.decodeErr r = none ∧ limit = 0) ∧
    (let r : MReq := ⟨3, 0, 0x04000000, false, 4, 1, [], false, false⟩
     let i : Nat := 0
     let limit : Nat := 1
     let s : State := tweak (fun h =>
       { h with mtx := { h.mtx with stalled := [(⟨3, 0, 0x04000000, false, 4, 1, [], false, false⟩, 1)] } }) (here)
     let h := s.hw
     h.mtx.stalled[i]? = some (r, limit) ∧ h.decodeErr r ≠ none ∧ limit ≠ 0 ∧ h.brg.serving = []) ∧
    (let l : MLock := ⟨1, 0, 3, some 1, 5, 0⟩
     let s : State := tweak (fun h => { h with mtx := { h.mtx with lock := some ⟨1, 0, 3, some 1, 5, 0⟩ } }) (here)
     let h := s.hw
     h.mtx.lock = some l) ∧
    (let r : MReq := ⟨6, 0, 4096, false, 16, 2, [], false, false⟩
     let i : Nat := 0
     let s : State := tweak (fun h => { h with mtx := { h.mtx with out := [⟨6, 0, 4096, false, 16, 2, [], false, false⟩] } })
       (here)
     let h := s.hw
     h.mtx.out[i]? = some r ∧ 1 < r.beats ∧ r.write = false ∧ h.mtx.lock = none ∧ h.brg.serving = []) ∧
    (let b : Fin 16 := 15
     let s : State := tweak (fun h => (h.wr F.MTX_ECCCFG_UETHR 1).wr F.MTX_ECCCNT_UE 1 15) here
     let h := s.hw
     let thr := h.rd F.MTX_ECCCFG_UETHR
     thr ≠ 0 ∧ thr ≤ h.rd F.MTX_ECCCNT_UE b ∧ b.val ∉ h.mtx.retired ∧ h.pwr.dom.length = 50 ∧ h.voc.plen = 0) := by
  dsimp only
  and_intros <;> decide +kernel

/-- Meets the hypotheses of `Obligations.MatrixAndRemote`, part RemoteWindows, clause by clause. -/
theorem witness_MatrixAndRemote_RemoteWindows :
    (let s : State := put F.BRG_P_STAT_STATE 3 (put F.BRG_STAT_ID 4 (put F.BRG_POLICY_BYTES 0x00000030 here)) 1
     let p : Fin 2 := 1
     let k : LPkt := ⟨3, 4, 9, 7, 0, true, leBytes 4 0xFFFFC ++ [2#8, 0#8], true⟩
     let h := s.hw
     let arrives := h.portUp p = true ∧ k.crcOk = true ∧ k.dst = h.nodeId
     arrives ∧ h.nodeId ≠ 0xFF ∧ h.linkAnswered k.src k.tag k.kind = none ∧ h.brg.serving = [] ∧ h.policyByte 2 % 4 = 0 ∧
       k.kind = 3) ∧
    (let s : State := put F.BRG_P_STAT_STATE 3 (put F.BRG_STAT_ID 4 (put F.BRG_POLICY_BYTES 0x00000030 here)) 1
     let p : Fin 2 := 1
     let k : LPkt := ⟨4, 4, 9, 7, 0, true, leBytes 4 0xFFFFC ++ [2#8, 0#8] ++ zeros 4, true⟩
     let h := s.hw
     let arrives := h.portUp p = true ∧ k.crcOk = true ∧ k.dst = h.nodeId
     arrives ∧ h.nodeId ≠ 0xFF ∧ h.linkAnswered k.src k.tag k.kind = none ∧ h.brg.serving = [] ∧ h.policyByte 2 % 4 = 0 ∧
       k.kind = 4) ∧
    (let s : State := put F.BRG_P_STAT_STATE 3 (put F.BRG_STAT_ID 4 (put F.BRG_POLICY_BYTES 0x0F010030 here)) 1
     let p : Fin 2 := 1
     let k : LPkt := ⟨4, 4, 9, 7, 0, true, leBytes 4 0xFFFFC ++ [2#8, 0#8] ++ zeros 4, true⟩
     let h := s.hw
     let arrives := h.portUp p = true ∧ k.crcOk = true ∧ k.dst = h.nodeId
     arrives ∧ h.nodeId ≠ 0xFF ∧ h.linkAnswered k.src k.tag k.kind = none ∧ h.brg.serving = [] ∧ h.policyByte 2 % 4 = 1 ∧
       h.policyByte 3 < 16 ∧ k.kind = 4) ∧
    (let s : State := put F.BRG_P_STAT_STATE 3 (put F.BRG_STAT_ID 4 (put F.BRG_POLICY_BYTES 0x0F010030 here)) 1
     let p : Fin 2 := 1
     let k : LPkt := ⟨3, 4, 9, 7, 0, true, leBytes 4 0xFFFFC ++ [2#8, 0#8], true⟩
     let h := s.hw
     let arrives := h.portUp p = true ∧ k.crcOk = true ∧ k.dst = h.nodeId
     let a := 0x100000 * h.policyByte 3 + fieldAt k.payload 0 4 % 0x100000
     arrives ∧ h.nodeId ≠ 0xFF ∧ h.linkAnswered k.src k.tag k.kind = none ∧ h.brg.serving = [] ∧ h.policyByte 2 % 4 ≠ 0 ∧
       h.policyByte 3 < 16 ∧ h.policyByte 3 ∉ h.mtx.retired ∧ h.on (4 + h.policyByte 3) = true ∧ h.mtx.out = [] ∧
       h.mtx.held = [] ∧ h.mtx.stalled = [] ∧ h.mtx.lock = none ∧ h.mtx.broken = [] ∧ h.mtx.waking = [] ∧ h.pwr.filling = [] ∧
       h.mtx.sleep.getD (h.policyByte 3) 0 = 0 ∧ byteAt k.payload 4 = 2 ∧ a % 4 = 0 ∧ byteAt k.payload 5 = 0 ∧ k.kind = 3) ∧
    (let s : State := put F.BRG_P_STAT_STATE 3 (put F.BRG_STAT_ID 4 (put F.BRG_POLICY_BYTES 0x0F020030 here)) 1
     let p : Fin 2 := 1
     let k : LPkt := ⟨4, 4, 9, 7, 0, true, leBytes 4 0xFFFFC ++ [2#8, 0#8] ++ zeros 4, true⟩
     let h := s.hw
     let arrives := h.portUp p = true ∧ k.crcOk = true ∧ k.dst = h.nodeId
     let a := 0x100000 * h.policyByte 3 + fieldAt k.payload 0 4 % 0x100000
     arrives ∧ h.nodeId ≠ 0xFF ∧ h.linkAnswered k.src k.tag k.kind = none ∧ h.brg.serving = [] ∧ h.policyByte 2 % 4 ≠ 0 ∧
       h.policyByte 3 < 16 ∧ h.policyByte 3 ∉ h.mtx.retired ∧ h.on (4 + h.policyByte 3) = true ∧ h.mtx.out = [] ∧
       h.mtx.held = [] ∧ h.mtx.stalled = [] ∧ h.mtx.lock = none ∧ h.mtx.broken = [] ∧ h.mtx.waking = [] ∧ h.pwr.filling = [] ∧
       h.mtx.sleep.getD (h.policyByte 3) 0 = 0 ∧ byteAt k.payload 4 = 2 ∧ a % 4 = 0 ∧ byteAt k.payload 5 = 0 ∧ k.kind = 4 ∧
       h.policyByte 2 % 4 ≠ 1 ∧ k.payload.length = 10) ∧
    (let s : State := put F.BRG_P_STAT_STATE 3 (put F.BRG_STAT_ID 4 (put F.BRG_POLICY_BYTES 0x00020030 here)) 1
     let p : Fin 2 := 1
     let k : LPkt := ⟨3, 4, 9, 7, 0, true, [], false⟩
     let c : Instr := (.wwrPacket 1 ⟨3, 4, 9, 7, 0, true, [], false⟩)
     let h := s.hw
     h.portUp p = true ∧ k.crcOk = false ∧ c ∈ (([.wrdPacket p k, .wwrPacket p k, .wrspPacket p k] : List Instr))) ∧
    (let s : State := put F.BRG_P_STAT_STATE 3 (put F.BRG_STAT_ID 4 (put F.BRG_POLICY_BYTES 0x00020030 here)) 1
     let p : Fin 2 := 1
     let k : LPkt := ⟨5, 4, 9, 7, 0, true, [0#8], true⟩
     let h := s.hw
     let arrives := h.portUp p = true ∧ k.crcOk = true ∧ k.dst = h.nodeId
     arrives ∧ k.kind = 5 ∧ h.brg.wins = []) ∧
    (let p : Fin 2 := 1
     let k : LPkt := ⟨5, 4, 9, 7, 0, true, [0#8, 1#8, 2#8, 3#8, 4#8], true⟩
     let w : WinAcc := ⟨⟨1, 0, 0x02000000, false, 4, 1, [], false, false⟩, ⟨3, 9, 4, 7, 0, true, [], true⟩, false⟩
     let node : Fin 128 := 9
     let tag : Fin 256 := 7
     let s : State := tweak (fun h =>
       { h with brg := { h.brg with wins := [⟨⟨1, 0, 0x02000000, false, 4, 1, [], false, false⟩, ⟨3, 9, 4, 7, 0, true, [], true⟩, false⟩] } })
       (put F.BRG_P_STAT_STATE 3 (put F.BRG_STAT_ID 4 (put F.BRG_POLICY_BYTES 0x00020030 here)) 1)
     let h := s.hw
     let arrives := h.portUp p = true ∧ k.crcOk = true ∧ k.dst = h.nodeId
     arrives ∧ k.kind = 5 ∧ h.brg.wins = [w] ∧ w.pkt.dst = k.src ∧ w.pkt.tag = k.tag ∧ h.brg.serving = [] ∧
       byteAt k.payload 0 = 0 ∧ w.pkt.dst = node.val ∧ w.pkt.tag = tag.val ∧ w.busy = false ∧ h.rd F.BRG_WCFG_TIMEOUT ≠ 0) ∧
    (let p : Fin 2 := 1
     let k : LPkt := ⟨5, 4, 9, 7, 0, true, [4#8], true⟩
     let w : WinAcc := ⟨⟨1, 0, 0x02000000, false, 4, 1, [], false, false⟩, ⟨3, 9, 4, 7, 0, true, [], true⟩, false⟩
     let s : State := tweak (fun h =>
       { h with brg := { h.brg with wins := [⟨⟨1, 0, 0x02000000, false, 4, 1, [], false, false⟩, ⟨3, 9, 4, 7, 0, true, [], true⟩, false⟩] } })
       (put F.BRG_P_STAT_STATE 3 (put F.BRG_STAT_ID 4 (put F.BRG_POLICY_BYTES 0x00020030 here)) 1)
     let h := s.hw
     let arrives := h.portUp p = true ∧ k.crcOk = true ∧ k.dst = h.nodeId
     arrives ∧ k.kind = 5 ∧ h.brg.wins = [w] ∧ w.pkt.dst = k.src ∧ w.pkt.tag = k.tag ∧ h.brg.serving = [] ∧
       byteAt k.payload 0 = 4) ∧
    (let w : WinAcc := ⟨⟨1, 0, 0x02000000, false, 4, 1, [], false, false⟩, ⟨3, 9, 4, 7, 0, true, [], true⟩, true⟩
     let node : Fin 128 := 9
     let tag : Fin 256 := 7
     let s : State := tweak (fun h =>
       { h with brg := { h.brg with wins := [⟨⟨1, 0, 0x02000000, false, 4, 1, [], false, false⟩, ⟨3, 9, 4, 7, 0, true, [], true⟩, true⟩] } })
       (put F.BRG_P_STAT_STATE 3 (put F.BRG_STAT_ID 4 (put F.BRG_POLICY_BYTES 0x00020030 here)) 1)
     let h := s.hw
     h.brg.wins = [w] ∧ w.pkt.dst = node.val ∧ w.pkt.tag = tag.val ∧ w.busy = true ∧ h.nodeId ≠ 0xFF) ∧
    (let w : WinAcc := ⟨⟨1, 0, 0x02000000, false, 4, 1, [], false, false⟩, ⟨3, 9, 4, 7, 0, true, [], true⟩, false⟩
     let node : Fin 128 := 9
     let tag : Fin 256 := 7
     let s : State := tweak (fun h =>
       { h with brg := { h.brg with wins := [⟨⟨1, 0, 0x02000000, false, 4, 1, [], false, false⟩, ⟨3, 9, 4, 7, 0, true, [], true⟩, false⟩] } })
       (put F.BRG_WCFG_TIMEOUT 0 (put F.BRG_P_STAT_STATE 3 (put F.BRG_STAT_ID 4 (put F.BRG_POLICY_BYTES 0x00020030 here)) 1))
     let h := s.hw
     h.brg.wins = [w] ∧ w.pkt.dst = node.val ∧ w.pkt.tag = tag.val ∧ h.rd F.BRG_WCFG_TIMEOUT = 0) := by
  dsimp only
  and_intros <;> decide +kernel

/-- Meets the hypotheses of `Obligations.LedgerRows`, clause by clause. -/
theorem witness_LedgerRows :
    (let s : State := here
     let b : Fin 16 := 15
     let k : Nat := 13
     let c : Fin 16 := 13
     let h := s.hw
     let idle := h.on (4 + b) = true ∧ b.val ∉ h.mtx.retired ∧ (∀ x ∈ h.mtx.out, 0x01000000 ≤ x.addr ∨ x.addr / 0x100000 ≠
       b.val) ∧ h.mtx.sleep.getD b 0 = 0
     let allows := fun (n : Nat) => ∀ t ∈ h.bankTol b, n + h.rd F.LDG_SLEEPCFG_GUARD ≤ t
     s.hw.on 21 = true ∧ 1 ≤ k ∧ k ≤ 13 ∧ c.val = k ∧ h.rd F.LDG_ACT_LU (k - 1) = 0 ∧ idle ∧
       h.rdB F.LDG_SLEEPCFG_EN_RET = true ∧ allows 1000 ∧ b.val ∉ h.mtx.waking ∧ h.on (4 + b) = true ∧ b.val ∉ h.mtx.retired ∧
       h.rd F.LDG_STORMCFG_HI > (h.ldg.wbq.getD (b % 4) []).length ∧ h.rdB F.MTX_ECCINFO_VALID = false ∧
       (h.ldg.patrol.getD b 0) < 0x100000) ∧
    (let s : State := put F.LDG_ACT_LU 400 here 12
     let k : Nat := 13
     let c : Fin 16 := 13
     let h := s.hw
     s.hw.on 21 = true ∧ 1 ≤ k ∧ k ≤ 13 ∧ c.val = k ∧ h.rd F.LDG_ACT_LU (k - 1) = 400 ∧ h.ldg.acc.getD k 0 = 0 ∧
       h.ldg.acc.length = 16) ∧
    (let p : Fin 4 := 3
     let s : State := tweak (fun h => { h with ldg := { h.ldg with wbq := [[], [], [], List.replicate 300 0] } }) (here)
     let h := s.hw
     s.hw.on 21 = true ∧ h.rd F.LDG_STORMCFG_LO < (h.ldg.wbq.getD p []).length) ∧
    (let p : Fin 4 := 3
     let s : State := tweak (fun h => { h with ldg := { h.ldg with storm := [none, none, none, some 5] } }) (here)
     let h := s.hw
     s.hw.on 21 = true ∧ (h.ldg.storm.getD p none).isSome = true ∧ (h.ldg.wbq.getD p []).length ≤ h.rd F.LDG_STORMCFG_LO ∧
       h.rd F.LDG_STORMCFG_LO ≤ h.rd F.LDG_STORMCFG_HI) ∧
    (let s : State := put F.LDG_SLEEPCFG_EN_RET 0 (put F.LDG_SLEEPCFG_EN_LIGHT 1 here)
     let b : Fin 16 := 15
     let h := s.hw
     let idle := h.on (4 + b) = true ∧ b.val ∉ h.mtx.retired ∧ (∀ x ∈ h.mtx.out, 0x01000000 ≤ x.addr ∨ x.addr / 0x100000 ≠
       b.val) ∧ h.mtx.sleep.getD b 0 = 0
     let allows := fun (n : Nat) => ∀ t ∈ h.bankTol b, n + h.rd F.LDG_SLEEPCFG_GUARD ≤ t
     s.hw.on 21 = true ∧ idle ∧ h.rdB F.LDG_SLEEPCFG_EN_RET = false ∧ h.rdB F.LDG_SLEEPCFG_EN_LIGHT = true ∧ allows 20) ∧
    (let s : State := put F.LDG_SLEEPCFG_EN_RET 0 (put F.LDG_SLEEPCFG_EN_LIGHT 0 here)
     let b : Fin 16 := 15
     let h := s.hw
     let idle := h.on (4 + b) = true ∧ b.val ∉ h.mtx.retired ∧ (∀ x ∈ h.mtx.out, 0x01000000 ≤ x.addr ∨ x.addr / 0x100000 ≠
       b.val) ∧ h.mtx.sleep.getD b 0 = 0
     s.hw.on 21 = true ∧ idle ∧ h.rdB F.LDG_SLEEPCFG_EN_RET = false ∧ h.rdB F.LDG_SLEEPCFG_EN_LIGHT = false) ∧
    (let b : Fin 16 := 15
     let s : State := put F.LDG_ACT_BANKS 0x8000 (put F.LDG_ACT_LU 400 (tweak (fun h =>
       { h with mtx := { h.mtx with sleep := h.mtx.sleep.set 15 2 }, ldg := { h.ldg with tol := h.ldg.tol.set 13 500 } }) here)
       12) 12
     let h := s.hw
     let allows := fun (n : Nat) => ∀ t ∈ h.bankTol b, n + h.rd F.LDG_SLEEPCFG_GUARD ≤ t
     s.hw.on 21 = true ∧ h.mtx.sleep.getD b 0 = 2 ∧ (¬ allows 1000) ∧ b.val ∉ h.mtx.waking) ∧
    (let b : Fin 16 := 15
     let s : State := tweak (fun h => { h with mtx := { h.mtx with sleep := h.mtx.sleep.set 15 2 } }) (here)
     let h := s.hw
     let allows := fun (n : Nat) => ∀ t ∈ h.bankTol b, n + h.rd F.LDG_SLEEPCFG_GUARD ≤ t
     s.hw.on 21 = true ∧ h.mtx.sleep.getD b 0 = 2 ∧ allows 1000) ∧
    (let b : Fin 16 := 15
     let s : State := tweak (fun h => { h with mtx := { h.mtx with waking := [15] } }) (here)
     let h := s.hw
     s.hw.on 21 = true ∧ b.val ∈ h.mtx.waking) ∧
    (let p : Fin 4 := 3
     let a : Nat := 0xF00000
     let l : List Nat := []
     let s : State := tweak (fun h => { h with ldg := { h.ldg with wbq := [[], [], [], [0xF00000]] } }) (here)
     let h := s.hw
     s.hw.on 21 = true ∧ h.ldg.wbq[p.val]? = some (a :: l)) ∧
    (let s : State := here
     let h := s.hw
     s.hw.on 21 = true ∧ h.on 32 = true ∧ h.rd F.TIM_STAT_STATE ≠ 2) ∧
    (let s : State := put F.TIM_STAT_STATE 2 here
     let h := s.hw
     s.hw.on 21 = true ∧ h.on 32 = true ∧ h.rd F.TIM_STAT_STATE = 2) := by
  dsimp only
  and_intros <;> decide +kernel

/-- Meets the hypotheses of `Obligations.DisplayTiming`, part TimingStates, clause by clause. -/
theorem witness_DisplayTiming :
    (let s : State := here
     let m : Fin 12 := 2
     let h := s.hw
     let takes := h.reaches m = true ∧ h.on 31 = true ∧ (h.pen.modeLat = false ∨ m = 2)
     let st := h.rd F.TIM_STAT_STATE
     takes ∧ st = 0) ∧
    (let s : State := pw (fun p => { p with pixWanted := true }) (put F.SYS_CLKSTAT_PIX_LOCK 1 (put F.TIM_STAT_STATE 4 here))
     let m : Fin 12 := 2
     let h := s.hw
     let takes := h.reaches m = true ∧ h.on 31 = true ∧ (h.pen.modeLat = false ∨ m = 2)
     let st := h.rd F.TIM_STAT_STATE
     takes ∧ st = 4 ∧ h.pwr.pixWanted = true ∧ h.rdB F.SYS_CLKSTAT_PIX_LOCK = true ∧ h.pen.modeLat = false) ∧
    (let s : State := pw (fun p => { p with pixWanted := true }) (put F.SYS_CLKSTAT_PIX_LOCK 1 (put F.TIM_STAT_STATE 2 here))
     let m : Fin 12 := 2
     let h := s.hw
     let takes := h.reaches m = true ∧ h.on 31 = true ∧ (h.pen.modeLat = false ∨ m = 2)
     let st := h.rd F.TIM_STAT_STATE
     takes ∧ st = 2 ∧ (h.pwr.pixWanted = false ∨ h.rdB F.SYS_CLKSTAT_PIX_LOCK = true) ∧ h.pwr.pixWanted = true ∧
       h.rdB F.SYS_CLKSTAT_PIX_LOCK = true ∧ (st ≠ 3 ∨ h.tim.seamPll = true) ∧ 2 ≤ st) ∧
    (let s : State := pw (fun p => { p with pixWanted := true }) (put F.SYS_CLKSTAT_PIX_LOCK 0 (put F.TIM_STAT_STATE 1 here))
     let m : Fin 12 := 2
     let h := s.hw
     let takes := h.reaches m = true ∧ h.on 31 = true ∧ (h.pen.modeLat = false ∨ m = 2)
     let st := h.rd F.TIM_STAT_STATE
     takes ∧ (st = 1 ∨ st = 3) ∧ h.pen.modeLat = false ∧ h.pwr.pixWanted = true ∧ h.rdB F.SYS_CLKSTAT_PIX_LOCK = false ∧
       h.rdB (commitArm bTIM) = false ∧ st = 1) ∧
    (let s : State := pw (fun p => { p with dom := p.dom.set 31 .off }) here
     let m : Fin 12 := 2
     let h := s.hw
     let st := h.rd F.TIM_STAT_STATE
     (h.reaches m = false ∨ h.on 31 = false ∨ h.pen.modeLat = true ∧ m ≠ 2) ∧ st ≤ 1 ∧
       (∀ k < 4, h.rd F.CMP_FLIP_CTRL_BLOCKS k = 0)) ∧
    (let s : State := pw (fun p => { p with pixWanted := true }) (put F.SYS_CLKSTAT_PIX_LOCK 0 (put F.TIM_STAT_STATE 3 (tweak
       (fun h => { h with tim := { h.tim with seamPll := true } }) (here))))
     let h := s.hw
     let st := h.rd F.TIM_STAT_STATE
     h.pwr.pixWanted = true ∧ h.rdB F.SYS_CLKSTAT_PIX_LOCK = false ∧ h.rdB (commitArm bTIM) = false ∧ st = 3 ∧
       h.tim.seamPll = true) ∧
    (let s : State := pw (fun p => { p with pixWanted := true }) (put F.SYS_CLKSTAT_PIX_LOCK 1 (put F.TIM_STAT_STATE 3 here))
     let h := s.hw
     let st := h.rd F.TIM_STAT_STATE
     h.pwr.pixWanted = true ∧ h.rdB F.SYS_CLKSTAT_PIX_LOCK = true ∧ st = 3 ∧ h.tim.seamPll = false ∧
       h.rdB (commitArm bTIM) = false) := by
  dsimp only
  and_intros <;> decide +kernel

/-- Meets the hypotheses of `Obligations.LinesAndLock`, clause by clause. -/
theorem witness_LinesAndLock :
    (let s : State := here
     let i : Fin 2 := 0
     let rising : Bool := true
     let h := s.hw
     let chosen := h.lockSrc = 1 + i.val ∧ h.rdAB F.TIM_LOCK_XEDGE ≠ rising ∧ h.fnActive (6 + i.val) = true
     let lock := h.rd F.TIM_LOCKSTAT_STATE
     let st := h.rd F.TIM_STAT_STATE
     let runs := st = 2 ∨ st = 4
     (¬ runs) ∧ (lock ≠ 1 ∨ h.tim.near < 4) ∧ (lock = 0 ∨ lock = 3) ∧ (¬ chosen)) ∧
    (let s : State := tweak (fun h => { h with tim := { h.tim with near := 4 } }) (put F.TIM_LOCKSTAT_STATE 1 (put
       F.TIM_STAT_STATE 2 here))
     let h := s.hw
     let st := h.rd F.TIM_STAT_STATE
     let runs := st = 2 ∨ st = 4
     let lock := h.rd F.TIM_LOCKSTAT_STATE
     runs ∧ h.tim.vtot ≤ 4096 ∧ lock = 1 ∧ 4 ≤ h.tim.near ∧ lock ≠ 0 ∧ lock ≠ 3) ∧
    (let i : Fin 2 := 1
     let rising : Bool := true
     let s : State := tweak (fun h =>
       ({ h with tim := { h.tim with refSeen := false, outRange := 0 }, gpi := { h.gpi with owner := h.gpi.owner.set 7 3 } } :
       Hw).wr F.GPI_PIN_FUNC 1 7) (tweak (fun h => h.wrA F.TIM_LOCK_SRC 2) (put F.TIM_LOCKSTAT_STATE 1 (put F.TIM_STAT_STATE 2
       here)))
     let h := s.hw
     let st := h.rd F.TIM_STAT_STATE
     let runs := st = 2 ∨ st = 4
     let lock := h.rd F.TIM_LOCKSTAT_STATE
     let chosen := h.lockSrc = 1 + i.val ∧ h.rdAB F.TIM_LOCK_XEDGE ≠ rising ∧ h.fnActive (6 + i.val) = true
     chosen ∧ runs ∧ lock = 1 ∧ h.tim.outRange = 0 ∧ h.tim.refSeen = false) ∧
    (let i : Fin 2 := 1
     let rising : Bool := true
     let gap : Nat := 0
     let s : State := tweak (fun h =>
       ({ h with tim := { h.tim with refSeen := true, outRange := 1 }, gpi := { h.gpi with owner := h.gpi.owner.set 7 3 } } :
       Hw).wr F.GPI_PIN_FUNC 1 7) (tweak (fun h => h.wrA F.TIM_LOCK_SRC 2) (put F.TIM_LOCKSTAT_STATE 1 (put F.TIM_STAT_STATE 2
       here)))
     let h := s.hw
     let st := h.rd F.TIM_STAT_STATE
     let runs := st = 2 ∨ st = 4
     let lock := h.rd F.TIM_LOCKSTAT_STATE
     let chosen := h.lockSrc = 1 + i.val ∧ h.rdAB F.TIM_LOCK_XEDGE ≠ rising ∧ h.fnActive (6 + i.val) = true
     let period := h.tim.ras.htotal * h.tim.ras.vtotal * 1600000
     chosen ∧ runs ∧ lock = 1 ∧ h.tim.refSeen = true ∧
       period < 100 * (((gap * h.tim.ras.khz : Nat) : Int) - (period : Int)).natAbs ∧ 1 ≤ h.tim.outRange) := by
  dsimp only
  and_intros <;> decide +kernel

/-- Meets the hypotheses of `Obligations.FlipsAndLineBuffer`, part FlipGroupsAndFences, clause by clause. -/
theorem witness_FlipsAndLineBuffer_FlipGroupsAndFences :
    (let k : Fin 4 := 3
     let s : State := put F.CMP_FLIP_CTRL_BLOCKS 1 (tweak (fun h => h.wr (commitArm (flipBlocks.getD 0 0)) 1) here) 3
     let h := s.hw
     h.rd F.TIM_STAT_STATE ≤ 1 ∧ h.flipArmed k = true ∧ h.flipReady k = true ∧ h.tim.flipFault.getD k false = false ∧
       h.on 22 = true) ∧
    (let s : State := put F.TIM_STAT_STATE 2 here
     let k : Fin 4 := 3
     let h := s.hw
     (2 ≤ h.rd F.TIM_STAT_STATE ∨ h.flipReady k = false)) ∧
    (let k : Fin 4 := 3
     let s : State := tweak (fun h => { h with tim := { h.tim with flipFault := [false, false, false, true] } }) (here)
     let h := s.hw
     h.tim.flipFault[k.val]? = some true) ∧
    (let s : State := pw (fun p => { p with dom := p.dom.set 22 .off }) here
     let h := s.hw
     h.on 22 = false) := by
  dsimp only
  and_intros <;> decide +kernel

/-- Meets the hypotheses of `Obligations.FlipsAndLineBuffer`, part LineBuffer, clause by clause. -/
theorem witness_FlipsAndLineBuffer_LineBuffer :
    (let s : State := here
     let late : Bool := false
     let level : Nat := 0
     let h := s.hw
     let y := h.rd F.TIM_POS_LINE
     let scans := (h.rd F.TIM_STAT_STATE = 2 ∨ h.rd F.TIM_STAT_STATE = 4) ∧ h.pen.modeLat = false
     h.composable = false ∧ (¬ scans ∨ h.tim.ras.vact ≤ y ∨ h.tim.ended = true) ∧
       (¬ scans ∨ h.rd F.TIM_LBWM_CFG_THRESH ≤ level) ∧ h.lnlReady late = false ∧
       (h.on 29 = false ∨ h.rdAB F.OBJ_CTRL_EN = false)) ∧
    (let level : Nat := 0
     let first : Nat := 1919
     let count : Nat := 1
     let s : State := tweak (fun h =>
       { h with tim := { h.tim with ras := Raster.reset, vtot := 750, next := 0, ended := false, holes := [] } }) (put
       F.TIM_STAT_STATE 2 here)
     let h := s.hw
     let y := h.rd F.TIM_POS_LINE
     let scans := (h.rd F.TIM_STAT_STATE = 2 ∨ h.rd F.TIM_STAT_STATE = 4) ∧ h.pen.modeLat = false
     let next := h.tim.next
     scans ∧ h.on 22 = true ∧ y = next ∧ y < h.tim.ras.vact ∧ h.rd F.LNL_STAT_STATE ≠ 1 ∧ h.tim.ended = false ∧
       h.tim.holes = [] ∧ 0 < count ∧ first < h.tim.ras.hact ∧ level < h.rd F.TIM_LBWM_CFG_THRESH) ∧
    (let late : Bool := false
     let n : Nat := 4
     let s : State := tweak (fun h => { h.wr F.LNL_STAT_STATE 1 with lnl := { h.lnl with last := some 4 } }) (put
       F.TIM_POS_LINE 2 (tweak (fun h => { h with tim := { h.tim with next := 4 } }) (tweak (fun h =>
       { h with tim := { h.tim with ras := Raster.reset, vtot := 750, next := 0, ended := false, holes := [] } }) (put
       F.TIM_STAT_STATE 2 here))))
     let h := s.hw
     h.lnlReady late = true ∧ h.lnl.last = some n ∧ n < 4096) ∧
    (let s : State := tweak (fun h => h.wrA F.OBJ_CTRL_EN 1) (here)
     let h := s.hw
     h.on 29 = true ∧ h.rdAB F.OBJ_CTRL_EN = true ∧ h.shed 7 = false ∧
       (∀ i < 1024, (h.object i).en = false ∨ (h.object i).aff = false)) := by
  dsimp only
  and_intros <;> decide +kernel

/-- Meets the hypotheses of `Obligations.PennantRows`, clause by clause. -/
theorem witness_PennantRows :
    (let k : Fin 64 := 63
     let s : State := tweak (fun h =>
       { h with pen := { h.pen with cells := h.pen.cells.modify 63 fun c => { c with ready := false, latEn := true } } })
       (here)
     let h := s.hw
     let c := h.cell k
     h.on 20 = true ∧ c.ready = false ∧ h.pen.cells.length = 64 ∧ c.latEn = true) ∧
    (let s : State := here
     let e : Fin 32 := 31
     let k : Fin 64 := 63
     let h := s.hw
     let checks := (h.rd F.TIM_STAT_STATE = 2 ∨ h.rd F.TIM_STAT_STATE = 4) ∧ h.rd F.TIM_POS_LINE + 1 = h.tim.ras.vact ∧
       h.tim.checked = false ∧ h.on 20 = true ∧ h.on 39 = true
     let rec_ := h.sig e
     let c := h.cell k
     (h.on 20 = false ∨ c.ready = true) ∧ (h.on 43 = false ∨ byteAt rec_ 7 % 16 = 0 ∨ byteAt rec_ 11 = 0) ∧
       (h.on 20 = false ∨ c.latEn = false) ∧ (¬ checks)) ∧
    (let e : Fin 32 := 31
     let s : State := tweak (fun h =>
       { h with pen := { h.pen with sigtab := h.pen.sigtab.set 31 (zeros 7 ++ [3#8] ++ zeros 3 ++ [1#8] ++ zeros 4) } }) (here)
     let h := s.hw
     let rec_ := h.sig e
     h.on 43 = true ∧ byteAt rec_ 7 % 16 ≠ 0 ∧ byteAt rec_ 11 ≠ 0) ∧
    (let s : State := put F.TIM_POS_LINE 719 (tweak (fun h => { h with tim := { h.tim with checked := false } }) (tweak (fun h
       => { h with tim := { h.tim with ras := Raster.reset, vtot := 750, next := 0, ended := false, holes := [] } }) (put
       F.TIM_STAT_STATE 2 here)))
     let h := s.hw
     let checks := (h.rd F.TIM_STAT_STATE = 2 ∨ h.rd F.TIM_STAT_STATE = 4) ∧ h.rd F.TIM_POS_LINE + 1 = h.tim.ras.vact ∧
       h.tim.checked = false ∧ h.on 20 = true ∧ h.on 39 = true
     checks ∧ h.pen.cells.length = 64 ∧ (∀ j < 64, (h.cell j).latEn = true → h.cellInside (h.cell j).lat = false)) := by
  dsimp only
  and_intros <;> decide +kernel

/-- Meets the hypotheses of `Obligations.Camera`, clause by clause. -/
theorem witness_Camera :
    (let s : State := pw (fun p => { p with dom := p.dom.set 30 .off }) here
     let h := s.hw
     let on := h.on 30 = true ∧ h.rdB F.CAM_IFCFG_EN = true ∧ h.fnActive 48 = true
     (¬ on) ∧ (h.on 30 = false ∨ h.camFill = false ∨ h.cam.filled = true)) ∧
    (let v : Bool := true
     let xy : Byte := 1#8
     let s : State := tweak (fun h => { h with cam := { h.cam with hcorr := false, sav := false, v := true } }) (tweak (fun h
       => ({ h with gpi := { h.gpi with owner := h.gpi.owner.set 48 1 } } : Hw).wr F.GPI_PIN_FUNC 1 48) (put F.CAM_IFCFG_EN 1
       here))
     let h := s.hw
     let on := h.on 30 = true ∧ h.rdB F.CAM_IFCFG_EN = true ∧ h.fnActive 48 = true
     on ∧ (∀ c ∈ xyCodes, c.1 ≠ xy.toNat) ∧ h.cam.hcorr = false ∧ h.cam.sav = false ∧ (v = false ∨ h.cam.v = true) ∧
       h.rdB F.CAM_IFSTAT_LOCK = false ∧ (h.cam.active = false ∨ h.on 30 = false)) ∧
    (let s : State := put F.CAM_IFSTAT_LOCK 1 (tweak (fun h => ({ h with gpi := { h.gpi with owner := h.gpi.owner.set 48 1 } }
       : Hw).wr F.GPI_PIN_FUNC 1 48) (put F.CAM_IFCFG_EN 1 here))
     let h := s.hw
     let on := h.on 30 = true ∧ h.rdB F.CAM_IFCFG_EN = true ∧ h.fnActive 48 = true
     on ∧ h.rdB F.CAM_IFSTAT_LOCK = true) ∧
    (let s : State := tweak (fun h => { h with cam := { h.cam with active := true, written := h.cma 0x78 27 16 } }) (tweak (fun
       h => ({ h with gpi := { h.gpi with owner := h.gpi.owner.set 48 1 } } : Hw).wr F.GPI_PIN_FUNC 1 48) (put F.CAM_IFCFG_EN 1
       here))
     let h := s.hw
     h.on 30 = true ∧ h.cam.active = true ∧ h.cam.written = h.cma 0x78 27 16) ∧
    (let s : State := tweak (fun h => h.setActReg 0x04110060 0x80000000#32) (tweak (fun h =>
       { h with cam := { h.cam with filled := false } }) (tweak (fun h =>
       ({ h with gpi := { h.gpi with owner := h.gpi.owner.set 48 1 } } : Hw).wr F.GPI_PIN_FUNC 1 48) (put F.CAM_IFCFG_EN 1
       here)))
     let h := s.hw
     h.on 30 = true ∧ h.cma 0x60 31 31 = 1 ∧ h.camFill = true ∧ h.cam.filled = false) := by
  dsimp only
  and_intros <;> decide +kernel

/-- Meets the hypotheses of `Obligations.AnoleControl`, part AnoleModes, clause by clause. -/
theorem witness_AnoleControl_AnoleModes :
    (let s : State := pw (fun p => { p with dom := p.dom.set 33 .off }) here
     let h := s.hw
     let listRuns := h.rdB F.ANO_STAT_LIST
     let regRuns := h.rdB F.ANO_STAT_REG
     h.on 33 = false ∧ (h.on 33 = false ∨ listRuns = false ∧ regRuns = false) ∧ (∀ p ∈ h.ano.op, p.drawn = false)) ∧
    (let s : State := put F.ANO_STAT_LIST 1 here
     let h := s.hw
     let listRuns := h.rdB F.ANO_STAT_LIST
     let regRuns := h.rdB F.ANO_STAT_REG
     h.on 33 = true ∧ listRuns = true ∧ (listRuns = true ∨ regRuns = true)) ∧
    (let s : State := put F.ANO_STAT_REG 1 here
     let h := s.hw
     let listRuns := h.rdB F.ANO_STAT_LIST
     let regRuns := h.rdB F.ANO_STAT_REG
     h.on 33 = true ∧ listRuns = false ∧ regRuns = true ∧ h.actLu 13 = 0) ∧
    (let s : State := here
     let k : Nat := 1
     let h := s.hw
     let listRuns := h.rdB F.ANO_STAT_LIST
     let regRuns := h.rdB F.ANO_STAT_REG
     let o : AnoOp :=
       ⟨⟨h.anoRegs 0x100, h.anoRegs 0x110, h.anoRegs 0x120, h.anoRegs 0x130, [none, none, none, none]⟩, h.anoRegs 0x140, 0, false, false⟩
     h.on 33 = true ∧ listRuns = false ∧ regRuns = false ∧ o.check = some k) ∧
    (let s : State := tweak (fun h => (((((((((h.setReg (0x04090000 + 0x100 + 0) 0x01000000#32).setReg (0x04090000 + 0x110 + 0)
       0x02000002#32).setReg (0x04090000 + 0x110 + 4) 0x3000#32).setReg (0x04090000 + 0x110 + 8) 16#32).setReg (0x04090000 +
       0x110 + 12) 0x20008#32).setReg (0x04090000 + 0x120 + 0) 0x03000000#32).setReg (0x04090000 + 0x130 + 0)
       0x0400FF0C#32).setReg (0x04090000 + 0x140 + 0) 0x11000000#32).setReg (0x04090000 + 0x140 + 12) 0x20008#32)) here
     let h := s.hw
     let listRuns := h.rdB F.ANO_STAT_LIST
     let regRuns := h.rdB F.ANO_STAT_REG
     let o : AnoOp :=
       ⟨⟨h.anoRegs 0x100, h.anoRegs 0x110, h.anoRegs 0x120, h.anoRegs 0x130, [none, none, none, none]⟩, h.anoRegs 0x140, 0, false, false⟩
     h.on 33 = true ∧ listRuns = false ∧ regRuns = false ∧ o.check = none) ∧
    (let s : State := put F.LDG_ACT_LU 7 (put F.ANO_STAT_REG 1 here) 12
     let h := s.hw
     let listRuns := h.rdB F.ANO_STAT_LIST
     let regRuns := h.rdB F.ANO_STAT_REG
     h.on 33 = true ∧ listRuns = false ∧ h.actLu 13 ≠ 0 ∧ regRuns = true) ∧
    (let s : State := put F.LDG_ACT_LU 7 here 12
     let h := s.hw
     let listRuns := h.rdB F.ANO_STAT_LIST
     let regRuns := h.rdB F.ANO_STAT_REG
     h.on 33 = true ∧ listRuns = false ∧ h.actLu 13 ≠ 0 ∧ regRuns = false) ∧
    (let p : AnoOp :=
       ⟨⟨[0x01000000, 0, 0, 0], [0x02000002, 0x3000, 16, 0x20008], [0x03000000, 0, 0, 0], [0x0400FF0C, 0, 0, 0], [none, none, none, none]⟩, [0x11000000, 0, 0, 0x20008], 0, false, true⟩
     let s : State := tweak (fun h =>
       { h with ano := { h.ano with op := some ⟨⟨[0x01000000, 0, 0, 0], [0x02000002, 0x3000, 16, 0x20008], [0x03000000, 0, 0, 0], [0x0400FF0C, 0, 0, 0], [none, none, none, none]⟩, [0x11000000, 0, 0, 0x20008], 0, false, true⟩ } })
       (here)
     let h := s.hw
     h.ano.op = some p ∧ p.drawn = true) := by
  dsimp only
  and_intros <;> decide +kernel

/-- Meets the hypotheses of `Obligations.AnoleEntries`, clause by clause. -/
theorem witness_AnoleEntries :
    (let s : State := here
     let x : Instr × Nat := (.anoNop, 0)
     let h := s.hw
     let stands := h.on 33 = true ∧ h.rdB F.ANO_STAT_LIST = true ∧ h.anoHeld = false ∧ h.ano.op = none ∧ h.ano.hold = none
     let rows : List (Instr × Nat) :=
       [(.anoNop, 0), (.anoSrc, 1), (.anoDst, 2), (.anoPen, 3), (.anoMode, 4), (.anoClip, 5), (.anoCopy, 0x10), (.anoFill, 0x11), (.anoExpand, 0x12), (.anoLine, 0x13), (.anoTri, 0x14), (.anoFence, 0x20), (.anoFwait, 0x21), (.anoMark, 0x22), (.anoJump, 0x30), (.anoEnd, 0x3F)]
     (¬ stands) ∧ h.rdB F.ANO_STAT_REG = false ∧ x ∈ (rows)) ∧
    (let x : Instr × Nat := (.anoSrc, 1)
     let s : State := tweak (fun h => h.setBytes 0 (([0, 0, 0, 0] : List Nat).flatMap (leBytes 4))) (put F.LDG_CRED_CREDIT 5
       (put F.LDG_ACT_LU 7 (put F.ANO_STAT_LIST 1 here) 12) 12)
     let h := s.hw
     let a := h.rd F.ANO_LPTR_ADDR * 16
     let e := (List.range 4).map fun i => fieldAt (h.bytes a 16) (4 * i) 4
     let stands := h.on 33 = true ∧ h.rdB F.ANO_STAT_LIST = true ∧ h.anoHeld = false ∧ h.ano.op = none ∧ h.ano.hold = none
     let rows : List (Instr × Nat) :=
       [(.anoNop, 0), (.anoSrc, 1), (.anoDst, 2), (.anoPen, 3), (.anoMode, 4), (.anoClip, 5), (.anoCopy, 0x10), (.anoFill, 0x11), (.anoExpand, 0x12), (.anoLine, 0x13), (.anoTri, 0x14), (.anoFence, 0x20), (.anoFwait, 0x21), (.anoMark, 0x22), (.anoJump, 0x30), (.anoEnd, 0x3F)]
     stands ∧ h.rdB F.ANO_STAT_REG = false ∧ h.openMemory ∧ entryGood e = true ∧ anoCmd e ≠ x.2 ∧ x ∈ (rows) ∧
       anoCmd e = 0x00 ∧ h.ano.hold = none) ∧
    (let x : Instr × Nat := (.anoSrc, 1)
     let s : State := tweak (fun h => h.setBytes 0 (([0x20000000, 0xFFFF, 0, 0] : List Nat).flatMap (leBytes 4))) (put
       F.LDG_CRED_CREDIT 5 (put F.LDG_ACT_LU 7 (put F.ANO_STAT_LIST 1 here) 12) 12)
     let h := s.hw
     let a := h.rd F.ANO_LPTR_ADDR * 16
     let e := (List.range 4).map fun i => fieldAt (h.bytes a 16) (4 * i) 4
     let stands := h.on 33 = true ∧ h.rdB F.ANO_STAT_LIST = true ∧ h.anoHeld = false ∧ h.ano.op = none ∧ h.ano.hold = none
     let rows : List (Instr × Nat) :=
       [(.anoNop, 0), (.anoSrc, 1), (.anoDst, 2), (.anoPen, 3), (.anoMode, 4), (.anoClip, 5), (.anoCopy, 0x10), (.anoFill, 0x11), (.anoExpand, 0x12), (.anoLine, 0x13), (.anoTri, 0x14), (.anoFence, 0x20), (.anoFwait, 0x21), (.anoMark, 0x22), (.anoJump, 0x30), (.anoEnd, 0x3F)]
     stands ∧ h.rdB F.ANO_STAT_REG = false ∧ h.openMemory ∧ entryGood e = false ∧ x ∈ (rows)) ∧
    (let s : State := tweak (fun h => h.setBytes 0 (([0x01000000, 0, 0, 0] : List Nat).flatMap (leBytes 4))) (put
       F.LDG_CRED_CREDIT 5 (put F.LDG_ACT_LU 7 (put F.ANO_STAT_LIST 1 here) 12) 12)
     let h := s.hw
     let a := h.rd F.ANO_LPTR_ADDR * 16
     let e := (List.range 4).map fun i => fieldAt (h.bytes a 16) (4 * i) 4
     let stands := h.on 33 = true ∧ h.rdB F.ANO_STAT_LIST = true ∧ h.anoHeld = false ∧ h.ano.op = none ∧ h.ano.hold = none
     stands ∧ h.rdB F.ANO_STAT_REG = false ∧ h.openMemory ∧ entryGood e = true ∧ anoCmd e = 0x01) ∧
    (let s : State := tweak (fun h => h.setBytes 0 (([0x02000000, 0, 0, 0] : List Nat).flatMap (leBytes 4))) (put
       F.LDG_CRED_CREDIT 5 (put F.LDG_ACT_LU 7 (put F.ANO_STAT_LIST 1 here) 12) 12)
     let h := s.hw
     let a := h.rd F.ANO_LPTR_ADDR * 16
     let e := (List.range 4).map fun i => fieldAt (h.bytes a 16) (4 * i) 4
     let stands := h.on 33 = true ∧ h.rdB F.ANO_STAT_LIST = true ∧ h.anoHeld = false ∧ h.ano.op = none ∧ h.ano.hold = none
     stands ∧ h.rdB F.ANO_STAT_REG = false ∧ h.openMemory ∧ entryGood e = true ∧ anoCmd e = 0x02) ∧
    (let s : State := tweak (fun h => h.setBytes 0 (([0x03000000, 0, 0, 0] : List Nat).flatMap (leBytes 4))) (put
       F.LDG_CRED_CREDIT 5 (put F.LDG_ACT_LU 7 (put F.ANO_STAT_LIST 1 here) 12) 12)
     let h := s.hw
     let a := h.rd F.ANO_LPTR_ADDR * 16
     let e := (List.range 4).map fun i => fieldAt (h.bytes a 16) (4 * i) 4
     let stands := h.on 33 = true ∧ h.rdB F.ANO_STAT_LIST = true ∧ h.anoHeld = false ∧ h.ano.op = none ∧ h.ano.hold = none
     stands ∧ h.rdB F.ANO_STAT_REG = false ∧ h.openMemory ∧ entryGood e = true ∧ anoCmd e = 0x03) ∧
    (let s : State := tweak (fun h => h.setBytes 0 (([0x04000000, 0, 0, 0] : List Nat).flatMap (leBytes 4))) (put
       F.LDG_CRED_CREDIT 5 (put F.LDG_ACT_LU 7 (put F.ANO_STAT_LIST 1 here) 12) 12)
     let h := s.hw
     let a := h.rd F.ANO_LPTR_ADDR * 16
     let e := (List.range 4).map fun i => fieldAt (h.bytes a 16) (4 * i) 4
     let stands := h.on 33 = true ∧ h.rdB F.ANO_STAT_LIST = true ∧ h.anoHeld = false ∧ h.ano.op = none ∧ h.ano.hold = none
     stands ∧ h.rdB F.ANO_STAT_REG = false ∧ h.openMemory ∧ entryGood e = true ∧ anoCmd e = 0x04) ∧
    (let s : State := tweak (fun h => h.setBytes 0 (([0x05000000, 0, 0, 0] : List Nat).flatMap (leBytes 4))) (put
       F.LDG_CRED_CREDIT 5 (put F.LDG_ACT_LU 7 (put F.ANO_STAT_LIST 1 here) 12) 12)
     let h := s.hw
     let a := h.rd F.ANO_LPTR_ADDR * 16
     let e := (List.range 4).map fun i => fieldAt (h.bytes a 16) (4 * i) 4
     let stands := h.on 33 = true ∧ h.rdB F.ANO_STAT_LIST = true ∧ h.anoHeld = false ∧ h.ano.op = none ∧ h.ano.hold = none
     stands ∧ h.rdB F.ANO_STAT_REG = false ∧ h.openMemory ∧ entryGood e = true ∧ anoCmd e = 0x05) ∧
    (let s : State := tweak (fun h => h.setBytes 0 (([0x20000000, 0, 0, 0] : List Nat).flatMap (leBytes 4))) (put
       F.LDG_CRED_CREDIT 5 (put F.LDG_ACT_LU 7 (put F.ANO_STAT_LIST 1 here) 12) 12)
     let h := s.hw
     let a := h.rd F.ANO_LPTR_ADDR * 16
     let e := (List.range 4).map fun i => fieldAt (h.bytes a 16) (4 * i) 4
     let stands := h.on 33 = true ∧ h.rdB F.ANO_STAT_LIST = true ∧ h.anoHeld = false ∧ h.ano.op = none ∧ h.ano.hold = none
     stands ∧ h.rdB F.ANO_STAT_REG = false ∧ h.openMemory ∧ entryGood e = true ∧ anoCmd e = 0x20 ∧ h.on 22 = true) ∧
    (let s : State := tweak (fun h => h.setBytes 0 (([0x21000000, 0, 0, 0] : List Nat).flatMap (leBytes 4))) (put
       F.LDG_CRED_CREDIT 5 (put F.LDG_ACT_LU 7 (put F.ANO_STAT_LIST 1 here) 12) 12)
     let h := s.hw
     let a := h.rd F.ANO_LPTR_ADDR * 16
     let e := (List.range 4).map fun i => fieldAt (h.bytes a 16) (4 * i) 4
     let stands := h.on 33 = true ∧ h.rdB F.ANO_STAT_LIST = true ∧ h.anoHeld = false ∧ h.ano.op = none ∧ h.ano.hold = none
     stands ∧ h.rdB F.ANO_STAT_REG = false ∧ h.openMemory ∧ entryGood e = true ∧ anoCmd e = 0x21 ∧
       h.fenceReached (bits (ew e 0) 20 16) (ew e 1) = true) ∧
    (let s : State := tweak (fun h => h.setBytes 0 (([0x21000000, 1, 0, 0] : List Nat).flatMap (leBytes 4))) (put
       F.LDG_CRED_CREDIT 5 (put F.LDG_ACT_LU 7 (put F.ANO_STAT_LIST 1 here) 12) 12)
     let h := s.hw
     let a := h.rd F.ANO_LPTR_ADDR * 16
     let e := (List.range 4).map fun i => fieldAt (h.bytes a 16) (4 * i) 4
     let stands := h.on 33 = true ∧ h.rdB F.ANO_STAT_LIST = true ∧ h.anoHeld = false ∧ h.ano.op = none ∧ h.ano.hold = none
     stands ∧ h.rdB F.ANO_STAT_REG = false ∧ h.openMemory ∧ entryGood e = true ∧ anoCmd e = 0x21 ∧
       h.fenceReached (bits (ew e 0) 20 16) (ew e 1) = false) ∧
    (let s : State := tweak (fun h => h.setBytes 0 (([0x22000000, 9, 0, 0] : List Nat).flatMap (leBytes 4))) (put
       F.LDG_CRED_CREDIT 5 (put F.LDG_ACT_LU 7 (put F.ANO_STAT_LIST 1 here) 12) 12)
     let h := s.hw
     let a := h.rd F.ANO_LPTR_ADDR * 16
     let e := (List.range 4).map fun i => fieldAt (h.bytes a 16) (4 * i) 4
     let stands := h.on 33 = true ∧ h.rdB F.ANO_STAT_LIST = true ∧ h.anoHeld = false ∧ h.ano.op = none ∧ h.ano.hold = none
     stands ∧ h.rdB F.ANO_STAT_REG = false ∧ h.openMemory ∧ entryGood e = true ∧ anoCmd e = 0x22) ∧
    (let s : State := tweak (fun h => h.setBytes 0 (([0x30000000, 256, 0, 0] : List Nat).flatMap (leBytes 4))) (put
       F.LDG_CRED_CREDIT 5 (put F.LDG_ACT_LU 7 (put F.ANO_STAT_LIST 1 here) 12) 12)
     let h := s.hw
     let a := h.rd F.ANO_LPTR_ADDR * 16
     let e := (List.range 4).map fun i => fieldAt (h.bytes a 16) (4 * i) 4
     let stands := h.on 33 = true ∧ h.rdB F.ANO_STAT_LIST = true ∧ h.anoHeld = false ∧ h.ano.op = none ∧ h.ano.hold = none
     stands ∧ h.rdB F.ANO_STAT_REG = false ∧ h.openMemory ∧ entryGood e = true ∧ anoCmd e = 0x30) ∧
    (let s : State := tweak (fun h => h.setBytes 0 (([0x3F000000, 0, 0, 0] : List Nat).flatMap (leBytes 4))) (put
       F.LDG_CRED_CREDIT 5 (put F.LDG_ACT_LU 7 (put F.ANO_STAT_LIST 1 here) 12) 12)
     let h := s.hw
     let a := h.rd F.ANO_LPTR_ADDR * 16
     let e := (List.range 4).map fun i => fieldAt (h.bytes a 16) (4 * i) 4
     let stands := h.on 33 = true ∧ h.rdB F.ANO_STAT_LIST = true ∧ h.anoHeld = false ∧ h.ano.op = none ∧ h.ano.hold = none
     stands ∧ h.rdB F.ANO_STAT_REG = false ∧ h.openMemory ∧ entryGood e = true ∧ anoCmd e = 0x3F) ∧
    (let f : Nat := 31
     let need : Nat := 1
     let s : State := tweak (fun h => { h with ano := { h.ano with hold := some (31, 1) } }) (here)
     let h := s.hw
     h.ano.hold = some (f, need) ∧ h.fenceReached f need = false) ∧
    (let f : Nat := 31
     let need : Nat := 0
     let s : State := tweak (fun h => { h with ano := { h.ano with hold := some (31, 0) } }) (here)
     let h := s.hw
     h.ano.hold = some (f, need) ∧ h.fenceReached f need = true) := by
  dsimp only
  and_intros <;> decide +kernel

/-- Meets the hypotheses of `Obligations.AnoleDrawing`, clause by clause. -/
theorem witness_AnoleDrawing :
    (let i : Instr := .anoFill
     let cmd : Nat := 0x11
     let o : AnoOp :=
       ⟨⟨[0x01000000, 0, 0, 0], [0x02000002, 0x3000, 16, 0x20008], [0x03000000, 0, 0, 0], [0x0400FF0C, 0, 0, 0], [none, none, none, none]⟩, [0x11000000, 0, 0, 0x20008], 0, false, false⟩
     let s : State := tweak (fun h =>
       { h with ano := { h.ano with op := some ⟨⟨[0x01000000, 0, 0, 0], [0x02000002, 0x3000, 16, 0x20008], [0x03000000, 0, 0, 0], [0x0400FF0C, 0, 0, 0], [none, none, none, none]⟩, [0x11000000, 0, 0, 0x20008], 0, false, false⟩ } })
       (put F.LDG_ACT_LU 7 (put F.ANO_STAT_REG 1 here) 12)
     let h := s.hw
     let low := fun (l : List Nat) => sfBase l + sfH l * sfPitch l ≤ 0x01000000
     let ready := fun (o : AnoOp) => anoCmd o.entry = cmd ∧ o.check = none ∧ low o.st.dst ∧ (cmd = 0x10 ∨ cmd = 0x12 → low
       o.st.src)
     (i, cmd) ∈ [(Instr.anoCopy, 0x10), (.anoFill, 0x11), (.anoExpand, 0x12), (.anoLine, 0x13), (.anoTri, 0x14)] ∧
       h.rdB F.ANO_STAT_REG = true ∧ h.ano.op = some o ∧ ready o ∧ o.drawn = false ∧ h.on 33 = true ∧ h.anoHeld = false ∧
       h.openMemory ∧ o.list = false) ∧
    (let s : State := put F.ANO_STAT_REG 1 here
     let i : Instr := .anoTri
     let cmd : Nat := 0x14
     let h := s.hw
     (i, cmd) ∈ [(Instr.anoCopy, 0x10), (.anoFill, 0x11), (.anoExpand, 0x12), (.anoLine, 0x13), (.anoTri, 0x14)] ∧
       h.rdB F.ANO_STAT_REG = true ∧ (h.ano.op = none ∨ h.anoHeld = true ∨ h.on 33 = false ∨ ∃ o ∈ h.ano.op, (o.drawn = true ∨
       anoCmd o.entry ≠ cmd))) ∧
    (let i : Instr := .anoFill
     let cmd : Nat := 0x11
     let s : State := tweak (fun h =>
       { h with ano := { h.ano with st := ⟨[0x01000000, 0, 0, 0], [0x02000002, 0x3000, 16, 0x20008], [0x03000000, 0, 0, 0], [0x0400FF0C, 0, 0, 0], [none, none, none, none]⟩ } })
       (tweak (fun h => h.setBytes 0 (([0x11000000, 0, 0, 0x20008] : List Nat).flatMap (leBytes 4))) (put F.LDG_CRED_CREDIT 5
       (put F.LDG_ACT_LU 7 (put F.ANO_STAT_LIST 1 here) 12) 12))
     let h := s.hw
     let low := fun (l : List Nat) => sfBase l + sfH l * sfPitch l ≤ 0x01000000
     let ready := fun (o : AnoOp) => anoCmd o.entry = cmd ∧ o.check = none ∧ low o.st.dst ∧ (cmd = 0x10 ∨ cmd = 0x12 → low
       o.st.src)
     let a := h.rd F.ANO_LPTR_ADDR * 16
     let o : AnoOp := ⟨h.ano.st, (List.range 4).map fun i => fieldAt (h.bytes a 16) (4 * i) 4, a, true, false⟩
     (i, cmd) ∈ [(Instr.anoCopy, 0x10), (.anoFill, 0x11), (.anoExpand, 0x12), (.anoLine, 0x13), (.anoTri, 0x14)] ∧
       h.rdB F.ANO_STAT_REG = false ∧ h.on 33 = true ∧ h.rdB F.ANO_STAT_LIST = true ∧ h.anoHeld = false ∧ h.ano.op = none ∧
       h.ano.hold = none ∧ h.openMemory ∧ entryGood o.entry = true ∧ anoCmd o.entry = cmd ∧ ready o) ∧
    (let i : Instr := .anoFill
     let cmd : Nat := 0x11
     let k : Nat := 2
     let s : State := tweak (fun h => h.setBytes 0 (([0x11000000, 0, 0, 0x20008] : List Nat).flatMap (leBytes 4))) (put
       F.LDG_CRED_CREDIT 5 (put F.LDG_ACT_LU 7 (put F.ANO_STAT_LIST 1 here) 12) 12)
     let h := s.hw
     let a := h.rd F.ANO_LPTR_ADDR * 16
     let o : AnoOp := ⟨h.ano.st, (List.range 4).map fun i => fieldAt (h.bytes a 16) (4 * i) 4, a, true, false⟩
     (i, cmd) ∈ [(Instr.anoCopy, 0x10), (.anoFill, 0x11), (.anoExpand, 0x12), (.anoLine, 0x13), (.anoTri, 0x14)] ∧
       h.rdB F.ANO_STAT_REG = false ∧ h.on 33 = true ∧ h.rdB F.ANO_STAT_LIST = true ∧ h.anoHeld = false ∧ h.ano.op = none ∧
       h.ano.hold = none ∧ h.openMemory ∧ entryGood o.entry = true ∧ anoCmd o.entry = cmd ∧ o.check = some k) := by
  dsimp only
  and_intros <;> decide +kernel

/-- Meets the hypotheses of `Obligations.AnoleControl`, part AnoleSlot, clause by clause. -/
theorem witness_AnoleControl_AnoleSlot :
    (let c : CopCmd := ⟨.eft 0 5, 1, 0x00FFFFF0#32, 0#32⟩
     let rest : List CopCmd := []
     let s : State := put F.LDG_ACT_LU 7 (tweak (fun h =>
       { h with cop := { h.cop with slots := h.cop.slots.set 0 [⟨.eft 0 5, 1, 0x00FFFFF0#32, 0#32⟩] } }) here) 12
     let h := s.hw
     h.slotFront 0 c rest ∧ c.op = 1 ∧ h.actLu 13 ≠ 0 ∧ h.rdB F.ANO_STAT_REG = false ∧ c.a.toNat < 0x01000000 ∧ c.op ≠ 2 ∧
       c.op ≠ 3) ∧
    (let c : CopCmd := ⟨.eft 0 5, 2, 0#32, 0#32⟩
     let rest : List CopCmd := []
     let s : State := put F.LDG_ACT_LU 7 (tweak (fun h =>
       { h with cop := { h.cop with slots := h.cop.slots.set 0 [⟨.eft 0 5, 2, 0#32, 0#32⟩] } }) here) 12
     let h := s.hw
     h.slotFront 0 c rest ∧ c.op = 2 ∧ c.op ≠ 1) ∧
    (let c : CopCmd := ⟨.eft 0 5, 3, 31#32, 0#32⟩
     let rest : List CopCmd := []
     let s : State := put F.LDG_ACT_LU 7 (tweak (fun h =>
       { h with cop := { h.cop with slots := h.cop.slots.set 0 [⟨.eft 0 5, 3, 31#32, 0#32⟩] } }) here) 12
     let h := s.hw
     h.slotFront 0 c rest ∧ c.op = 3) ∧
    (let s : State := here
     let h := s.hw
     h.cop.slots[0]? = some []) := by
  dsimp only
  and_intros <;> decide +kernel

/-- Meets the hypotheses of `Obligations.VoicesAndAvas`, part VoiceRows, clause by clause. -/
theorem witness_VoicesAndAvas_VoiceRows :
    (let s : State := pw (fun p => { p with dom := p.dom.set 35 .off }) here
     let n : Fin 256 := 239
     let h := s.hw
     let v := h.voice n
     h.on (if n < 128 then 34 else if n < 240 then 35 else 36) = false ∧ (v.state ≠ 1 ∨ v.desc ≠ none) ∧
       (∀ b ∈ v.bufs, b.here = true) ∧ (v.state ≠ 1 ∨ v.age < 4) ∧ (v.state ≠ 5 ∨ v.age < 32)) ∧
    (let n : Fin 256 := 239
     let s : State := tweak (fun h => h.setVoice 239 { Voice.reset with state := 1, age := 4 }) (here)
     let h := s.hw
     let v := h.voice n
     let d := (List.range 6).map fun i => fieldAt (h.bytes v.descAt 32) (4 * i) 4
     let reads := h.on (if n < 128 then 34 else if n < 240 then 35 else 36) = true ∧ h.openMemory
     reads ∧ v.state = 1 ∧ v.desc = none ∧ v.descAt % 32 = 0 ∧ v.descAt < 0x01000000 ∧ (vdBad d).isSome = true ∧ 4 ≤ v.age) ∧
    (let n : Fin 256 := 239
     let b : Nat := 0
     let s : State := tweak (fun h => h.setBytes 256 (([0, 1, 0, 0] : List Nat).flatMap (leBytes 4))) (tweak (fun h =>
       h.setVoice 239 { Voice.reset with state := 1, descAt := 0x100 }) (here))
     let h := s.hw
     let v := h.voice n
     let d := (List.range 6).map fun i => fieldAt (h.bytes v.descAt 32) (4 * i) 4
     let reads := h.on (if n < 128 then 34 else if n < 240 then 35 else 36) = true ∧ h.openMemory
     reads ∧ v.state = 1 ∧ v.desc = none ∧ v.descAt % 32 = 0 ∧ v.descAt < 0x01000000 ∧ vdBad d = none ∧ v.bufs = [] ∧
       h.freeBuf n = some b) ∧
    (let n : Fin 256 := 239
     let b : VBuf := ⟨3, 0xFFFFC0, 0, 64, false, false⟩
     let s : State := tweak (fun h => h.setVoice 239
       { Voice.reset with state := 2, bufs := [⟨3, 0xFFFFC0, 0, 64, false, false⟩] }) (here)
     let h := s.hw
     let v := h.voice n
     let reads := h.on (if n < 128 then 34 else if n < 240 then 35 else 36) = true ∧ h.openMemory
     reads ∧ (v.state ≠ 1 ∨ v.desc ≠ none) ∧ v.bufs.find? (fun b => !b.here) = some b ∧ b.chunk % 64 = 0 ∧ b.chunk < 0x01000000) ∧
    (let n : Fin 256 := 239
     let b : VBuf := ⟨3, 0xFFFFC0, 0, 64, false, false⟩
     let s : State := tweak (fun h => h.setVoice 239
       { Voice.reset with state := 2, bufs := [⟨3, 0xFFFFC0, 0, 64, false, false⟩] }) (pw (fun p =>
       { p with dom := p.dom.set 19 .off }) here)
     let h := s.hw
     let v := h.voice n
     h.on (if n < 128 then 34 else if n < 240 then 35 else 36) = true ∧ (v.state ≠ 1 ∨ v.desc ≠ none) ∧
       v.bufs.find? (fun b => !b.here) = some b ∧ b.chunk < 0x01000000 ∧ b.chunk % 64 = 0 ∧
       h.on (4 + b.chunk / 0x100000) = false) ∧
    (let n : Fin 256 := 239
     let s : State := tweak (fun h => h.setVoice 239 { Voice.reset with state := 5, age := 32 }) (here)
     let h := s.hw
     let v := h.voice n
     v.state = 5 ∧ 32 ≤ v.age) := by
  dsimp only
  and_intros <;> decide +kernel

/-- Meets the hypotheses of `Obligations.VoicesAndAvas`, part AvasPath, clause by clause. -/
theorem witness_VoicesAndAvas_AvasPath :
    (let s : State := here
     let h := s.hw
     let aven := h.rdB F.VOC_PAUDIT_AVEN
     (h.voc.plen = 0 ∨ h.on 20 = false) ∧ aven = false ∧ (h.on 38 = false ∨ aven = false)) ∧
    (let s : State := tweak (fun h => { h with voc := { h.voc with plen := 16, silenced := true } }) (here)
     let h := s.hw
     h.voc.plen ≠ 0 ∧ h.on 20 = true ∧ h.voc.silenced = true) ∧
    (let s : State := tweak (fun h => { h with voc := { h.voc with plen := 16, base := 0xFFFFF0 } }) (here)
     let h := s.hw
     let src := h.bytes (0x01000000 + h.voc.psrc) h.voc.plen
     let area := h.bytes h.voc.base h.voc.plen
     h.voc.plen ≠ 0 ∧ h.on 20 = true ∧ h.voc.silenced = false ∧ h.memOn h.voc.base = true ∧ area = src) ∧
    (let s : State := tweak (fun h => h.setBytes 16777200 (([1] : List Nat).flatMap (leBytes 4))) (tweak (fun h =>
       { h with voc := { h.voc with plen := 16, base := 0xFFFFF0 } }) (here))
     let h := s.hw
     let src := h.bytes (0x01000000 + h.voc.psrc) h.voc.plen
     let area := h.bytes h.voc.base h.voc.plen
     h.voc.plen ≠ 0 ∧ h.on 20 = true ∧ h.voc.silenced = false ∧ h.memOn h.voc.base = true ∧
       h.voc.base + h.voc.plen ≤ 0x01000000 ∧ area ≠ src) ∧
    (let s : State := put F.VOC_PAUDIT_AVEN 1 here
     let left : Int := 0
     let right : Int := 255
     let h := s.hw
     let aven := h.rdB F.VOC_PAUDIT_AVEN
     let cut := fun (w : Int) => if h.rd F.AUS_AS1CFG_SW = 0 then w / 256 else w
     let same := cut left = cut (h.mix.word.getD 8 0) ∧ cut right = cut (h.mix.word.getD 9 0)
     aven = true ∧ h.on 38 = true ∧ (¬ same)) ∧
    (let s : State := put F.VOC_PAUDIT_AVEN 1 here
     let left : Int := 0
     let right : Int := 0
     let h := s.hw
     let aven := h.rdB F.VOC_PAUDIT_AVEN
     let cut := fun (w : Int) => if h.rd F.AUS_AS1CFG_SW = 0 then w / 256 else w
     let same := cut left = cut (h.mix.word.getD 8 0) ∧ cut right = cut (h.mix.word.getD 9 0)
     h.on 38 = true ∧ aven = true ∧ same) := by
  dsimp only
  and_intros <;> decide +kernel

/-- Meets the hypotheses of `Obligations.MetersAndAudio`, part Meters, clause by clause. -/
theorem witness_MetersAndAudio_Meters :
    (let s : State := pw (fun p => { p with dom := p.dom.set 34 .off }) here
     let k : Fin 24 := 23
     let h := s.hw
     let m := h.mix.meters.getD k Meter.reset
     let holdn := getBits (h.reg (0x040B0400 + 16 * k)) 23 16
     h.on 34 = false ∧ (m.n < 2 ^ m.win ∨ m.restart = true) ∧ (holdn = 0 ∨ m.quiet < holdn)) ∧
    (let k : Fin 24 := 23
     let value : Word := 0#32
     let s : State := tweak (fun h =>
       { h with mix := { h.mix with meters := h.mix.meters.set 23 { Meter.reset with n := 1024, restart := false } } }) (here)
     let h := s.hw
     let tap := if k.val = 22 then 0x21 else if k.val = 23 then 0x20 else getBits (h.reg (0x040B0400 + 16 * k)) 5 0
     let keeps := getBits value 11 8 = getBits (h.reg (0x040B0400 + 16 * k)) 11 8 ∧ (k.val < 22 → getBits value 5 0 = tap)
     let m := h.mix.meters.getD k Meter.reset
     h.on 34 = true ∧ 2 ^ m.win ≤ m.n ∧ m.restart = false ∧ h.mix.meters.length = 24 ∧ (¬ keeps)) ∧
    (let k : Fin 24 := 23
     let value : Word := 0#32
     let s : State := tweak (fun h => h.setReg 0x040B0570 0x00020000#32) (tweak (fun h =>
       { h with mix := { h.mix with meters := h.mix.meters.set 23 { Meter.reset with quiet := 2 } } }) (here))
     let h := s.hw
     let tap := if k.val = 22 then 0x21 else if k.val = 23 then 0x20 else getBits (h.reg (0x040B0400 + 16 * k)) 5 0
     let keeps := getBits value 11 8 = getBits (h.reg (0x040B0400 + 16 * k)) 11 8 ∧ (k.val < 22 → getBits value 5 0 = tap)
     let m := h.mix.meters.getD k Meter.reset
     let holdn := getBits (h.reg (0x040B0400 + 16 * k)) 23 16
     h.on 34 = true ∧ h.mix.meters.length = 24 ∧ holdn ≠ 0 ∧ holdn ≤ m.quiet ∧ keeps) := by
  dsimp only
  and_intros <;> decide +kernel

/-- Meets the hypotheses of `Obligations.MetersAndAudio`, part AudioPeriod, clause by clause. -/
theorem witness_MetersAndAudio_AudioPeriod :
    (let s : State := put F.AUS_AS0CFG_EN 1 here
     let words : List Int := [-8388608, 8388607]
     let h := s.hw
     let takes := h.on 38 = true ∧ h.rdB F.AUS_AS0CFG_EN = true ∧ h.rdB F.MIX_STAT_FALLBACK = false
     takes ∧ (∀ w ∈ words, -8388608 ≤ w ∧ w ≤ 8388607) ∧ h.pwr.audWanted = false ∧ h.on 34 = true ∧ h.voc.recs = []) ∧
    (let s : State := pw (fun p => { p with audWanted := true }) here
     let h := s.hw
     let takes := h.on 38 = true ∧ h.rdB F.AUS_AS0CFG_EN = true ∧ h.rdB F.MIX_STAT_FALLBACK = false
     (¬ takes) ∧ h.pwr.audWanted = true) := by
  dsimp only
  and_intros <;> decide +kernel

/-- Meets the hypotheses of `Obligations.Varan`, part VaranStreams, clause by clause. -/
theorem witness_Varan_VaranStreams :
    (let s : State := pw (fun p => { p with dom := p.dom.set 39 .off }) here
     let k : Fin 4 := 3
     let h := s.hw
     let phase := h.rd F.VAR_SSTAT_PHASE k
     let runs := phase = 1 ∨ phase = 2 ∨ phase = 4
     h.on 39 = false ∧ (¬ runs) ∧ phase ≠ 1 ∧ phase ≠ 4) ∧
    (let s : State := put F.VAR_SSTAT_PHASE 1 (here) 3
     let k : Fin 4 := 3
     let h := s.hw
     let phase := h.rd F.VAR_SSTAT_PHASE k
     let runs := phase = 1 ∨ phase = 2 ∨ phase = 4
     h.on 39 = true ∧ runs ∧ phase = 1 ∧ h.var.streams.length = 4) ∧
    (let s : State := here
     let k : Fin 4 := 3
     let h := s.hw
     let cfg := (List.range 16).map fun i => h.reg (0x040C0200 + 0x80 * k + 4 * i)
     let v : VStream := { VStream.reset with cfg := cfg }
     let phase := h.rd F.VAR_SSTAT_PHASE k
     let runs := phase = 1 ∨ phase = 2 ∨ phase = 4
     h.on 39 = true ∧ (¬ runs) ∧ v.bad = true) ∧
    (let k : Fin 4 := 3
     let s : State := tweak (fun h => (h.setReg (0x040C0200 + 0x80 * 3) 4#32).setReg (0x040C0200 + 0x80 * 3 + 16) 0x1000#32)
       (here)
     let h := s.hw
     let cfg := (List.range 16).map fun i => h.reg (0x040C0200 + 0x80 * k + 4 * i)
     let v : VStream := { VStream.reset with cfg := cfg }
     let phase := h.rd F.VAR_SSTAT_PHASE k
     let runs := phase = 1 ∨ phase = 2 ∨ phase = 4
     h.on 39 = true ∧ (¬ runs) ∧ v.bad = false ∧ h.rd F.LDG_ACT_LU 10 = 0) ∧
    (let k : Fin 4 := 3
     let s : State := put F.LDG_ACT_LU 7 (tweak (fun h => (h.setReg (0x040C0200 + 0x80 * 3) 4#32).setReg (0x040C0200 + 0x80 * 3
       + 16) 0x1000#32) (here)) 10
     let h := s.hw
     let cfg := (List.range 16).map fun i => h.reg (0x040C0200 + 0x80 * k + 4 * i)
     let v : VStream := { VStream.reset with cfg := cfg }
     let phase := h.rd F.VAR_SSTAT_PHASE k
     let runs := phase = 1 ∨ phase = 2 ∨ phase = 4
     h.on 39 = true ∧ (¬ runs) ∧ v.bad = false ∧ h.rd F.LDG_ACT_LU 10 ≠ 0) := by
  dsimp only
  and_intros <;> decide +kernel

/-- Meets the hypotheses of `Obligations.Varan`, part VaranRows, clause by clause. -/
theorem witness_Varan_VaranRows :
    (let k : Fin 4 := 3
     let s : State := tweak (fun h => h.modStream 3 fun v => { v with cfg := [0x200#32], low := 64 }) (put F.VAR_SSTAT_AUTO 1
       (put F.VAR_SSTAT_PHASE 4 (here) 3) 3)
     let h := s.hw
     let v := h.stream k
     let runs := h.rd F.VAR_SSTAT_PHASE k = 1 ∨ h.rd F.VAR_SSTAT_PHASE k = 2 ∨ h.rd F.VAR_SSTAT_PHASE k = 4
     let auto := h.rd F.VAR_SSTAT_AUTO k
     (h.on 39 = false ∨ ¬ runs ∨ v.staged = []) ∧ h.on 39 = true ∧ runs ∧ 64 ≤ v.low ∧ v.cfgBits 0 9 9 = 1 ∧ 0 < auto ∧
       h.var.streams.length = 4) ∧
    (let i : Fin 2 := 1
     let k : Fin 4 := 3
     let r : VRec := ⟨5, [7], [], 1, 2, 0, false⟩
     let rest : List VRec := []
     let s : State := tweak (fun h => h.modStream 3 fun v =>
       { v with cfg := [4#32, 0#32, 0#32, 0xFFF000#32, 0x1000#32], staged := [⟨5, [7], [], 1, 2, 0, false⟩] }) (put
       F.VAR_SSTAT_PHASE 2 (here) 3)
     let h := s.hw
     let v := h.stream k
     let runs := h.rd F.VAR_SSTAT_PHASE k = 1 ∨ h.rd F.VAR_SSTAT_PHASE k = 2 ∨ h.rd F.VAR_SSTAT_PHASE k = 4
     let auto := h.rd F.VAR_SSTAT_AUTO k
     h.on 39 = true ∧ runs ∧ v.staged = r :: rest ∧ h.var.streams.length = 4 ∧ h.openMemory ∧ v.ttrig = [] ∧
       v.postLeft = none ∧ v.slot < v.slots ∧ v.base + v.size ≤ 0x01000000 ∧ r.payload.length ≤ v.payload ∧
       (v.streamMode = true → h.rd F.VAR_SRDPTR_ADDR k * 16 ≠ v.slotAddr v.slot) ∧
       (h.on 39 = false ∨ ¬ runs ∨ v.low < 64 ∨ v.cfgBits 0 9 9 = 0 ∨ auto = 0) ∧ h.fnActive (4 + i) = false ∧
       h.var.pulse.getD i false = false) ∧
    (let rising : Bool := true
     let i : Fin 2 := 1
     let u : Fin 4 := 3
     let s : State := tweak (fun h => ({ h with gpi := { h.gpi with owner := h.gpi.owner.set 5 5 } } : Hw).wr F.GPI_PIN_FUNC 1
       5) (put F.VAR_CU_CFG_OP 4 (put F.VAR_CU_CFG_SEL 1 (put F.VAR_CU_CFG_KIND 5 (here) 3) 3) 3)
     let h := s.hw
     h.on 39 = true ∧ h.fnActive (4 + i) = true ∧ h.rd F.VAR_CU_CFG_KIND u = 5 ∧ h.rd F.VAR_CU_CFG_SEL u % 2 = i ∧
       (h.rd F.VAR_CU_CFG_OP u = 4 ∨ h.rd F.VAR_CU_CFG_OP u = (if rising then 2 else 3)) ∧ h.var.level.getD u false = false) ∧
    (let s : State := pw (fun p => { p with dom := (p.dom.set 39 .off).set 21 .off }) here
     let rising : Bool := false
     let h := s.hw
     h.on 39 = false ∧ (rising = false ∨ h.on 21 = false)) ∧
    (let i : Fin 2 := 1
     let s : State := tweak (fun h => ({ h with gpi := { h.gpi with owner := h.gpi.owner.set 5 5 } } : Hw).wr F.GPI_PIN_FUNC 1
       5) (put F.BRG_BIO_IEN1 1 (pw (fun p => { p with dom := p.dom.set 39 .off }) here))
     let h := s.hw
     h.on 39 = false ∧ h.fnActive (4 + i) = true ∧ h.on 21 = true ∧
       (if i = 0 then h.rdB F.BRG_BIO_IEN0 else h.rdB F.BRG_BIO_IEN1) = true) ∧
    (let i : Fin 2 := 1
     let s : State := tweak (fun h => { h with var := { h.var with pulse := [false, true] } }) here
     let h := s.hw
     h.var.pulse[i.val]? = some true) ∧
    (let s : State := put F.VAR_CTRL_HEN 1 here
     let h := s.hw
     h.rd F.TIM_STAT_STATE ≠ 2 ∧ h.rd F.TIM_STAT_STATE ≠ 4 ∧ h.on 39 = true ∧ h.on 40 = true ∧ h.rdB F.VAR_CTRL_HEN = true ∧
       (∀ u < 4, h.rd F.VAR_CU_CFG_KIND u ≠ 2)) ∧
    (let s : State := tweak (fun h => h.modStream 3 fun v =>
       { v with cfg := [4#32, 0#32, 0#32, 0xFFF000#32, 0x1000#32], staged := [⟨5, [7], [], 1, 2, 0, false⟩] }) (put
       F.VAR_SSTAT_PHASE 2 (here) 3)
     let h := s.hw
     h.rd F.TIM_STAT_STATE ≠ 2 ∧ h.rd F.TIM_STAT_STATE ≠ 4 ∧ (h.on 39 = false ∨ h.on 40 = false ∨ h.rdB F.VAR_CTRL_HEN = false)) := by
  dsimp only
  and_intros <;> decide +kernel

/-- Meets the hypotheses of `Obligations.LinkPortsAndPackets`, part LinkPorts, clause by clause. -/
theorem witness_LinkPortsAndPackets_LinkPorts :
    (let s : State := pw (fun p => { p with dom := (p.dom.set 41 .off).set 42 .off }) here
     let p : Fin 2 := 1
     let h := s.hw
     let st := fun (q : Nat) => h.rd F.BRG_P_STAT_STATE q
     let trains := fun (q : Nat) => h.on (41 + q) = true ∧ h.on 21 = true ∧ h.rdB F.BRG_P_CTRL_TXEN q = true
     let locked := h.rdB F.SYS_CLKSTAT_LNK_LOCK = true
     h.on 41 = false ∧ h.on 42 = false ∧ (¬ locked) ∧ (¬ trains p ∨ ¬ locked ∨ st p = 0 ∨ st p = 2 ∨ st p = 3 ∨ st p = 4) ∧
       (st p ≠ 2 ∨ ¬ trains p ∨ ¬ locked) ∧ st p ≠ 3) ∧
    (let s : State := put F.BRG_P_STAT_STATE 1 (put F.BRG_P_CTRL_TXEN 1 (put F.SYS_CLKSTAT_LNK_LOCK 1 here) 1) 1
     let p : Fin 2 := 1
     let h := s.hw
     let st := fun (q : Nat) => h.rd F.BRG_P_STAT_STATE q
     let trains := fun (q : Nat) => h.on (41 + q) = true ∧ h.on 21 = true ∧ h.rdB F.BRG_P_CTRL_TXEN q = true
     let locked := h.rdB F.SYS_CLKSTAT_LNK_LOCK = true
     (h.on 41 = true ∨ h.on 42 = true) ∧ locked ∧ trains p ∧ (st p = 1 ∨ st p = 5 ∨ st p = 6)) ∧
    (let s : State := put F.BRG_P_STAT_STATE 2 (put F.BRG_P_CTRL_TXEN 1 (put F.SYS_CLKSTAT_LNK_LOCK 1 here) 1) 1
     let p : Fin 2 := 1
     let h := s.hw
     let st := fun (q : Nat) => h.rd F.BRG_P_STAT_STATE q
     let trains := fun (q : Nat) => h.on (41 + q) = true ∧ h.on 21 = true ∧ h.rdB F.BRG_P_CTRL_TXEN q = true
     let locked := h.rdB F.SYS_CLKSTAT_LNK_LOCK = true
     st p = 2 ∧ trains p ∧ locked) ∧
    (let s : State := put F.BRG_P_STAT_STATE 3 (here) 1
     let p : Fin 2 := 1
     let h := s.hw
     let st := fun (q : Nat) => h.rd F.BRG_P_STAT_STATE q
     let e := (h.bport p).exch
     st p = 3 ∧ e.length < 16 ∧ h.brg.ports.length = 2) ∧
    (let p : Fin 2 := 1
     let s : State := tweak (fun h =>
       { h with brg := { h.brg with ports := h.brg.ports.set 1 { BPort.reset with exch := List.replicate 16 0 } } }) (put
       F.BRG_P_STAT_STATE 3 (here) 1)
     let h := s.hw
     let st := fun (q : Nat) => h.rd F.BRG_P_STAT_STATE q
     let e := (h.bport p).exch
     st p = 3 ∧ 16 ≤ e.length) := by
  dsimp only
  and_intros <;> decide +kernel

/-- Meets the hypotheses of `Obligations.SuperframesAndBunting`, part Superframes, clause by clause. -/
theorem witness_SuperframesAndBunting_Superframes :
    (let s : State := here
     let p : Fin 2 := 1
     let h := s.hw
     let up := fun (n : Nat) => h.rd F.BRG_P_STAT_STATE n = 3
     (¬ up p)) ∧
    (let s : State := put F.BRG_P_STAT_STATE 3 (here) 1
     let p : Fin 2 := 1
     let f : SFrame :=
       ⟨5, true, false, false, false, false, 1, 0, 9, 0, 0, 0, 0, 0, 0, [], List.replicate 32 none, true, true, []⟩
     let sub : Nat := 2147483647
     let h := s.hw
     let q : Nat := 1 - p.val
     let up := fun (n : Nat) => h.rd F.BRG_P_STAT_STATE n = 3
     let own : Int := (h.sysTime : Int) * 10000 + h.brg.frac + (sub : Int) - (f.corr : Int) - (h.rd F.BRG_P_DELAY_DELAY p :
       Nat)
     let err := own - ((f.sysTime * 625 : Nat) : Int)
     let plain := up p ∧ h.brg.lead = false ∧ f.enm = false ∧ f.nodes = 0
     plain ∧ (¬ up q) ∧ f.tv = true ∧ f.hcrcOk = true ∧ f.acrcOk = true ∧ h.brg.ports.length = 2 ∧ h.sysTime < 2 ^ 64 ∧
       -2147483648 ≤ err ∧ err ≤ 2147483647) ∧
    (let s : State := put F.BRG_P_STAT_STATE 3 (here) 1
     let p : Fin 2 := 1
     let f : SFrame :=
       ⟨5, true, false, false, false, false, 1, 0, 9, 0, 0, 0, 0, 0, 0, [], List.replicate 32 none, false, true, []⟩
     let h := s.hw
     let q : Nat := 1 - p.val
     let up := fun (n : Nat) => h.rd F.BRG_P_STAT_STATE n = 3
     let plain := up p ∧ h.brg.lead = false ∧ f.enm = false ∧ f.nodes = 0
     plain ∧ (¬ up q) ∧ f.hcrcOk = false ∧ f.acrcOk = true) ∧
    (let s : State := put F.BRG_P_CTRL_TXEN 1 (put F.BRG_P_STAT_STATE 3 (put F.BRG_P_STAT_STATE 3 (here) 1) 0) 0
     let p : Fin 2 := 1
     let f : SFrame :=
       ⟨5, true, false, false, false, false, 1, 0, 9, 0, 0, 0, 0, 0, 0, [], List.replicate 32 none, true, true, []⟩
     let h := s.hw
     let q : Nat := 1 - p.val
     let up := fun (n : Nat) => h.rd F.BRG_P_STAT_STATE n = 3
     let plain := up p ∧ h.brg.lead = false ∧ f.enm = false ∧ f.nodes = 0
     plain ∧ up q ∧ h.rdB F.BRG_P_CTRL_TXEN q = true ∧ f.hcrcOk = true ∧ f.acrcOk = true ∧ h.brg.sent.length = 2 ∧
       h.brg.ports.length = 2 ∧ h.rd F.BRG_STAT_TOPO ≠ 2) ∧
    (let p : Fin 2 := 1
     let f : SFrame :=
       ⟨5, true, false, false, true, false, 1, 0, 127, 0, 0, 0, 0, 0, 0, [], List.replicate 32 none, true, true, []⟩
     let s : State := tweak (fun h => { h with brg := { h.brg with lead := true } }) (put F.BRG_P_STAT_STATE 3 (here) 1)
     let h := s.hw
     let up := fun (n : Nat) => h.rd F.BRG_P_STAT_STATE n = 3
     up p ∧ h.brg.lead = true ∧ f.turn = true ∧ h.rd F.BRG_STAT_TOPO ≠ 2 ∧ f.srcId < 128 ∧ f.hcrcOk = true ∧ f.acrcOk = true) := by
  dsimp only
  and_intros <;> decide +kernel

/-- Meets the hypotheses of `Obligations.SuperframesAndBunting`, part Bunting, clause by clause. -/
theorem witness_SuperframesAndBunting_Bunting :
    (let s : State := pw (fun p => { p with dom := p.dom.set 21 .off }) here
     let h := s.hw
     h.on 21 = false ∧ (h.on 21 = false ∨ h.brg.landing = [])) ∧
    (let t : Nat := 9
     let value : Word := 0#32
     let s : State := tweak (fun h => { h with brg := { h.brg with landing := [(31, 9, false), (0, 9, false)] } }) (here)
     let h := s.hw
     h.on 21 = true ∧ getBits value 0 0 = 0 ∧ h.brg.landing ≠ [] ∧ t < 2 ^ 64 ∧
       (∀ e ∈ h.brg.landing, e.2.1 = t ∧ e.2.2 = false)) ∧
    (let s : State := here
     let value : Word := 0xFFFFFFFF#32
     let h := s.hw
     h.on 21 = true ∧ getBits value 0 0 = 1) ∧
    (let s : State := tweak (fun h => { h with brg := { h.brg with landing := [(0, 9, true)] } }) (here)
     let h := s.hw
     h.on 21 = true ∧ h.brg.landing ≠ [] ∧ (∀ e ∈ h.brg.landing, e.2.2 = true)) := by
  dsimp only
  and_intros <;> decide +kernel

/-- Meets the hypotheses of `Obligations.LinkPortsAndPackets`, part LinkPackets, clause by clause. -/
theorem witness_LinkPortsAndPackets_LinkPackets :
    (let s : State := here
     let p : Fin 2 := 1
     let h := s.hw
     let up := h.rd F.BRG_P_STAT_STATE p = 3
     (¬ up)) ∧
    (let s : State := put F.BRG_P_STAT_STATE 3 (put F.BRG_STAT_ID 4 (put F.BRG_POLICY_BYTES 0x0000000F here)) 1
     let p : Fin 2 := 1
     let k : LPkt := ⟨6, 4, 9, 7, 0, true, [], false⟩
     let h := s.hw
     let up := h.rd F.BRG_P_STAT_STATE p = 3
     let good := up ∧ k.crcOk = true ∧ k.kind ≠ 0 ∧ k.kind < 9
     up ∧ (¬ good)) ∧
    (let s : State := put F.BRG_P_STAT_STATE 3 (put F.BRG_STAT_ID 4 (put F.BRG_POLICY_BYTES 0x0000000F here)) 1
     let p : Fin 2 := 1
     let k : LPkt := ⟨8, 4, 9, 7, 0, true, [], true⟩
     let h := s.hw
     let up := h.rd F.BRG_P_STAT_STATE p = 3
     let good := up ∧ k.crcOk = true ∧ k.kind ≠ 0 ∧ k.kind < 9
     good ∧ (k.dst ≠ h.nodeId ∨ k.kind ≠ 6) ∧ (k.dst ≠ h.nodeId ∨ k.kind ≠ 7)) ∧
    (let p : Fin 2 := 1
     let k : LPkt := ⟨6, 4, 9, 7, 0, true, [3#8, 3#8, 0#8, 0#8] ++ leBytes 4 0 ++ leBytes 4 0, true⟩
     let r : LPkt := ⟨7, 4, 9, 7, 0, true, [], true⟩
     let s : State := tweak (fun h =>
       { h with brg := { h.brg with answered := [⟨9, 7, 6, ⟨7, 4, 9, 7, 0, true, [], true⟩, 0⟩] } }) (put F.BRG_P_STAT_STATE 3
       (put F.BRG_STAT_ID 4 (put F.BRG_POLICY_BYTES 0x0000000F here)) 1)
     let h := s.hw
     let up := h.rd F.BRG_P_STAT_STATE p = 3
     let good := up ∧ k.crcOk = true ∧ k.kind ≠ 0 ∧ k.kind < 9
     let mine := good ∧ k.dst = h.nodeId
     mine ∧ k.kind = 6 ∧ h.nodeId ≠ 0xFF ∧ h.linkAnswered k.src k.tag 6 = some r) ∧
    (let s : State := put F.BRG_P_STAT_STATE 3 (put F.BRG_STAT_ID 4 (put F.BRG_POLICY_BYTES 0x0000000F here)) 1
     let p : Fin 2 := 1
     let k : LPkt := ⟨6, 4, 9, 7, 0, true, [3#8, 4#8, 0#8, 0#8] ++ leBytes 4 0 ++ leBytes 4 0, true⟩
     let h := s.hw
     let up := h.rd F.BRG_P_STAT_STATE p = 3
     let good := up ∧ k.crcOk = true ∧ k.kind ≠ 0 ∧ k.kind < 9
     let mine := good ∧ k.dst = h.nodeId
     let slot := byteAt k.payload 1 % 8
     let fresh := mine ∧ k.kind = 6 ∧ h.nodeId ≠ 0xFF ∧ h.linkAnswered k.src k.tag 6 = none
     fresh ∧ 4 ≤ slot) ∧
    (let s : State := put F.BRG_P_STAT_STATE 3 (put F.BRG_STAT_ID 4 (put F.BRG_POLICY_BYTES 0x00000000 here)) 1
     let p : Fin 2 := 1
     let k : LPkt := ⟨6, 4, 9, 7, 0, true, [3#8, 3#8, 0#8, 0#8] ++ leBytes 4 0 ++ leBytes 4 0, true⟩
     let h := s.hw
     let up := h.rd F.BRG_P_STAT_STATE p = 3
     let good := up ∧ k.crcOk = true ∧ k.kind ≠ 0 ∧ k.kind < 9
     let mine := good ∧ k.dst = h.nodeId
     let slot := byteAt k.payload 1 % 8
     let fresh := mine ∧ k.kind = 6 ∧ h.nodeId ≠ 0xFF ∧ h.linkAnswered k.src k.tag 6 = none
     fresh ∧ h.cop.slots[slot]? = some [] ∧ h.cop.results[slot]? = some [] ∧ h.cop.fenceWaits = [] ∧ slot < 4 ∧
       bit (h.policyByte 0) slot = false) ∧
    (let s : State := put F.BRG_P_STAT_STATE 3 (put F.BRG_STAT_ID 4 (put F.BRG_POLICY_BYTES 0x0000000F here)) 1
     let p : Fin 2 := 1
     let k : LPkt := ⟨6, 4, 9, 7, 0, true, [3#8, 3#8, 0#8, 0#8] ++ leBytes 4 4 ++ leBytes 4 0, true⟩
     let c : Nat := 2
     let h := s.hw
     let up := h.rd F.BRG_P_STAT_STATE p = 3
     let good := up ∧ k.crcOk = true ∧ k.kind ≠ 0 ∧ k.kind < 9
     let mine := good ∧ k.dst = h.nodeId
     let slot := byteAt k.payload 1 % 8
     let eft := byteAt k.payload 1 / 16 % 4
     let cmd : CopCmd :=
       ⟨.remote k.src eft k.tag, byteAt k.payload 0, BitVec.ofNat 32 (fieldAt k.payload 4 4), BitVec.ofNat 32 (fieldAt k.payload 8 4)⟩
     let fresh := mine ∧ k.kind = 6 ∧ h.nodeId ≠ 0xFF ∧ h.linkAnswered k.src k.tag 6 = none
     fresh ∧ h.cop.slots[slot]? = some [] ∧ h.cop.results[slot]? = some [] ∧ h.cop.fenceWaits = [] ∧ slot < 4 ∧
       bit (h.policyByte 0) slot = true ∧ h.copRefusal slot cmd.op cmd.a cmd.b = some c) ∧
    (let s : State := put F.BRG_P_STAT_STATE 3 (put F.BRG_STAT_ID 4 (put F.BRG_POLICY_BYTES 0x0000000F here)) 1
     let p : Fin 2 := 1
     let k : LPkt := ⟨6, 4, 9, 7, 0, true, [3#8, 3#8, 0#8, 0#8] ++ leBytes 4 3 ++ leBytes 4 0, true⟩
     let h := s.hw
     let up := h.rd F.BRG_P_STAT_STATE p = 3
     let good := up ∧ k.crcOk = true ∧ k.kind ≠ 0 ∧ k.kind < 9
     let mine := good ∧ k.dst = h.nodeId
     let slot := byteAt k.payload 1 % 8
     let eft := byteAt k.payload 1 / 16 % 4
     let cmd : CopCmd :=
       ⟨.remote k.src eft k.tag, byteAt k.payload 0, BitVec.ofNat 32 (fieldAt k.payload 4 4), BitVec.ofNat 32 (fieldAt k.payload 8 4)⟩
     let fresh := mine ∧ k.kind = 6 ∧ h.nodeId ≠ 0xFF ∧ h.linkAnswered k.src k.tag 6 = none
     fresh ∧ h.cop.slots[slot]? = some [] ∧ h.cop.results[slot]? = some [] ∧ h.cop.fenceWaits = [] ∧ slot < 4 ∧
       bit (h.policyByte 0) slot = true ∧ h.copRefusal slot cmd.op cmd.a cmd.b = none) ∧
    (let p : Fin 2 := 1
     let k : LPkt := ⟨7, 4, 9, 7, 0, true, [2#8, 0x33#8, 0x77#8, 0#8] ++ zeros 4, true⟩
     let i : Fin 4 := 3
     let t : CopEntry := ⟨5, 2, 1, false, [], none⟩
     let s : State := tweak (fun h =>
       { (((h.wr (copCfg 7 15 15) 1).wr (copCfg 7 6 0) 9).wr (copCfg 7 10 8) 3) with cop := { h.cop with queues := h.cop.queues.set (8 * 3 + 7) [⟨5, 2, 1, false, [], none⟩] } })
       (put F.BRG_P_STAT_STATE 3 (put F.BRG_STAT_ID 4 (put F.BRG_POLICY_BYTES 0x0000000F here)) 1)
     let h := s.hw
     let up := h.rd F.BRG_P_STAT_STATE p = 3
     let good := up ∧ k.crcOk = true ∧ k.kind ≠ 0 ∧ k.kind < 9
     let mine := good ∧ k.dst = h.nodeId
     let slot := byteAt k.payload 1 % 8
     let eft := byteAt k.payload 1 / 16 % 4
     mine ∧ k.kind = 7 ∧ (∀ j : Fin 4, h.rdB (copCfg (4 + j) 15 15) = true ↔ j = i) ∧ h.rd (copCfg (4 + i) 6 0) = k.src ∧
       h.rd (copCfg (4 + i) 10 8) = slot ∧ h.copQueue eft (4 + i) = [t] ∧ t.done = false ∧ t.fail = none ∧
       t.tag ≠ byteAt k.payload 2) ∧
    (let p : Fin 2 := 1
     let k : LPkt := ⟨7, 4, 9, 7, 0, true, [2#8, 0x33#8, 0x77#8, 15#8] ++ zeros 4, true⟩
     let i : Fin 4 := 3
     let t : CopEntry := ⟨5, 2, 0x77, false, [], none⟩
     let s : State := tweak (fun h =>
       { (((h.wr (copCfg 7 15 15) 1).wr (copCfg 7 6 0) 9).wr (copCfg 7 10 8) 3) with cop := { h.cop with queues := h.cop.queues.set (8 * 3 + 7) [⟨5, 2, 0x77, false, [], none⟩] } })
       (put F.BRG_P_STAT_STATE 3 (put F.BRG_STAT_ID 4 (put F.BRG_POLICY_BYTES 0x0000000F here)) 1)
     let h := s.hw
     let up := h.rd F.BRG_P_STAT_STATE p = 3
     let good := up ∧ k.crcOk = true ∧ k.kind ≠ 0 ∧ k.kind < 9
     let mine := good ∧ k.dst = h.nodeId
     let slot := byteAt k.payload 1 % 8
     let eft := byteAt k.payload 1 / 16 % 4
     let status := byteAt k.payload 3 % 16
     mine ∧ k.kind = 7 ∧ (∀ j : Fin 4, h.rdB (copCfg (4 + j) 15 15) = true ↔ j = i) ∧ h.rd (copCfg (4 + i) 6 0) = k.src ∧
       h.rd (copCfg (4 + i) 10 8) = slot ∧ h.copQueue eft (4 + i) = [t] ∧ t.done = false ∧ t.fail = none ∧
       t.tag = byteAt k.payload 2 ∧ status ≠ 0) ∧
    (let p : Fin 2 := 1
     let k : LPkt := ⟨7, 4, 9, 7, 0, true, [2#8, 0x33#8, 0x77#8, 0#8] ++ zeros 4, true⟩
     let i : Fin 4 := 3
     let t : CopEntry := ⟨5, 2, 0x77, false, [], none⟩
     let s : State := tweak (fun h =>
       { (((h.wr (copCfg 7 15 15) 1).wr (copCfg 7 6 0) 9).wr (copCfg 7 10 8) 3) with cop := { h.cop with queues := h.cop.queues.set (8 * 3 + 7) [⟨5, 2, 0x77, false, [], none⟩] } })
       (put F.BRG_P_STAT_STATE 3 (put F.BRG_STAT_ID 4 (put F.BRG_POLICY_BYTES 0x0000000F here)) 1)
     let h := s.hw
     let up := h.rd F.BRG_P_STAT_STATE p = 3
     let good := up ∧ k.crcOk = true ∧ k.kind ≠ 0 ∧ k.kind < 9
     let mine := good ∧ k.dst = h.nodeId
     let slot := byteAt k.payload 1 % 8
     let eft := byteAt k.payload 1 / 16 % 4
     let status := byteAt k.payload 3 % 16
     mine ∧ k.kind = 7 ∧ (∀ j : Fin 4, h.rdB (copCfg (4 + j) 15 15) = true ↔ j = i) ∧ h.rd (copCfg (4 + i) 6 0) = k.src ∧
       h.rd (copCfg (4 + i) 10 8) = slot ∧ h.copQueue eft (4 + i) = [t] ∧ t.done = false ∧ t.fail = none ∧
       t.tag = byteAt k.payload 2 ∧ status = 0) ∧
    (let s : State := here
     let node : Fin 128 := 9
     let tag : Fin 256 := 7
     let h := s.hw
     (∀ e ∈ h.brg.waiting, ¬ (e.1.dst = node.val ∧ e.1.tag = tag.val ∧ e.2 < 3))) ∧
    (let node : Fin 128 := 9
     let tag : Fin 256 := 7
     let e : LPkt × Nat := (⟨6, 9, 4, 7, 0, true, [], true⟩, 2)
     let s : State := tweak (fun h => { h with brg := { h.brg with waiting := [(⟨6, 9, 4, 7, 0, true, [], true⟩, 2)] } }) (put
       F.BRG_P_STAT_STATE 3 (put F.BRG_STAT_ID 4 (put F.BRG_POLICY_BYTES 0x0000000F here)) 1)
     let h := s.hw
     h.brg.waiting = [e] ∧ e.1.dst = node.val ∧ e.1.tag = tag.val ∧ e.2 < 3 ∧ h.nodeId ≠ 0xFF) := by
  dsimp only
  and_intros <;> decide +kernel

/-- Meets the hypotheses of `Obligations.Pins`, part PinWrites, clause by clause. -/
theorem witness_Pins_PinWrites :
    (let s : State := pw (fun p => { p with dom := p.dom.set 46 .off }) here
     let m : Fin 12 := 1
     let b : Nat := 31
     let h := s.hw
     b < 32 ∧ s.hw.reaches m = true ∧ h.on 46 = false) ∧
    (let s : State := here
     let m : Fin 12 := 1
     let b : Nat := 31
     let h := s.hw
     b < 32 ∧ s.hw.reaches m = true ∧ h.on 46 = true) := by
  dsimp only
  and_intros <;> decide +kernel

/-- Meets the hypotheses of `Obligations.Pins`, part PinLevels, clause by clause. -/
theorem witness_Pins_PinLevels :
    (let s : State := here
     let bank : Fin 4 := 3
     let n : Fin 96 := 95
     let level : Bool := true
     let h := s.hw
     let dom := if n.val < 48 then 46 else 47
     let on := h.on dom = true
     let edge := h.rd F.GPI_PIN_EDGE n
     let reaches := h.rd F.GPI_PIN_FUNC n = 1 ∧ h.gpi.owner.getD n 0 ∈ fnOwners n ∧ on
     let quiet := ¬ (n.val ∈ [1, 8, 24, 25, 26, 27, 29, 30, 31, 32, 34, 36])
     quiet ∧ on ∧ h.gpi.bad.getD (n / 24) false = false ∧ (¬ reaches) ∧
       (¬ on ∨ edge = 0 ∨ (edge = 1 ∧ level = false) ∨ (edge = 2 ∧ level = true)) ∧ h.on (46 + bank / 2) = true ∧
       h.gpi.bad.length = 4) ∧
    (let n : Fin 96 := 95
     let s : State := pw (fun p => { p with dom := p.dom.set 47 .off }) here
     let bank : Fin 4 := 3
     let h := s.hw
     let dom := if n.val < 48 then 46 else 47
     let on := h.on dom = true
     (h.gpi.bad.getD (n / 24) false = true ∨ ¬ on) ∧ (¬ on) ∧ h.on (46 + bank / 2) = false) ∧
    (let s : State := put F.GPI_PIN_EDGE 3 (here) 95
     let n : Fin 96 := 95
     let level : Bool := true
     let h := s.hw
     let dom := if n.val < 48 then 46 else 47
     let on := h.on dom = true
     let edge := h.rd F.GPI_PIN_EDGE n
     on ∧ (edge = 3 ∨ (edge = 1 ∧ level = true) ∨ (edge = 2 ∧ level = false))) := by
  dsimp only
  and_intros <;> decide +kernel

/-- Meets the hypotheses of `Obligations.SerialPorts`, part Xspi, clause by clause. -/
theorem witness_SerialPorts_Xspi :
    (let s : State := pw (fun p => { p with dom := p.dom.set 44 .off }) here
     let line : Nat := 127
     let h := s.hw
     let l := line / 64 * 64
     let on := h.on 44 = true
     (¬ on) ∧ h.xsp.cmd = none ∧ h.xsp.dma = none ∧ h.xsp.miss ≠ some l ∧ h.xsp.prefetch ≠ some l) ∧
    (let s : State := here
     let value : Word := 0#32
     let h := s.hw
     let go := value.getLsbD 0 = true
     let on := h.on 44 = true
     on ∧ (¬ go)) ∧
    (let value : Word := 1#32
     let c : XspCmd := ⟨1#32, 0, []⟩
     let s : State := tweak (fun h => { h with xsp := { h.xsp with cmd := some ⟨1#32, 0, []⟩ } }) (here)
     let h := s.hw
     let go := value.getLsbD 0 = true
     let on := h.on 44 = true
     on ∧ go ∧ (h.xsp.dma ≠ none ∨ h.xsp.cmd ≠ none) ∧ h.xsp.dma = none ∧ h.xsp.cmd = some c ∧
       (h.xsp.cmd ≠ none ∨ h.xsp.dma ≠ none)) ∧
    (let line : Nat := 127
     let value : Word := 1#32
     let s : State := tweak (fun h => { h with xsp := { h.xsp with miss := some 64 } }) (here)
     let h := s.hw
     let l := line / 64 * 64
     let go := value.getLsbD 0 = true
     let on := h.on 44 = true
     on ∧ go ∧ h.xsp.dma = none ∧ h.xsp.cmd = none ∧ h.xsp.miss = some l) ∧
    (let d : XspDma := ⟨0, 0xFFFFF0, 16⟩
     let s : State := tweak (fun h => { h with xsp := { h.xsp with dma := some ⟨0, 0xFFFFF0, 16⟩ } }) (here)
     let h := s.hw
     let on := h.on 44 = true
     on ∧ h.xsp.cmd = none ∧ h.xsp.dma = some d ∧ h.openMemory ∧ d.dst % 16 = 0 ∧ d.len % 16 = 0 ∧ d.dst + d.len ≤ 0x01000000) ∧
    (let d : XspDma := ⟨0, 0xFFFFF0, 16⟩
     let s : State := tweak (fun h => { h with xsp := { h.xsp with dma := some ⟨0, 0xFFFFF0, 16⟩ } }) (pw (fun p =>
       { p with dom := p.dom.set 19 .off }) here)
     let h := s.hw
     h.xsp.dma = some d ∧ d.dst < 0x01000000 ∧ 0 < d.len / 16 ∧ h.on (domainOf d.dst) = false) ∧
    (let line : Nat := 127
     let s : State := tweak (fun h => { h with xsp := { h.xsp with prefetch := some 64 } }) (here)
     let h := s.hw
     let l := line / 64 * 64
     h.xsp.miss ≠ some l ∧ h.xsp.prefetch = some l) := by
  dsimp only
  and_intros <;> decide +kernel

/-- Meets the hypotheses of `Obligations.SerialPorts`, part SerialPorts, clause by clause. -/
theorem witness_SerialPorts_SerialPorts :
    (let s : State := pw (fun p => { p with dom := p.dom.set 46 .off }) here
     let c : Fin 2 := 1
     let rx : List Byte := []
     let tx : List Byte := []
     let h := s.hw
     let has := h.uart[c.val]? = some ⟨rx, tx⟩
     let on := h.on 46 = true
     let hears := on ∧ h.rdB F.GPI_UART_CFG_EN c = true ∧ h.fnActive (33 + 2 * c) = true
     (¬ on) ∧ h.i2c[c.val]? = some none ∧ (¬ hears) ∧ (h.rdB F.GPI_UART_CFG_EN c = false ∨ (has ∧ tx = []))) ∧
    (let s : State := here
     let value : Word := 0#32
     let h := s.hw
     let on := h.on 46 = true
     let go := value.getLsbD 0 = true
     on ∧ (¬ go)) ∧
    (let c : Fin 2 := 1
     let rx : List Byte := []
     let tx : List Byte := []
     let value : Word := 1#32
     let r : I2cRun := ⟨0x50, false, [], 1⟩
     let s : State := tweak (fun h => { h with i2c := h.i2c.set 1 (some ⟨0x50, false, [], 1⟩) }) here
     let h := s.hw
     let on := h.on 46 = true
     let has := h.uart[c.val]? = some ⟨rx, tx⟩
     let go := value.getLsbD 0 = true
     on ∧ go ∧ h.i2c[c.val]? = some (some r) ∧ has ∧ tx.length < 64) ∧
    (let c : Fin 2 := 1
     let stop : Bool := true
     let parity : Bool := true
     let broken : Bool := true
     let rx : List Byte := []
     let tx : List Byte := [1#8]
     let value : Word := 1#32
     let s : State := tweak (fun h => { h with uart := h.uart.set 1 ⟨[], [1#8]⟩ }) (put F.GPI_PIN_FUNC 1 (put F.GPI_UART_CFG_EN
       1 (tweak (fun h => { h with gpi := { h.gpi with owner := h.gpi.owner.set 35 3 } }) here) 1) 35)
     let h := s.hw
     let on := h.on 46 = true
     let has := h.uart[c.val]? = some ⟨rx, tx⟩
     let hears := on ∧ h.rdB F.GPI_UART_CFG_EN c = true ∧ h.fnActive (33 + 2 * c) = true
     let go := value.getLsbD 0 = true
     on ∧ go ∧ h.i2c[c.val]? = some none ∧ hears ∧ has ∧ (broken = true ∨ stop = false ∨ parity = false) ∧ rx.length < 64 ∧
       h.rdB F.GPI_UART_CFG_EN c = true ∧ tx ≠ []) ∧
    (let c : Fin 2 := 1
     let rx : List Byte := []
     let tx : List Byte := List.replicate 64 7#8
     let s : State := tweak (fun h => { h with uart := h.uart.set 1 ⟨[], List.replicate 64 7#8⟩ }) (here)
     let h := s.hw
     let on := h.on 46 = true
     let has := h.uart[c.val]? = some ⟨rx, tx⟩
     on ∧ has ∧ 64 ≤ tx.length) ∧
    (let c : Fin 2 := 1
     let value : Word := 1#32
     let rx : List Byte := []
     let tx : List Byte := []
     let s : State := tweak (fun h => { h with i2c := h.i2c.set 1 (some ⟨0x50, false, [], 1⟩) }) here
     let h := s.hw
     let on := h.on 46 = true
     let go := value.getLsbD 0 = true
     let has := h.uart[c.val]? = some ⟨rx, tx⟩
     on ∧ has ∧ go) ∧
    (let c : Fin 2 := 1
     let rx : List Byte := List.replicate 64 7#8
     let tx : List Byte := []
     let s : State := tweak (fun h => { h with uart := h.uart.set 1 ⟨List.replicate 64 7#8, []⟩ }) (put F.GPI_PIN_FUNC 1 (put
       F.GPI_UART_CFG_EN 1 (tweak (fun h => { h with gpi := { h.gpi with owner := h.gpi.owner.set 35 3 } }) here) 1) 35)
     let h := s.hw
     let on := h.on 46 = true
     let has := h.uart[c.val]? = some ⟨rx, tx⟩
     let hears := on ∧ h.rdB F.GPI_UART_CFG_EN c = true ∧ h.fnActive (33 + 2 * c) = true
     hears ∧ has ∧ 64 ≤ rx.length) := by
  dsimp only
  and_intros <;> decide +kernel

/-- Meets the hypotheses of `Obligations.CanController`, part CanReceive, clause by clause. -/
theorem witness_CanController_CanReceive :
    (let s : State := here
     let f : CanFrame := ⟨false, 5, false, false, false, false, 0, []⟩
     let i : Nat := 15
     let h := s.hw
     let nbt := (h.reg 0x040F0044).toNat
     let dbt := (h.reg 0x040F0048).toNat
     let mode := h.rd F.CAN_CFG_MODE
     let fd := h.rdB F.CAN_CFG_FD
     let runs := h.on 43 = true ∧ mode ≠ 0 ∧ 1 ≤ bits nbt 22 16 ∧ 80 ≤ (bits nbt 4 0 + 1) * (1 + (bits nbt 15 8 + 1) + (bits
       nbt 22 16 + 1)) ∧ 16 ≤ (bits dbt 4 0 + 1) * (1 + (bits dbt 12 8 + 1) + (bits dbt 19 16 + 1))
     let hears := runs ∧ h.can.offBus = false ∧ mode ≠ 3 ∧ h.fnActive 0 = true
     let takes := hears ∧ (f.fdf = true → fd = true)
     i < 16 ∧ (¬ hears) ∧ (¬ hears ∨ fd = true) ∧ h.on 43 = true ∧ (¬ takes)) ∧
    (let f : CanFrame := ⟨false, 5, false, true, false, false, 0, []⟩
     let i : Nat := 15
     let s : State := put F.CAN_CFG_FD 0 (tweak (fun h => (((({ h with gpi := { h.gpi with owner := h.gpi.owner.set 0 1 } } :
       Hw).wr F.GPI_PIN_FUNC 1 0).setReg 0x040F0044 0x001F3F00#32).setReg 0x040F0048 0x000F0F00#32).wr F.CAN_CFG_MODE 1) here)
     let h := s.hw
     let nbt := (h.reg 0x040F0044).toNat
     let dbt := (h.reg 0x040F0048).toNat
     let mode := h.rd F.CAN_CFG_MODE
     let fd := h.rdB F.CAN_CFG_FD
     let runs := h.on 43 = true ∧ mode ≠ 0 ∧ 1 ≤ bits nbt 22 16 ∧ 80 ≤ (bits nbt 4 0 + 1) * (1 + (bits nbt 15 8 + 1) + (bits
       nbt 22 16 + 1)) ∧ 16 ≤ (bits dbt 4 0 + 1) * (1 + (bits dbt 12 8 + 1) + (bits dbt 19 16 + 1))
     let hears := runs ∧ h.can.offBus = false ∧ mode ≠ 3 ∧ h.fnActive 0 = true
     i < 16 ∧ hears ∧ f.fdf = true ∧ fd = false) ∧
    (let f : CanFrame := ⟨false, 5, false, false, false, false, 0, []⟩
     let i : Nat := 15
     let s : State := tweak (fun h => (((({ h with gpi := { h.gpi with owner := h.gpi.owner.set 0 1 } } : Hw).wr F.GPI_PIN_FUNC
       1 0).setReg 0x040F0044 0x001F3F00#32).setReg 0x040F0048 0x000F0F00#32).wr F.CAN_CFG_MODE 1) here
     let h := s.hw
     let nbt := (h.reg 0x040F0044).toNat
     let dbt := (h.reg 0x040F0048).toNat
     let mode := h.rd F.CAN_CFG_MODE
     let fd := h.rdB F.CAN_CFG_FD
     let runs := h.on 43 = true ∧ mode ≠ 0 ∧ 1 ≤ bits nbt 22 16 ∧ 80 ≤ (bits nbt 4 0 + 1) * (1 + (bits nbt 15 8 + 1) + (bits
       nbt 22 16 + 1)) ∧ 16 ≤ (bits dbt 4 0 + 1) * (1 + (bits dbt 12 8 + 1) + (bits dbt 19 16 + 1))
     let hears := runs ∧ h.can.offBus = false ∧ mode ≠ 3 ∧ h.fnActive 0 = true
     let takes := hears ∧ (f.fdf = true → fd = true)
     i < 16 ∧ takes ∧ hears ∧ fd = false ∧ h.on 43 = true) ∧
    (let s : State := pw (fun p => { p with dom := p.dom.set 43 .off }) here
     let i : Nat := 15
     let h := s.hw
     i < 16 ∧ h.on 43 = false) := by
  dsimp only
  and_intros <;> decide +kernel

/-- Meets the hypotheses of `Obligations.CanController`, part CanTransmit, clause by clause. -/
theorem witness_CanController_CanTransmit :
    (let s : State := pw (fun p => { p with dom := p.dom.set 43 .off }) here
     let h := s.hw
     let on := h.on 43 = true
     (¬ on)) ∧
    (let s : State := here
     let h := s.hw
     let runs := h.canRuns = true
     let live := runs ∧ h.can.offBus = false
     let on := h.on 43 = true
     on ∧ (¬ live) ∧ (¬ runs ∨ h.can.offBus = false ∨ h.rdB F.CAN_CFG_AUTOREC = false)) ∧
    (let s : State := tweak (fun h => (((({ h with gpi := { h.gpi with owner := h.gpi.owner.set 0 1 } } : Hw).wr F.GPI_PIN_FUNC
       1 0).setReg 0x040F0044 0x001F3F00#32).setReg 0x040F0048 0x000F0F00#32).wr F.CAN_CFG_MODE 1) here
     let h := s.hw
     let runs := h.canRuns = true
     let live := runs ∧ h.can.offBus = false
     live ∧ h.can.sending = none ∧ h.rd F.CAN_TXREQ_REQ = 0) ∧
    (let b : Fin 8 := 7
     let s : State := tweak (fun h => { h with can := { h.can with sending := some 7 } }) (tweak (fun h =>
       (((({ h with gpi := { h.gpi with owner := h.gpi.owner.set 0 1 } } : Hw).wr F.GPI_PIN_FUNC 1 0).setReg 0x040F0044
       0x001F3F00#32).setReg 0x040F0048 0x000F0F00#32).wr F.CAN_CFG_MODE 1) here)
     let h := s.hw
     let runs := h.canRuns = true
     let live := runs ∧ h.can.offBus = false
     live ∧ h.can.sending = some b.val) ∧
    (let s : State := tweak (fun h => { h with can := { h.can with offBus := true } }) (tweak (fun h =>
       (((({ h with gpi := { h.gpi with owner := h.gpi.owner.set 0 1 } } : Hw).wr F.GPI_PIN_FUNC 1 0).setReg 0x040F0044
       0x001F3F00#32).setReg 0x040F0048 0x000F0F00#32).wr F.CAN_CFG_MODE 1) here)
     let h := s.hw
     let runs := h.canRuns = true
     runs ∧ h.can.offBus = true ∧ h.rdB F.CAN_CFG_AUTOREC = true) := by
  dsimp only
  and_intros <;> decide +kernel

/-- Meets the hypotheses of `Obligations.Steps`, clause by clause. -/
theorem witness_Steps :
    (let s : State := { here with pending := [.waitRelease] }
     let c : Instr := .waitRelease
     let rest : List Instr := []
     s.pending = c :: rest) ∧
    (let s : State := here
     s.pending = []) := by
  dsimp only
  and_intros <;> decide +kernel

/-- Meets the hypotheses of `Obligations.TModeDataTriggers`, part TModeAlu, clause by clause. -/
theorem witness_TModeDataTriggers_TModeAlu :
    let s : State := core 0 true id
    let e : Fin 4 := 0
    let src : Fin 256 := 0x2A
    s.hw.canIssue e true = true ∧ canRead src = true ∧ resSlot src = none := by
  dsimp only
  and_intros <;> decide +kernel

/-- Meets the hypotheses of `Obligations.TModeDataTriggers`, part TModeShifts, clause by clause. -/
theorem witness_TModeDataTriggers_TModeShifts :
    let s : State := core 0 true id
    let e : Fin 4 := 0
    let src : Fin 256 := 0x2A
    s.hw.canIssue e true = true ∧ canRead src = true ∧ resSlot src = none := by
  dsimp only
  and_intros <;> decide +kernel

/-- Meets the hypotheses of `Obligations.TModeDataTriggers`, part TModeMultiply, clause by clause. -/
theorem witness_TModeDataTriggers_TModeMultiply :
    let s : State := core 0 true id
    let e : Fin 4 := 0
    let src : Fin 256 := 0x2A
    s.hw.canIssue e true = true ∧ canRead src = true ∧ resSlot src = none := by
  dsimp only
  and_intros <;> decide +kernel

/-- Meets the hypotheses of `Obligations.TModeMemoryTriggers`, part TModeMemory, clause by clause. -/
theorem witness_TModeMemoryTriggers :
    (let e : Fin 4 := 0
     let src : Fin 256 := 0x35
     let store : Fin 3 := 0
     let kind : Fin 5 := 0
     let key : Nat := 0xE0013FFC
     let s : State := core 0 true fun t => { t with bank0 := { t.bank0 with lsuB := 0xE0003FFC#32 } }
     let t := s.hw.eft e
     let a := (t.bank.lsuB + t.readPort e 0x1F1F#16 src).toNat
     let ws : Nat := [4, 2, 1].getD store 1
     let w : Nat := [4, 2, 2, 1, 1].getD kind 1
     s.hw.canIssue e true = true ∧ canRead src = true ∧ resSlot src = none ∧ t.wordData = none ∧ t.fillBad = none ∧
       lramKey e a = some key ∧ a % w = 0 ∧ a % ws = 0) ∧
    (let e : Fin 4 := 0
     let src : Fin 256 := 0x35
     let store : Fin 3 := 0
     let kind : Fin 5 := 0
     let key : Nat := 0xE0013FFE
     let s : State := core 0 true fun t => { t with bank0 := { t.bank0 with lsuB := 0xE0003FFE#32 } }
     let t := s.hw.eft e
     let a := (t.bank.lsuB + t.readPort e 0x1F1F#16 src).toNat
     let ws : Nat := [4, 2, 1].getD store 1
     let w : Nat := [4, 2, 2, 1, 1].getD kind 1
     s.hw.canIssue e true = true ∧ canRead src = true ∧ resSlot src = none ∧ t.wordData = none ∧ t.fillBad = none ∧
       lramKey e a = some key ∧ a % w ≠ 0 ∧ t.sr.exl = false ∧ a % ws ≠ 0) := by
  dsimp only
  and_intros <;> decide +kernel

/-- Meets the hypotheses of `Obligations.TModeBranchTriggers`, part TModeBranches, clause by clause. -/
theorem witness_TModeBranchTriggers :
    (let s : State := core 0 true id
     let e : Fin 4 := 0
     let src : Fin 256 := 0x2A
     let t := s.hw.eft e
     let v := t.readPort e 0x1F1F#16 src
     let cond := t.bank.brC.toNat % 16
     s.hw.canIssue e true = true ∧ canRead src = true ∧ resSlot src = none ∧ t.pc.toNat % 4 = 0 ∧ cond ≠ 15 ∧ v.toNat % 4 = 0) ∧
    (let e : Fin 4 := 0
     let src : Fin 256 := 0x2A
     let s : State := core 0 true fun t => { t with bank0 := { t.bank0 with brC := 15#32, aluR := 1#32 } }
     let t := s.hw.eft e
     let f := t.sr
     let v := t.readPort e 0x1F1F#16 src
     let cond := t.bank.brC.toNat % 16
     s.hw.canIssue e true = true ∧ canRead src = true ∧ resSlot src = none ∧ f.exl = false ∧ cond = 15 ∧ v.toNat % 4 ≠ 0) := by
  dsimp only
  and_intros <;> decide +kernel

/-- Meets the hypotheses of `Obligations.TModeSystemTriggers`, part TModeSystem, clause by clause. -/
theorem witness_TModeSystemTriggers :
    (let e : Fin 4 := 0
     let src : Fin 256 := 0x2A
     let s : State := tweak (fun h => h.wr F.EFT_FLAGS_FLAGS 6) (core 0 true fun t =>
       { t with bank0 := { t.bank0 with aluR := 6#32, cacheA := 0#32 } })
     let t := s.hw.eft e
     let h := s.hw.issued e
     let v := t.readPort e 0x1F1F#16 src
     let flags := h.rd F.EFT_FLAGS_FLAGS
     let got := flags &&& v.toNat
     s.hw.canIssue e true = true ∧ canRead src = true ∧ resSlot src = none ∧ got ≠ 0 ∧ t.sr.exl = false ∧ 5 < v.toNat) ∧
    (let e : Fin 4 := 0
     let src : Fin 256 := 0x2A
     let s : State := core 0 true fun t => { t with bank0 := { t.bank0 with aluR := 5#32, cacheA := 0#32 } }
     let t := s.hw.eft e
     let h := s.hw.issued e
     let v := t.readPort e 0x1F1F#16 src
     let flags := h.rd F.EFT_FLAGS_FLAGS
     let got := flags &&& v.toNat
     s.hw.canIssue e true = true ∧ canRead src = true ∧ resSlot src = none ∧ got = 0 ∧ v = 5#32) ∧
    (let s : State := tweak (fun h => h.wr F.EFT_FLAGS_FLAGS 6) (core 0 true fun t =>
       { t with bank0 := { t.bank0 with aluR := 6#32, cacheA := 0#32 } })
     let e : Fin 4 := 0
     let src : Fin 256 := 0x2A
     s.hw.canIssue e true = true ∧ canRead src = true ∧ resSlot src = none) ∧
    (let e : Fin 4 := 0
     let src : Fin 256 := 0x2A
     let i : Nat := setOf 0xFFFFFC * 4 + 1
     let l : DLine := ⟨0xFFFFE0, List.replicate 32 1#8, true⟩
     let s : State := tweak (fun h =>
       { h with caches := { h.caches with dlines := [(setOf 0xFFFFFC * 4 + 1, ⟨0xFFFFE0, List.replicate 32 1#8, true⟩)] } })
       (core 0 true fun t => { t with bank0 := { t.bank0 with aluR := 1#32, cacheA := 0xFFFFFC#32 } })
     let t := s.hw.eft e
     let v := t.readPort e 0x1F1F#16 src
     s.hw.canIssue e true = true ∧ canRead src = true ∧ resSlot src = none ∧ v = 1#32 ∧
       s.hw.caches.find t.bank.cacheA.toNat = some (i, l)) := by
  dsimp only
  and_intros <;> decide +kernel

/-- Meets the hypotheses of `Obligations.TModeWords`, part TModeMoves, clause by clause. -/
theorem witness_TModeWords_TModeMoves :
    let s : State := core 0 true id
    let e : Fin 4 := 0
    let d0 : Nat := 0x21
    let d1 : Nat := 0x2C
    let word : Word := 0xFFFF00C0#32
    let t := s.hw.eft e
    let p : Fin 16 := 15
    let q : Fin 16 := 14
    s.hw.canIssue e true = true ∧ p ≠ q ∧ t.sr.exl = false ∧
      (canRead (word.toNat % 256) = false ∨ canWrite (word.toNat / 256 % 256) = false) ∧ 0x21 ≤ d0 ∧ d0 ≤ 0x2C ∧ 0x21 ≤ d1 ∧
      d1 ≤ 0x2C ∧ d0 ≠ 0x2A ∧ d1 ≠ 0x2A := by
  dsimp only
  and_intros <;> decide +kernel

/-- Meets the hypotheses of `Obligations.TModeWords`, part TModeLanding, clause by clause. -/
theorem witness_TModeWords_TModeLanding :
    (let e : Fin 4 := 0
     let n : Fin 2 := 1
     let v : BitVec 48 := 9#48
     let s : State := core 0 true fun t => { t with fly := [⟨.acc 1, 9#48, 1⟩] }
     let t := s.hw.eft e
     (s.hw.modEft e (fun t => { t with fly := [] })).canIssue e true = true ∧ t.fly = [⟨.acc n, v, 1⟩]) ∧
    (let e : Fin 4 := 0
     let b : Bool := true
     let v : BitVec 48 := 9#48
     let s : State := core 0 true fun t => { t with fly := [⟨.lsu true, 9#48, 1⟩] }
     let t := s.hw.eft e
     (s.hw.modEft e (fun t => { t with fly := [] })).canIssue e true = true ∧ t.fly = [⟨.lsu b, v, 1⟩]) ∧
    (let e : Fin 4 := 0
     let n : Fin 2 := 1
     let v : BitVec 48 := 9#48
     let s : State := core 0 true fun t => { t with fly := [⟨.acc 1, 9#48, 2⟩] }
     let t := s.hw.eft e
     (s.hw.modEft e (fun t => { t with fly := [] })).canIssue e true = true ∧ t.fly = [⟨.acc n, v, 2⟩]) := by
  dsimp only
  and_intros <;> decide +kernel

end Sys2Proof.Tests
end

section
/-! What a read of the TMR count's upper register shows (02 R31), and a state in which `Obligations.RegisterRows` fails. -/

namespace Sys2Proof.Machine

open Sys2Proof

/-- TMR_CNTHI reads as its 16 bits of the count. -/
theorem readMask_cntHi (w : Word) : readMask 0x04160044 w = BitVec.ofNat 32 (getBits w 15 0) := by
  have hf : fieldsOf 0x04160044 = [⟨15, 0, .ro, .lv, 0⟩] := by decide +kernel
  simp [readMask, hf, setBits, getBits]

/-- After a read of the lower register, TMR_CNTHI answers its own fields of the word latched. -/
theorem Hw.readReg_cntHi (h : Hw) :
    (h.readReg 0x04160044).2 = readMask 0x04160044 (Store.get (fun _ => 0#32) h.wideRead 0x04160040) := rfl

/-- So that read answers less than 2^16, whatever the device holds. -/
theorem Hw.readReg_cntHi_lt (h : Hw) : (h.readReg 0x04160044).2.toNat < 2 ^ 16 := by
  rw [h.readReg_cntHi, readMask_cntHi]
  simp only [getBits, BitVec.toNat_ofNat]
  omega

/-- The state after reset, but with bit 31 set in the word that stands for TMR_CNTHI, above the register's only field. -/
def strayCountBit : State := { State.reset with hw := State.reset.hw.setReg 0x04160044 0x80000000#32 }

/-- The fields of the lower register, which is 32 bits wide, keep the stray bit. -/
theorem readMask_cntLo_strayCountBit :
    readMask 0x04160040 (strayCountBit.hw.liveWord 0x04160044) = 0x80000000#32 := by decide +kernel

/-- Refutes O24: the part on wide values reads the upper register through the fields of the lower one. The two agree only
where the upper word holds nothing outside its own fields, and the statement ranges over every state: with bit 31 of the
word of TMR_CNTHI set, it asks a 16-bit register to answer 0x80000000. -/
theorem not_registerRows : ¬ Obligations.RegisterRows := by
  unfold Obligations.RegisterRows
  rintro ⟨-, -, -, -, wide⟩
  have hon : strayCountBit.hw.on (regDomain 0x04160040) = true := by decide +kernel
  obtain ⟨h, -, -, hread, -⟩ := (wide strayCountBit 0 0#32 0#32).1 hon
  have hread : (h.readReg 0x04160044).2 = readMask 0x04160040 (strayCountBit.hw.liveWord 0x04160044) := hread
  have hlt := h.readReg_cntHi_lt
  rw [hread, readMask_cntLo_strayCountBit] at hlt
  exact absurd hlt (by decide)

end Sys2Proof.Machine
end

section
/-! Every command is one cycle of the device or of the engine, the same in every state, so it completes, and neither reads nor
changes the queue (logs 31, 84). -/

namespace Sys2Proof.Machine

open Sys2Proof

/-- A meaning that completes in every state, keeps the queue, and does on any other queue just what it does on this one. -/
def LeavesQueueAlone (m : State → Host.Outcome State Fault Refusal) : Prop :=
  ∀ s, ∃ t, m s = .next t ∧ t.pending = s.pending ∧ ∀ q, m { s with pending := q } = .next { t with pending := q }

/-- A register cycle takes of the state what the device holds, and gives back only that. -/
theorem State.onHw_leavesQueueAlone (f : Hw → Hw) : LeavesQueueAlone (·.onHw f) :=
  fun _ => ⟨_, rfl, rfl, fun _ => rfl⟩

/-- A cycle of the command engine takes and gives the store and the fuses besides. -/
theorem State.onSys_leavesQueueAlone (f : Sys → Sys) : LeavesQueueAlone (·.onSys f) :=
  fun _ => ⟨_, rfl, rfl, fun _ => rfl⟩

/-- A master's access is a register cycle, one that changes nothing where the master reaches no register. -/
theorem State.byMaster_eq_onHw (s : State) (m : Nat) (f : Hw → Hw) :
    s.byMaster m f = s.onHw fun h => if h.reaches m then f h else h := rfl

/-- `exec_shape`, with the shape and its function chosen before the state: neither depends on it. The arms that are named
are the accesses by a master. -/
theorem exec_uniform_shape (i : Instr) :
    (∃ f : Hw → Hw, ∀ s, exec i s = s.onHw f) ∨ (∃ f : Sys → Sys, ∀ s, exec i s = s.onSys f) := by
  cases i <;> dsimp only [exec]
  case evtWrite | evtenWrite | commitArm | commitDisarm | registerWrite | eftFlagsetWrite | timRunStart | timRunStop |
      gpiOutWrite | gpiOeWrite | gpiPinWrite =>
    exact Or.inl ⟨_, fun s => s.byMaster_eq_onHw _ _⟩
  all_goals first | exact Or.inl ⟨_, fun _ => rfl⟩ | exact Or.inr ⟨_, fun _ => rfl⟩

/-- Either shape leaves the queue alone, so every command does. -/
theorem exec_leavesQueueAlone (i : Instr) : LeavesQueueAlone (exec i) := by
  obtain ⟨f, hf⟩ | ⟨f, hf⟩ := exec_uniform_shape i
  · rw [funext hf]
    exact State.onHw_leavesQueueAlone f
  · rw [funext hf]
    exact State.onSys_leavesQueueAlone f

/-- Settles O3, by the two shapes of a command, neither of which touches the queue. -/
theorem everyCommandCompletes : Obligations.EveryCommandCompletes := by
  unfold Obligations.EveryCommandCompletes
  exact exec_leavesQueueAlone

end Sys2Proof.Machine
end

section
/-! Fields of a register word, what a register and an event read as after a write, whatever form the register list has, and the
ways in which a command is shown to do what a statement says. -/

namespace Sys2Proof.Machine

open Sys2Proof

/-! ## Fields of a word -/

/-- Replacing a field rebuilds the number from what lies above the field, the new value and what lies below. -/
theorem toNat_setBits (w : Word) {hi lo : Nat} (v : Nat) (hlo : lo ≤ hi) (hhi : hi < 32) :
    (setBits w hi lo v).toNat =
      2 ^ lo * (2 ^ (hi + 1 - lo) * (w.toNat / 2 ^ (hi + 1)) + v % 2 ^ (hi + 1 - lo)) + w.toNat % 2 ^ lo := by
  have hsplit : 2 ^ (hi + 1) = 2 ^ lo * 2 ^ (hi + 1 - lo) := by rw [← Nat.pow_add]; congr 1; omega
  have hword : 2 ^ 32 = 2 ^ lo * (2 ^ (hi + 1 - lo) * 2 ^ (31 - hi)) := by
    rw [← Nat.mul_assoc, ← hsplit, ← Nat.pow_add]; congr 1; omega
  have hw := w.isLt
  simp only [setBits, getBits, BitVec.toNat_ofNat, hsplit, ← Nat.div_div_eq_div_mul]
  rw [hword] at hw ⊢
  have hA : 0 < 2 ^ lo := Nat.two_pow_pos _
  have hM : 0 < 2 ^ (hi + 1 - lo) := Nat.two_pow_pos _
  generalize 2 ^ lo = A at *
  generalize 2 ^ (hi + 1 - lo) = M at *
  generalize 2 ^ (31 - hi) = C at *
  have hq : w.toNat / A / M < C := by
    rw [Nat.div_div_eq_div_mul]
    exact Nat.div_lt_of_lt_mul (by rwa [Nat.mul_assoc])
  have hnew : A * (M * (w.toNat / A / M) + v % M) + w.toNat % A < A * (M * C) := by
    have hr := Nat.mod_lt w.toNat hA
    have hv := Nat.mod_lt v hM
    have hfit : M * (w.toNat / A / M) + v % M + 1 ≤ M * C :=
      Nat.le_trans (by rw [Nat.mul_succ]; omega) (Nat.mul_le_mul_left M hq)
    have hscaled := Nat.mul_le_mul_left A hfit
    rw [Nat.mul_succ] at hscaled
    omega
  have hold : w.toNat = A * (M * (w.toNat / A / M)) + w.toNat / A % M * A + w.toNat % A := by
    rw [Nat.mul_comm _ A, ← Nat.mul_add, Nat.div_add_mod, Nat.div_add_mod]
  have hsum : w.toNat - w.toNat / A % M * A + v % M * A = A * (M * (w.toNat / A / M) + v % M) + w.toNat % A := by
    rw [Nat.mul_add, Nat.mul_comm (v % M)]
    omega
  rw [hsum, Nat.mod_eq_of_lt hnew]

/-- A field replaced: its bits are those of the new value, every other bit stays. -/
theorem testBit_setBits (w : Word) {hi lo : Nat} (v i : Nat) (hlo : lo ≤ hi) (hhi : hi < 32) :
    (setBits w hi lo v).toNat.testBit i = if lo ≤ i ∧ i ≤ hi then v.testBit (i - lo) else w.toNat.testBit i := by
  rw [toNat_setBits w v hlo hhi, Nat.testBit_two_pow_mul_add _ (Nat.mod_lt _ (Nat.two_pow_pos _)),
    Nat.testBit_two_pow_mul_add _ (Nat.mod_lt _ (Nat.two_pow_pos _)), Nat.testBit_mod_two_pow, Nat.testBit_mod_two_pow,
    Nat.testBit_div_two_pow]
  by_cases h1 : i < lo
  · simp [h1, show ¬ lo ≤ i by omega]
  · by_cases h2 : i ≤ hi
    · simp [h1, h2, show i - lo < hi + 1 - lo by omega, show lo ≤ i by omega]
    · simp [h1, h2, show ¬ i - lo < hi + 1 - lo by omega, show i - lo - (hi + 1 - lo) + (hi + 1) = i by omega]

theorem testBit_getBits (w : Word) (hi lo i : Nat) :
    (getBits w hi lo).testBit i = (decide (i < hi + 1 - lo) && w.toNat.testBit (i + lo)) := by
  rw [getBits, Nat.testBit_mod_two_pow, Nat.testBit_div_two_pow]

theorem getBits_setBits_same (w : Word) {hi lo : Nat} (v : Nat) (hlo : lo ≤ hi) (hhi : hi < 32) :
    getBits (setBits w hi lo v) hi lo = v % 2 ^ (hi + 1 - lo) := by
  refine Nat.eq_of_testBit_eq fun i => ?_
  rw [testBit_getBits, testBit_setBits _ _ _ hlo hhi, Nat.testBit_mod_two_pow]
  by_cases hi' : i < hi + 1 - lo
  · simp [hi', show i + lo ≤ hi by omega]
  · simp [hi']

theorem getBits_setBits_other (w : Word) {hi lo hi' lo' : Nat} (v : Nat) (hlo : lo ≤ hi) (hhi : hi < 32)
    (h : hi' < lo ∨ hi < lo') :
    getBits (setBits w hi lo v) hi' lo' = getBits w hi' lo' := by
  refine Nat.eq_of_testBit_eq fun i => ?_
  rw [testBit_getBits, testBit_getBits, testBit_setBits _ _ _ hlo hhi]
  by_cases hi' : i < hi' + 1 - lo'
  · rw [if_neg (by omega)]
  · simp [hi']

theorem setBits_getBits (w : Word) {hi lo : Nat} (hlo : lo ≤ hi) (hhi : hi < 32) : setBits w hi lo (getBits w hi lo) = w := by
  refine BitVec.eq_of_toNat_eq (Nat.eq_of_testBit_eq fun i => ?_)
  rw [testBit_setBits _ _ _ hlo hhi, testBit_getBits]
  split
  · simp [show i - lo < hi + 1 - lo by omega, show i - lo + lo = i by omega]
  · rfl

/-! ## Registers, whatever form their list has -/

/-- A key written with something else than an unlisted key holds reads as what was written, whatever form the list has. -/
theorem Store.get_put_of_ne {α : Type} [DecidableEq α] (d : Nat → α) {k : Nat} {v : α} (hv : v ≠ d k) :
    ∀ l : List (Nat × α), Store.get d (Store.put d l k v) k = v
  | [] => by simp [Store.put, Store.get, hv]
  | (j, w) :: l => by
    unfold Store.put
    split
    · simp [Store.get]
    · split
      · simp [Store.get]
      · simpa [Store.get, show j ≠ k by omega] using Store.get_put_of_ne d hv l

theorem Hw.reg_wr_same (h : Hw) (f : FieldRef) (v i : Nat)
    (hne : setBits (h.reg (f.addr i)) f.hi f.lo v ≠ regReset (f.addr i)) :
    (h.wr f v i).reg (f.addr i) = setBits (h.reg (f.addr i)) f.hi f.lo v :=
  Store.get_put_of_ne regReset hne h.regs

theorem Hw.reg_wr_other (h : Hw) (f : FieldRef) (v i : Nat) {a : Nat} (ha : a ≠ f.addr i) : (h.wr f v i).reg a = h.reg a :=
  h.reg_setReg_other _ ha

theorem Hw.reg_inc_other (h : Hw) (f : FieldRef) (n i : Nat) {a : Nat} (ha : a ≠ f.addr i) : (h.inc f n i).reg a = h.reg a :=
  h.reg_wr_other _ _ _ ha

/-- A word whose field `hi..lo` is not 0 is not 0. -/
theorem ne_zero_of_getBits {w : Word} {hi lo : Nat} (h : getBits w hi lo ≠ 0) : w ≠ 0#32 := by
  rintro rfl
  exact h (by simp [getBits])

/-! ## Events -/

theorem bit_eq_testBit (n i : Nat) : bit n i = n.testBit i := by
  rw [bit, Nat.testBit_eq_decide_div_mod_eq]
  rfl

theorem Hw.reg_countEvt_other (h : Hw) (b mask : Nat) {a : Nat} (ha : a ≠ b + 8) : (h.countEvt b mask).reg a = h.reg a := by
  have hcount : (if h.rd (evtcntCount b) = 0xFFFF then h.wr (evtcntSat b) 1 else h.inc (evtcntCount b)).reg a = h.reg a := by
    split
    · exact h.reg_wr_other (evtcntSat b) 1 0 ha
    · exact h.reg_inc_other (evtcntCount b) 1 0 ha
  unfold Hw.countEvt
  rw [apply_ite (Hw.reg · a), hcount, ite_self]

/-- An event that hardware sets touches EVT and EVTCNT of its block alone. -/
theorem Hw.reg_raiseBit_other (h : Hw) (b k : Nat) {a : Nat} (hevt : a ≠ b) (hcnt : a ≠ b + 8) :
    (h.raiseBit b k).reg a = h.reg a := by
  unfold Hw.raiseBit Hw.raise
  rw [if_neg (Nat.ne_of_gt (Nat.two_pow_pos _))]
  exact (Hw.reg_countEvt_other _ _ _ hcnt).trans (Hw.reg_wr_other _ _ _ _ hevt)

/-- An event that hardware sets reads as set, where EVT resets to 0. -/
theorem Hw.bit_evt_raiseBit (h : Hw) {b k : Nat} (hb : regReset b = 0#32) (hk : k < 32) :
    bit (getBits ((h.raiseBit b k).reg b) 31 0) k = true := by
  unfold Hw.raiseBit Hw.raise
  rw [if_neg (Nat.ne_of_gt (Nat.two_pow_pos _)), Hw.reg_countEvt_other _ _ _ (by omega)]
  generalize ({ h with varPulse := h.varPulse ++ h.eventUnits b (2 ^ k) } : Hw) = g
  have hset : bit (getBits (setBits (g.reg b) 31 0 (g.rd (evtF b) ||| 2 ^ k)) 31 0) k = true := by
    rw [getBits_setBits_same _ _ (by omega) (by omega), bit_eq_testBit, Nat.testBit_mod_two_pow]
    simp [hk]
  have hne : setBits (g.reg b) 31 0 (g.rd (evtF b) ||| 2 ^ k) ≠ regReset b := by
    rw [hb]
    refine ne_zero_of_getBits (hi := 31) (lo := 0) fun h0 => ?_
    simp [h0, bit] at hset
  rw [show (g.wr (evtF b) (g.rd (evtF b) ||| 2 ^ k)).reg b = _ from Hw.reg_wr_same _ _ _ _ hne]
  exact hset

/-! ## What a command is shown to do -/

theorem does_of_onHw {i : Instr} {s : State} {f : Hw → Hw} {g : Hw} (hi : exec i s = s.onHw f) (hf : f s.hw = g) : Does i s g := by
  subst hf
  exact hi

theorem leaves_of_onHw {i : Instr} {s : State} {f : Hw → Hw} {P : Hw → Prop} (hi : exec i s = s.onHw f) (hP : P (f s.hw)) :
    Leaves i s P := ⟨_, does_of_onHw hi rfl, hP⟩

/-- What a command leaves need only agree with the device once put-off increments are applied. -/
theorem leaves_of_settleCi {i : Instr} {s : State} {f : Hw → Hw} {P : Hw → Prop} {g : Hw} (hi : exec i s = s.onHw f)
    (hg : g.settleCi = (f s.hw).settleCi) (hP : P g) : Leaves i s P := by
  refine ⟨g, ?_, hP⟩
  rw [Does, State.after, hg]
  exact hi

end Sys2Proof.Machine
end

section
/-! The rules of the ledger and of ECC errors that `Obligations.LedgerRows` rests on: credits, bank sleep, storms, write-backs
and scrub. -/

namespace Sys2Proof.Machine

open Sys2Proof

/-! ## Credits -/

theorem Hw.actLu_listed (h : Hw) {k : Nat} (hk : k ≤ 13) : h.actLu k = h.rd F.LDG_ACT_LU (k - 1) := by
  rw [Hw.actLu, if_neg (by omega), if_neg (by omega)]

/-- A consumer without a reservation gains no credit. -/
theorem Hw.creditGain_of_none (h : Hw) {k : Nat} (hk : k ≤ 13) (hlu : h.rd F.LDG_ACT_LU (k - 1) = 0) : h.creditGain k = h := by
  simp [Hw.creditGain, h.actLu_listed hk, hlu]

/-- An empty accumulator that gains 400 gives it up for one credit, up to the BURST limit. -/
theorem Hw.creditGain_of_whole (h : Hw) {k : Nat} (hk1 : 1 ≤ k) (hk : k ≤ 13) (hlu : h.rd F.LDG_ACT_LU (k - 1) = 400)
    (hacc : h.ldg.acc.getD k 0 = 0) (hlen : h.ldg.acc.length = 16) :
    h.creditGain k = h.wr F.LDG_CRED_CREDIT
      (min (8 * max 1 (h.rd F.LDG_RES_BURST (k - 1))) (h.rd F.LDG_CRED_CREDIT (k - 1) + 1)) (k - 1) := by
  have hset : h.ldg.acc.set k 0 = h.ldg.acc := by
    have hkl : k < h.ldg.acc.length := by omega
    have hget : h.ldg.acc[k] = 0 := by rwa [List.getD_eq_getElem?_getD, List.getElem?_eq_getElem hkl] at hacc
    rw [← hget, List.set_getElem_self]
  have hldg : h.modLdg (fun l => { l with acc := l.acc.set k 0 }) = h := by
    rw [Hw.modLdg, hset]
  unfold Hw.creditGain
  simp only [h.actLu_listed hk, hlu, hacc]
  rw [if_neg (by simp; omega), if_neg (by omega), if_neg (by omega)]
  simp [cdiv, hldg]

/-! ## Sleep -/

/-- A bank's sleep state set, and its wake over. -/
def Hw.sleepIn (h : Hw) (b st : Nat) : Hw :=
  h.modMtx fun m => { m with sleep := m.sleep.set b st, waking := m.waking.filter (· ≠ b) }

theorem Hw.tolAllows_iff (h : Hw) (b n : Nat) :
    h.tolAllows b n = true ↔ ∀ t ∈ h.bankTol b, n + h.rd F.LDG_SLEEPCFG_GUARD ≤ t := by
  unfold Hw.tolAllows
  cases h.bankTol b <;> simp

/-- A bank that can be accessed, at which no request is in progress, and that is ACTIVE. -/
def Hw.bankIdle (h : Hw) (b : Nat) : Prop :=
  h.on (4 + b) = true ∧ b ∉ h.mtx.retired ∧ (∀ x ∈ h.mtx.out, 0x01000000 ≤ x.addr ∨ x.addr / 0x100000 ≠ b) ∧
    h.mtx.sleep.getD b 0 = 0

theorem Hw.bankUp_iff (h : Hw) (b : Nat) : h.bankUp b = true ↔ h.on (4 + b) = true ∧ b ∉ h.mtx.retired := by
  simp [Hw.bankUp]

theorem Hw.bankBusy_eq_false (h : Hw) (b : Nat) :
    h.bankBusy b = false ↔ ∀ x ∈ h.mtx.out, 0x01000000 ≤ x.addr ∨ x.addr / 0x100000 ≠ b := by
  simp only [Hw.bankBusy, List.any_eq_false, Bool.and_eq_true, decide_eq_true_eq, Classical.not_and_iff_not_or_not, Nat.not_lt]
  exact Iff.rfl

/-- An idle bank goes to RETENTION where that is enabled and its tolerance permits it, else to LIGHT, else nowhere. -/
theorem Hw.sleepEntry_of_idle (h : Hw) {b : Nat} (hon : h.on 21 = true) (hb : h.bankIdle b) :
    h.sleepEntry b =
      if h.rdB F.LDG_SLEEPCFG_EN_RET && h.tolAllows b 1000 then h.sleepIn b 2
      else if h.rdB F.LDG_SLEEPCFG_EN_LIGHT && h.tolAllows b 20 then h.sleepIn b 1 else h := by
  obtain ⟨hpd, hret, hout, hst⟩ := hb
  have hup := (h.bankUp_iff b).2 ⟨hpd, hret⟩
  have hbusy := (h.bankBusy_eq_false b).2 hout
  have hst : h.bankSleep b = 0 := hst
  unfold Hw.sleepEntry
  rw [if_neg (by simp [hon, hup, hbusy, hst])]
  rfl

/-- Any access to a bank makes it ACTIVE. -/
theorem Hw.touchBank_of_bank (h : Hw) {b : Nat} (hb : b < 16) : h.touchBank (b * 0x100000) = h.sleepIn b 0 := by
  rw [Hw.touchBank, if_pos (by omega), show bankOf (b * 0x100000) = b by unfold bankOf; omega]
  rfl

/-- A bank in RETENTION starts to wake where its tolerance permits 1,000 cycles no longer. -/
theorem Hw.wakeAhead_of_retention (h : Hw) {b : Nat} (hst : h.mtx.sleep.getD b 0 = 2) :
    h.wakeAhead b = if h.tolAllows b 1000 then h
      else if h.mtx.waking.contains b then h else h.modMtx fun m => { m with waking := m.waking ++ [b] } := by
  have hst : h.bankSleep b = 2 := hst
  simp [Hw.wakeAhead, Hw.wakeBank, hst, sleepCost]

/-! ## Shedding -/

/-- Memory, the storms' claims and the write-back queues are the same. -/
def Hw.SameQueues (h g : Hw) : Prop := g.mem = h.mem ∧ g.ldg.storm = h.ldg.storm ∧ g.ldg.wbq = h.ldg.wbq

theorem Hw.SameQueues.refl (h : Hw) : h.SameQueues h := ⟨rfl, rfl, rfl⟩

theorem Hw.SameQueues.trans {a b c : Hw} (hab : a.SameQueues b) (hbc : b.SameQueues c) : a.SameQueues c :=
  ⟨hbc.1.trans hab.1, hbc.2.1.trans hab.2.1, hbc.2.2.trans hab.2.2⟩

theorem Hw.SameQueues.ite {h a b : Hw} {c : Prop} [Decidable c] (ha : h.SameQueues a) (hb : h.SameQueues b) :
    h.SameQueues (if c then a else b) := by split <;> assumption

theorem Hw.Settled.sameQueues {h g : Hw} (s : h.Settled g) : h.SameQueues g :=
  ⟨s.mem, by rw [s.ldg], by rw [s.ldg]⟩

theorem Hw.sameQueues_foldl {α : Type} (f : Hw → α → Hw) (hf : ∀ (h : Hw) a, h.SameQueues (f h a)) :
    ∀ (l : List α) (h : Hw), h.SameQueues (l.foldl f h)
  | [], h => SameQueues.refl h
  | a :: l, h => (hf h a).trans (sameQueues_foldl f hf l (f h a))

theorem Hw.sameQueues_event (h : Hw) (k port d0 d1 aux : Nat) : h.SameQueues (h.event k port d0 d1 aux) := ⟨rfl, rfl, rfl⟩

theorem Hw.sameQueues_notice (h : Hw) (k d0 d1 : Nat) : h.SameQueues (h.notice k d0 d1) := by
  unfold Hw.notice
  refine .trans (.trans ?_ ((settled_wr _ _ _ _).trans (settled_raiseBit _ _ _)).sameQueues) (sameQueues_event _ _ _ _ _ _)
  exact ⟨rfl, rfl, rfl⟩

theorem Hw.sameQueues_setActLu (h : Hw) (k lu : Nat) : h.SameQueues (h.setActLu k lu) := by
  unfold Hw.setActLu
  exact .ite ⟨rfl, rfl, rfl⟩ (settled_wr _ _ _ _).sameQueues

theorem Hw.sameQueues_shedNote (h : Hw) (k : Nat) : h.SameQueues (h.shedNote k) :=
  .trans ((settled_wr _ _ _ _).trans (settled_raiseBit _ _ _)).sameQueues (sameQueues_notice _ _ _ _)

theorem Hw.sameQueues_decimate : ∀ (n : Nat) (h : Hw), h.SameQueues (h.decimate n)
  | 0, h => .refl h
  | n + 1, h => by
    unfold Hw.decimate
    refine .ite (.refl h) (.trans (.trans (.trans (sameQueues_setActLu _ _ _) (settled_wr _ _ _ _).sameQueues)
      (sameQueues_shedNote _ _)) (sameQueues_decimate n _))

theorem Hw.sameQueues_fadeVoices (h : Hw) (lo hi why : Nat) : h.SameQueues (h.fadeVoices lo hi why) := by
  refine sameQueues_foldl _ (fun g n => .ite ?_ (.refl g)) _ _
  unfold Hw.voiceFade
  exact .ite (.refl g) ⟨rfl, rfl, rfl⟩

theorem Hw.settled_anoPause (h : Hw) : h.Settled h.anoPause := by
  unfold Hw.anoPause
  exact settled_ite ((settled_wr _ _ _ _).trans (settled_raiseBit _ _ _)) (settled_ite (settled_wr _ _ _ _) (.refl h))

theorem Hw.sameQueues_shedEntry (h : Hw) (k : Nat) : h.SameQueues (h.shedEntry k) := by
  unfold Hw.shedEntry
  have hshed : h.SameQueues ((h.setActLu k 0).shedNote k) := (sameQueues_setActLu _ _ _).trans (sameQueues_shedNote _ _)
  exact .ite (.refl h) (.ite (sameQueues_decimate _ _) (hshed.trans
    (.ite (sameQueues_fadeVoices _ _ _ _) (.ite (settled_anoPause _).sameQueues (.refl _)))))

theorem Hw.settled_ldgPublish (h : Hw) : h.Settled h.ldgPublish := by
  unfold Hw.ldgPublish
  refine settled_ite (.refl h) (((settled_wr _ _ _ _).trans (settled_wr _ _ _ _)).trans (settled_foldUp _ (fun g p => ?_) _ _ _))
  exact ((((settled_wr _ _ _ _).trans (settled_wr _ _ _ _)).trans (settled_wr _ _ _ _)).trans (settled_wr _ _ _ _)).trans
    (settled_wr _ _ _ _)

/-- A change of capacity sheds consumers; what waits for its write-back waits on, and no storm begins or ends by it. -/
theorem Hw.sameQueues_ledgerCheck (h : Hw) : h.SameQueues h.ledgerCheck := by
  unfold Hw.ledgerCheck
  have hshed : h.SameQueues (h.ldg.order.foldl Hw.shedEntry h) := sameQueues_foldl _ sameQueues_shedEntry _ h
  refine .ite (.refl h) (.trans (hshed.trans (.ite ?_ ?_)) (settled_ldgPublish _).sameQueues)
  · exact ((settled_wr _ _ _ _).trans (settled_raiseBit _ _ _)).sameQueues
  · exact (settled_wr _ _ _ _).sameQueues

/-! ## Storms -/

/-- No storm begins at a port whose queue holds at most HI entries: its level is shown and nothing else happens. -/
theorem Hw.stormCheck_of_le (h : Hw) {p : Nat} (hp : p < 4) (hq : (h.ldg.wbq.getD p []).length ≤ h.rd F.LDG_STORMCFG_HI) :
    h.stormCheck p = if h.on 21 then h.wr F.LDG_PORT_WBQ (min 63 (h.ldg.wbq.getD p []).length) p else h := by
  have hhi : (h.wr F.LDG_PORT_WBQ (min 63 (h.ldg.wbq.getD p []).length) p).rd F.LDG_STORMCFG_HI = h.rd F.LDG_STORMCFG_HI :=
    h.rd_wr_other _ _ _ _ _ (by simp only [FieldRef.addr]; omega)
  unfold Hw.stormCheck
  cases hon : h.on 21 with
  | false => simp only [hon, Bool.false_and, Bool.false_eq_true, if_false]
  | true => simp only [hhi, if_true, Nat.not_lt.2 hq, decide_false, Bool.and_false, Bool.false_and, Bool.false_eq_true, if_false]

/-- A storm ends where its port's queue holds at most LO entries, LO not above HI. -/
theorem Hw.stormEnd_of_le (h : Hw) {p : Nat} (hp : p < 4) (hs : (h.ldg.storm.getD p none).isSome = true)
    (hlo : (h.ldg.wbq.getD p []).length ≤ h.rd F.LDG_STORMCFG_LO) (hle : h.rd F.LDG_STORMCFG_LO ≤ h.rd F.LDG_STORMCFG_HI) :
    (h.modLdg fun l => { l with storm := l.storm.set p none }).SameQueues (h.stormEnd p) := by
  have hnone : (h.ldg.storm.getD p none).isNone = false := by rw [← Option.not_isSome, hs]; rfl
  unfold Hw.stormEnd
  rw [hnone, decide_eq_false (Nat.not_lt.2 hlo), Bool.or_false, if_neg Bool.false_ne_true]
  have hcheck := (h.modLdg fun l => { l with storm := l.storm.set p none }).stormCheck_of_le hp (Nat.le_trans hlo hle)
  rw [hcheck]
  exact .trans (.ite (settled_wr _ _ _ _).sameQueues (.refl _)) (sameQueues_ledgerCheck _)

/-- A queue above LO keeps its storm. -/
theorem Hw.stormEnd_of_lt (h : Hw) {p : Nat} (hlo : h.rd F.LDG_STORMCFG_LO < (h.ldg.wbq.getD p []).length) : h.stormEnd p = h := by
  rw [Hw.stormEnd, decide_eq_true hlo, Bool.true_or, if_pos rfl]

/-! ## A field as it reads before put-off increments are applied -/

theorem getBits_lt (w : Word) (hi lo : Nat) : getBits w hi lo < 2 ^ (hi + 1 - lo) := Nat.mod_lt _ (Nat.two_pow_pos _)

/-- An increment by 0 writes back the word that the register reads as. -/
theorem Hw.inc_zero (h : Hw) (f : FieldRef) (i : Nat) (hlo : f.lo ≤ f.hi) (hhi : f.hi < 32) :
    h.inc f 0 i = h.setReg (f.addr i) (h.reg (f.addr i)) := by
  unfold Hw.inc Hw.wr Hw.rd
  simp only [Nat.add_zero, satU, getBits_lt, if_true, setBits_getBits _ hlo hhi]

/-- A register's reset value written over a front entry for it removes that entry. -/
theorem Store.put_default_head {α : Type} [DecidableEq α] (d : Nat → α) (k : Nat) (v : α) (l : List (Nat × α)) :
    Store.put d ((k, v) :: l) k (d k) = l := by
  simp [Store.put]

/-- The device with a register listed in front at its reset value and an increment of it by 0 put off: applying what is put
off leaves just the device. -/
def Hw.unlisting (h : Hw) (a hi lo : Nat) : Hw :=
  { h with regs := (a, regReset a) :: h.regs, ciDue := ⟨a, hi, lo, 0, false⟩ :: h.ciDue }

theorem Hw.settleCi_unlisting (h : Hw) {a hi lo : Nat} (hlo : lo ≤ hi) (hhi : hi < 32) (ha : a % 0x10000 ≠ 8) :
    (h.unlisting a hi lo).settleCi = h.settleCi := by
  have hinc : ∀ l, ({ h with regs := (a, regReset a) :: h.regs, ciDue := l } : Hw).inc ⟨a, 0, hi, lo⟩ 0 =
      { h with ciDue := l } := fun l => by
    rw [Hw.inc_zero _ _ _ hlo hhi]
    simp [Hw.setReg, Hw.reg, FieldRef.addr, Store.get, Store.put_default_head]
  unfold Hw.settleCi Hw.unlisting
  simp [hinc, ha]

/-- After a field's write some device that ends the cycle alike reads the value written. A word other than the register's reset
value is read back at once. A reset value only takes an entry out, and in a list out of its canonical form an older entry may
show again; then the device with the reset value in front, on which an increment by 0 is put off, is the one. -/
theorem Hw.exists_settleCi_wr (h : Hw) (f : FieldRef) {v : Nat} (i : Nat) (hlo : f.lo ≤ f.hi) (hhi : f.hi < 32)
    (ha : f.addr i % 0x10000 ≠ 8) (hv : v < 2 ^ (f.hi + 1 - f.lo)) :
    ∃ g : Hw, g.settleCi = (h.wr f v i).settleCi ∧ g.rd f i = v ∧ h.Settled g := by
  have hfield : getBits (setBits (h.reg (f.addr i)) f.hi f.lo v) f.hi f.lo = v := by
    rw [getBits_setBits_same _ _ hlo hhi, Nat.mod_eq_of_lt hv]
  by_cases hne : setBits (h.reg (f.addr i)) f.hi f.lo v = regReset (f.addr i)
  · refine ⟨(h.wr f v i).unlisting (f.addr i) f.hi f.lo, Hw.settleCi_unlisting _ hlo hhi ha, ?_, ⟨_, _, _, _, _, _, rfl⟩⟩
    rw [← hfield, hne]
    simp [Hw.rd, Hw.reg, Hw.unlisting, Store.get]
  · refine ⟨h.wr f v i, rfl, ?_, settled_wr _ _ _ _⟩
    rw [Hw.rd, Hw.reg_wr_same _ _ _ _ hne, hfield]

/-! ## Write-backs and scrub -/

/-- A queued granule that shows no error leaves its queue, whose level is shown. -/
theorem Hw.writeBack_clean (h : Hw) {p a : Nat} {l : List Nat} (hon : h.on 21 = true) (hq : h.ldg.wbq[p]? = some (a :: l)) :
    h.writeBack p .clean = (h.modLdg fun g => { g with wbq := g.wbq.set p l }).wr F.LDG_PORT_WBQ (min 63 l.length) p := by
  unfold Hw.writeBack
  rw [List.getD_eq_getElem?_getD, hq]
  simp [hon, Hw.eccMeet]

/-- A corrected granule is queued or dropped, and no storm begins at a port whose queue is shorter than HI: only the queue,
its level and the drop count can change. -/
theorem Hw.wbPush_of_lt (h : Hw) {a : Nat} (hq : (h.ldg.wbq.getD (bankOf a % 4) []).length < h.rd F.LDG_STORMCFG_HI) :
    (h.wbPush a).mem = h.mem ∧ (h.wbPush a).ldg.patrol = h.ldg.patrol ∧ ∀ x < 0x04020000, (h.wbPush a).reg x = h.reg x := by
  have hp : bankOf a % 4 < 4 := Nat.mod_lt _ (by omega)
  have hlev : ∀ (v x : Nat), x < 0x04020000 → x ≠ FieldRef.addr F.LDG_PORT_WBQ v := fun v x hx => by
    simp only [FieldRef.addr]; omega
  have hlen : ∀ x, ((h.ldg.wbq.set (bankOf a % 4) (h.ldg.wbq.getD (bankOf a % 4) [] ++ [x])).getD (bankOf a % 4) []).length ≤
      h.rd F.LDG_STORMCFG_HI := fun x => by
    rw [List.getD_eq_getElem?_getD, List.getElem?_set_self']
    cases hx : h.ldg.wbq[bankOf a % 4]? with
    | none => exact Nat.zero_le _
    | some q =>
      show (h.ldg.wbq.getD (bankOf a % 4) [] ++ [x]).length ≤ h.rd F.LDG_STORMCFG_HI
      rw [List.length_append]
      exact hq
  unfold Hw.wbPush
  dsimp only
  split
  · exact ⟨rfl, rfl, fun x hx => Hw.reg_inc_other _ _ _ _ (by simp only [FieldRef.addr]; omega)⟩
  · rw [Hw.stormCheck_of_le _ hp (hlen _)]
    split
    · exact ⟨rfl, rfl, fun x hx => Hw.reg_wr_other _ _ _ _ (hlev _ x hx)⟩
    · exact ⟨rfl, rfl, fun x _ => rfl⟩

/-! ## The error log -/

/-- A field written in a register whose bit 31 is set and resets to 0: the word reads with the field replaced and bit 31 set,
whatever form the register list has. -/
theorem Hw.reg_wr_of_valid {h : Hw} {a : Nat} {w : Word} (hi lo v : Nat) (ha : regReset a = 0#32) (hlo : lo ≤ hi) (hhi : hi < 31)
    (hw : h.reg a = w) (hvalid : getBits w 31 31 = 1) :
    (h.wr ⟨a, 4, hi, lo⟩ v).reg a = setBits w hi lo v ∧ getBits (setBits w hi lo v) 31 31 = 1 := by
  subst hw
  have hkept : getBits (setBits (h.reg a) hi lo v) 31 31 = 1 :=
    (getBits_setBits_other _ _ hlo (by omega) (Or.inr hhi)).trans hvalid
  refine ⟨h.reg_wr_same ⟨a, 4, hi, lo⟩ v 0 ?_, hkept⟩
  show setBits (h.reg a) hi lo v ≠ regReset a
  rw [ha]
  exact ne_zero_of_getBits (hi := 31) (lo := 31) (by rw [hkept]; decide)

/-- ECCINFO's fields for a corrected error, VALID first. -/
def Hw.eccRecord (h : Hw) (bank master syn : Nat) : Hw :=
  ((((h.wr F.MTX_ECCINFO_VALID 1).wr F.MTX_ECCINFO_UE 0).wr F.MTX_ECCINFO_BANK bank).wr F.MTX_ECCINFO_MASTER master).wr
    F.MTX_ECCINFO_SYNDROME syn

/-- What is recorded of a corrected error as the log is free: ECCINFO and ECCADDR, the bank's count, the event. -/
def Hw.eccNoted (h : Hw) (a master syn : Nat) : Hw :=
  (((h.eccRecord (bankOf a) master syn).wr F.MTX_ECCADDR_ADDR (a / 8 * 8)).inc F.MTX_ECCCNT_CE 1 (bankOf a)).raiseBit bMTX 1

/-- A corrected error that the log is free for is recorded, and its granule is queued for its write-back. -/
theorem Hw.eccLog_single (h : Hw) (a master syn : Nat) (hfree : h.rdB F.MTX_ECCINFO_VALID = false) :
    h.eccLog a master syn false = (h.eccNoted a master syn).wbPush a := by
  unfold Hw.eccLog
  rw [hfree]
  rfl

theorem Hw.settled_eccNoted (h : Hw) (a master syn : Nat) : h.Settled (h.eccNoted a master syn) :=
  .trans ⟨_, _, _, _, _, _, rfl⟩ (settled_raiseBit _ _ _)

theorem Hw.reg_eccRecord (h : Hw) (bank master syn : Nat) : (h.eccRecord bank master syn).reg 0x04010058 =
    setBits (setBits (setBits (setBits (setBits (h.reg 0x04010058) 31 31 1) 24 24 0) 19 16 bank) 11 8 master) 7 0 syn := by
  have hreset : regReset 0x04010058 = 0#32 := by decide +kernel
  have valid : getBits (setBits (h.reg 0x04010058) 31 31 1) 31 31 = 1 := getBits_setBits_same _ 1 (by omega) (by omega)
  have hne : setBits (h.reg 0x04010058) 31 31 1 ≠ regReset 0x04010058 := by
    rw [hreset]
    exact ne_zero_of_getBits (hi := 31) (lo := 31) (by rw [valid]; decide)
  have word : (h.wr F.MTX_ECCINFO_VALID 1).reg 0x04010058 = setBits (h.reg 0x04010058) 31 31 1 :=
    h.reg_wr_same F.MTX_ECCINFO_VALID 1 0 hne
  obtain ⟨word, valid⟩ := reg_wr_of_valid 24 24 0 hreset (by omega) (by omega) word valid
  obtain ⟨word, valid⟩ := reg_wr_of_valid 19 16 bank hreset (by omega) (by omega) word valid
  obtain ⟨word, valid⟩ := reg_wr_of_valid 11 8 master hreset (by omega) (by omega) word valid
  exact (reg_wr_of_valid 7 0 syn hreset (by omega) (by omega) word valid).1

theorem Hw.reg_eccRecord_other (h : Hw) (bank master syn : Nat) {a : Nat} (ha : a ≠ 0x04010058) :
    (h.eccRecord bank master syn).reg a = h.reg a := by
  have other : ∀ (g : Hw) (f : FieldRef) (v : Nat), f.base = 0x04010058 → (g.wr f v).reg a = g.reg a := fun g f v hf =>
    g.reg_wr_other f v 0 (by rwa [FieldRef.addr, Nat.mul_zero, Nat.add_zero, hf])
  unfold Hw.eccRecord
  rw [other _ _ _ rfl, other _ _ _ rfl, other _ _ _ rfl, other _ _ _ rfl, other _ _ _ rfl]

/-- Beside ECCINFO a record touches ECCADDR, the counts of ECC errors, EVT and EVTCNT alone. -/
theorem Hw.reg_eccNoted (h : Hw) {a : Nat} (master syn : Nat) {x : Nat} (hx : x ∉ [0x04010000, 0x04010008, 0x04010054])
    (hcnt : x ≠ 0x04010100 + 4 * bankOf a) : (h.eccNoted a master syn).reg x = (h.eccRecord (bankOf a) master syn).reg x := by
  simp only [List.mem_cons, List.not_mem_nil, or_false, not_or] at hx
  obtain ⟨hevt, hevtcnt, haddr⟩ := hx
  unfold Hw.eccNoted
  rw [Hw.reg_raiseBit_other _ _ _ hevt hevtcnt, Hw.reg_inc_other _ _ _ _ hcnt, Hw.reg_wr_other _ _ _ _ haddr]

/-- ECCINFO as it reads after a record: the bank and the master, and no uncorrectable error. -/
theorem Hw.rd_eccNoted (h : Hw) {a master : Nat} (syn : Nat) (hb : bankOf a < 16) (hm : master < 16) :
    (h.eccNoted a master syn).rd F.MTX_ECCINFO_BANK = bankOf a ∧ (h.eccNoted a master syn).rd F.MTX_ECCINFO_MASTER = master ∧
      (h.eccNoted a master syn).rd F.MTX_ECCINFO_UE = 0 := by
  have hreg : (h.eccNoted a master syn).reg 0x04010058 = _ :=
    (h.reg_eccNoted master syn (by decide) (by omega)).trans (h.reg_eccRecord _ _ _)
  simp only [Hw.rd, FieldRef.addr, Nat.mul_zero, Nat.add_zero, hreg]
  refine ⟨?_, ?_, ?_⟩
  · rw [getBits_setBits_other _ _ (by omega) (by omega) (by omega), getBits_setBits_other _ _ (by omega) (by omega) (by omega),
      getBits_setBits_same _ _ (by omega) (by omega)]
    exact Nat.mod_eq_of_lt hb
  · rw [getBits_setBits_other _ _ (by omega) (by omega) (by omega), getBits_setBits_same _ _ (by omega) (by omega)]
    exact Nat.mod_eq_of_lt hm
  · rw [getBits_setBits_other _ _ (by omega) (by omega) (by omega), getBits_setBits_other _ _ (by omega) (by omega) (by omega),
      getBits_setBits_other _ _ (by omega) (by omega) (by omega), getBits_setBits_same _ _ (by omega) (by omega), Nat.zero_mod]

/-- Patrol scrub that finds nothing moves on to the next granule. -/
theorem Hw.patrol_clean (h : Hw) {b : Nat} (hon : h.on 21 = true) (hb : h.bankUp b = true) :
    h.patrol b .clean = h.modLdg fun l => { l with patrol := l.patrol.modify b (fun n => (n + 8) % 0x100000) } := by
  simp [Hw.patrol, hon, hb, Hw.eccMeet]

/-- Patrol scrub that corrects a granule of a bank whose write-back queue is shorter than HI: it moves on, the free log takes
the error as scrub's, and memory stays. -/
theorem Hw.patrol_single (h : Hw) {b : Nat} (syn : Nat) (hon : h.on 21 = true) (hb : h.bankUp b = true) (hb16 : b < 16)
    (hq : (h.ldg.wbq.getD (b % 4) []).length < h.rd F.LDG_STORMCFG_HI) (hfree : h.rdB F.MTX_ECCINFO_VALID = false)
    (hpat : h.ldg.patrol.getD b 0 < 0x100000) :
    (h.patrol b (.single syn)).ldg.patrol = h.ldg.patrol.modify b (fun n => (n + 8) % 0x100000) ∧
      bit ((h.patrol b (.single syn)).rd (evtF bMTX)) 1 = true ∧ (h.patrol b (.single syn)).rd F.MTX_ECCINFO_BANK = b ∧
      (h.patrol b (.single syn)).rd F.MTX_ECCINFO_MASTER = 15 ∧ (h.patrol b (.single syn)).rd F.MTX_ECCINFO_UE = 0 ∧
      (h.patrol b (.single syn)).mem = h.mem := by
  obtain ⟨a, ha⟩ : ∃ a, a = b * 0x100000 + h.ldg.patrol.getD b 0 := ⟨_, rfl⟩
  obtain ⟨g, hg⟩ : ∃ g, g = h.modLdg fun l => { l with patrol := l.patrol.modify b (fun n => (n + 8) % 0x100000) } := ⟨_, rfl⟩
  have hbank : bankOf a = b := by unfold bankOf; omega
  have hstep : h.patrol b (.single syn) = (g.eccNoted a 0xF syn).wbPush a := by
    rw [← g.eccLog_single a 0xF syn (by rw [hg]; exact hfree), hg, ha]
    simp only [Hw.patrol, hon, hb, Bool.not_true, Bool.or_self, Bool.false_eq_true, if_false, Hw.eccMeet]
  have hsame := g.settled_eccNoted a 0xF syn
  have hpush := (g.eccNoted a 0xF syn).wbPush_of_lt (a := a) (by
    rw [hsame.ldg, hbank, Hw.rd, g.reg_eccNoted _ _ (by decide) (by simp only [FieldRef.addr]; omega),
      g.reg_eccRecord_other _ _ _ (by decide), hg]
    exact hq)
  obtain ⟨hmem, hpatrol, hreg⟩ := hpush
  obtain ⟨hbk, hms, hue⟩ := g.rd_eccNoted (a := a) (master := 0xF) syn (by omega) (by omega)
  have hrd : ∀ f : FieldRef, f.base < 0x04020000 → ((g.eccNoted a 0xF syn).wbPush a).rd f = (g.eccNoted a 0xF syn).rd f :=
    fun f hf => by rw [Hw.rd, hreg _ (by simpa [FieldRef.addr] using hf)]; rfl
  rw [hstep, hrd _ (by decide), hrd _ (by decide), hrd _ (by decide), hrd _ (by decide), hbk, hms, hue, hmem, hpatrol, hsame.mem,
    hsame.ldg, hbank, hg]
  exact ⟨rfl, Hw.bit_evt_raiseBit _ (by decide +kernel) (by omega), rfl, rfl, rfl, rfl⟩

/-! ## The rows -/

/-- What the write-back of a queued granule that shows no error leaves. The level shown is asked of the device before put-off
increments are applied (`exists_settleCi_wr`). -/
theorem eccWriteback_clean (s : State) (p : Fin 4) {a : Nat} {l : List Nat} (hon : s.hw.on 21 = true)
    (hq : s.hw.ldg.wbq[p.val]? = some (a :: l)) : Leaves (.eccWriteback p .clean) s fun g =>
      g.ldg.wbq = s.hw.ldg.wbq.set p l ∧ g.mem = s.hw.mem ∧ g.mtx = s.hw.mtx ∧ g.rd F.LDG_PORT_WBQ p = min 63 l.length := by
  have hp := p.isLt
  obtain ⟨g, hend, hlevel, hsame⟩ := (s.hw.modLdg fun g => { g with wbq := g.wbq.set p l }).exists_settleCi_wr F.LDG_PORT_WBQ
    (v := min 63 l.length) p (by decide) (by decide) (by simp only [FieldRef.addr]; omega)
    (Nat.lt_of_le_of_lt (Nat.min_le_left _ _) (by decide))
  rw [← s.hw.writeBack_clean hon hq] at hend
  exact leaves_of_settleCi (f := fun h => h.writeBack p .clean) rfl hend ⟨by rw [hsame.ldg]; rfl, hsame.mem, hsame.mtx, hlevel⟩

/-- Settles O44, clause by clause from the rules above. The statement asks nothing of the form of the register list; only the
clause on write-backs reads a field that may hold its reset value (`Hw.exists_settleCi_wr`). -/
theorem ledgerRows : Obligations.LedgerRows := by
  unfold Obligations.LedgerRows
  intro s b p k syn hon h slept idle allows
  have allows_iff : ∀ n, h.tolAllows b n = true ↔ allows n := fun n => h.tolAllows_iff b n
  have sleeps : ∀ {g}, h.sleepEntry b = g → Does (.bankSleepEntry b) s g := does_of_onHw (f := fun g => g.sleepEntry b) rfl
  refine ⟨?credits, ?storm, ?calm, ?retention, ?light, ?active, ?ahead, ?asleep, ?woken, ?notWaking, ?refresh, ?patrol, ?writeback,
    ?noStep, ?step⟩
  case credits =>
    intro hk1 hk c hc
    subst hc
    exact ⟨fun hlu => does_of_onHw rfl ((if_pos hon).trans (h.creditGain_of_none hk hlu)),
      fun hlu hacc hlen => does_of_onHw rfl ((if_pos hon).trans (h.creditGain_of_whole hk1 hk hlu hacc hlen))⟩
  case storm => exact fun hlo => does_of_onHw (f := fun g => g.stormEnd p) rfl (h.stormEnd_of_lt hlo)
  case calm =>
    intro hs hlo hle
    obtain ⟨hmem, hstorm, hwbq⟩ := h.stormEnd_of_le p.isLt hs hlo hle
    exact leaves_of_onHw (f := fun g => g.stormEnd p) rfl ⟨hstorm, hwbq, hmem⟩
  case retention =>
    intro hidle hret htol
    refine sleeps ((h.sleepEntry_of_idle hon hidle).trans ?_)
    rw [hret, (allows_iff 1000).2 htol]
    rfl
  case light =>
    intro hidle hret hlight htol
    refine sleeps ((h.sleepEntry_of_idle hon hidle).trans ?_)
    rw [hret, hlight, (allows_iff 20).2 htol]
    rfl
  case active =>
    intro hidle hret hlight
    refine sleeps ((h.sleepEntry_of_idle hon hidle).trans ?_)
    rw [hret, hlight]
    rfl
  case ahead =>
    intro hst htol hwake
    refine does_of_onHw rfl ((if_pos hon).trans ((h.wakeAhead_of_retention hst).trans ?_))
    rw [if_neg (by rwa [allows_iff]), if_neg (by simpa using hwake)]
    rfl
  case asleep =>
    intro hst htol
    refine does_of_onHw rfl ((if_pos hon).trans ((h.wakeAhead_of_retention hst).trans ?_))
    exact if_pos ((allows_iff 1000).2 htol)
  case woken =>
    exact fun hw => does_of_onHw rfl ((if_pos (by simpa using hw)).trans (h.touchBank_of_bank b.isLt))
  case notWaking => exact fun hw => does_of_onHw rfl (if_neg (by simpa using hw))
  case refresh =>
    by_cases hst : h.bankSleep b = 2
    · exact ⟨_, does_of_onHw rfl (if_pos hst), rfl, rfl, rfl, fun hne => absurd hst hne⟩
    · exact ⟨h, does_of_onHw rfl (if_neg hst), rfl, rfl, rfl, fun _ => rfl⟩
  case patrol =>
    intro hpd hret moved
    have hup := (h.bankUp_iff b).2 ⟨hpd, hret⟩
    refine ⟨?_, fun hq hfree hpat => ?_⟩
    · refine leaves_of_onHw (f := fun g => g.patrol b .clean) rfl ?_
      rw [h.patrol_clean hon hup]
      exact ⟨rfl, rfl⟩
    · exact leaves_of_onHw (f := fun g => g.patrol b (.single syn)) rfl (h.patrol_single syn hon hup b.isLt hq hfree hpat)
  case writeback => exact fun a l hq => eccWriteback_clean s p hon hq
  case noStep =>
    exact fun h32 hst => does_of_onHw rfl (if_neg (by rw [Bool.and_eq_true]; exact fun hc => hst (of_decide_eq_true hc.2)))
  case step =>
    exact fun h32 hst => does_of_onHw rfl (if_pos (by rw [Bool.and_eq_true]; exact ⟨h32, decide_eq_true hst⟩))

end Sys2Proof.Machine
end

section
/-! A memory list out of its canonical form: a 0 written over it is lost behind an older entry. `Obligations.MatrixTraffic` and
`Obligations.MatrixAndRemote` range over every state, and each asks a stored byte to be read back. -/

namespace Sys2Proof.Machine

open Sys2Proof

/-- The end of a register cycle leaves memory alone, so whatever state a command is said to leave holds its memory. -/
theorem Does.mem_eq {i : Instr} {s : State} {f : Hw → Hw} {g : Hw} (hf : exec i s = s.onHw f) (h : Does i s g) :
    g.mem = (f s.hw).mem := by
  have hn : s.onHw f = .next (s.after g) := hf.symm.trans h
  injection hn with hs
  have hm : ((f s.hw).settleCi.varSettle 4).mem = (g.settleCi.varSettle 4).mem := congrArg (fun t : State => t.hw.mem) hs
  simpa using hm.symm

/-- A memory whose addresses fall: byte 5 stands in front of byte 0, which holds 1. It fails `Memory.wf`, under which a byte
written is read back (`Hw.byte_setByte_same`). -/
def fallingMem : List Host.Cell := [(5, 1#8), (0, 1#8)]

/-- The state after reset, with that memory and with M1's write of a 0 to byte 0 outstanding. -/
def staleWrite : State :=
  { State.reset with hw := { Hw.reset with
    mem := fallingMem, mtx := { Mtx.reset with out := [⟨1, 0, 0, true, 1, 1, [0#8], false, false⟩] } } }

/-- Refutes O42: the part on responses asks every byte of a write to be read back. In `staleWrite` memory is out of its canonical
form (`Memory.wf`), which the statement does not require: storing a 0 lists nothing, and byte 0 goes on reading 1. -/
theorem not_matrixTraffic : ¬ Obligations.MatrixTraffic := by
  unfold Obligations.MatrixTraffic
  rintro ⟨-, responses⟩
  obtain ⟨-, write, -⟩ := responses staleWrite ⟨1, 0, 0, true, 1, 1, [0#8], false, false⟩ 0 rfl rfl (by decide +kernel) rfl rfl
    (by decide +kernel)
  obtain ⟨g, hg, -, -, hbytes⟩ := write rfl
  have hmem : g.mem = fallingMem := (Does.mem_eq (f := fun h => h.serve 0 .clean) rfl hg).trans (by decide +kernel)
  have hstored : g.byte 0 = 0#8 := hbytes 0
  rw [Hw.byte, hmem] at hstored
  exact absurd hstored (by decide +kernel)

/-- The state after reset, with that memory, bank 0 on, port 0 UP, this node's ID 4, and the remote window open on bank 0 for
reads and writes. -/
def staleWindow : State :=
  let h : Hw := { Hw.reset with mem := fallingMem, pwr := { Pwr.reset with dom := Pwr.reset.dom.set 4 Dom.on } }
  { State.reset with hw := ((h.wr F.BRG_P_STAT_STATE 3 0).wr F.BRG_STAT_ID 4).wr F.BRG_POLICY_BYTES 0x00020000 }

/-- Node 9's write of four bytes 0 to the start of the window. -/
def windowWrite : LPkt := ⟨4, 4, 9, 7, 0, true, leBytes 4 0 ++ [2#8, 0#8] ++ zeros 4, true⟩

/-- Refutes O43: the part on remote windows asks every byte of a served write to be read back. In `staleWindow` memory is out of
its canonical form, which the statement does not require: the packet's zeros list nothing, and byte 0 goes on reading 1. -/
theorem not_matrixAndRemote : ¬ Obligations.MatrixAndRemote := by
  unfold Obligations.MatrixAndRemote
  rintro ⟨-, windows⟩
  obtain ⟨served, -⟩ := windows staleWindow 0 windowWrite ⟨⟨1, 0, 0, false, 4, 1, [], false, false⟩, windowWrite, false⟩ 0 0
  obtain ⟨-, -, inBank⟩ := served (by decide +kernel) (by decide +kernel) (by decide +kernel) rfl
  obtain ⟨-, write⟩ := inBank (by decide +kernel) (by decide +kernel) (by decide +kernel) (by decide +kernel)
    rfl rfl rfl rfl rfl rfl rfl (by decide +kernel) (by decide +kernel) (by decide +kernel) (by decide +kernel)
  obtain ⟨g, hg, hbytes, -⟩ := write rfl (by decide +kernel) (by decide +kernel)
  have hmem : g.mem = fallingMem := (Does.mem_eq (f := fun h => let r := h.packetIn 0 windowWrite
    if r.2 && windowWrite.kind = 4 then r.1.windowServe windowWrite else r.1) rfl hg).trans (by decide +kernel)
  have hstored : g.byte 0 = 0#8 := (hbytes 0).trans (by decide +kernel)
  rw [Hw.byte, hmem] at hstored
  exact absurd hstored (by decide +kernel)

end Sys2Proof.Machine
end

section
/-! The camera interface (18 R633, R634) and the end of its captures (10 R361, R363): the rules that `Obligations.Camera` rests
on. -/

namespace Sys2Proof.Machine

open Sys2Proof

/-! ## Fields and events as they read after a write -/

theorem Hw.rd_raiseBit_other (h : Hw) (b k : Nat) (f : FieldRef) (i : Nat) (hevt : f.addr i ≠ b) (hcnt : f.addr i ≠ b + 8) :
    (h.raiseBit b k).rd f i = h.rd f i := by
  rw [Hw.rd, h.reg_raiseBit_other b k hevt hcnt, Hw.rd]

/-- A counter that is incremented reads as its new value: that is not 0, so it reads so in a register that resets to 0. -/
theorem Hw.rd_inc_one (h : Hw) (f : FieldRef) (i : Nat) (hlo : f.lo ≤ f.hi) (hhi : f.hi < 32)
    (hreset : regReset (f.addr i) = 0#32) : (h.inc f 1 i).rd f i = min (2 ^ (f.hi + 1 - f.lo) - 1) (h.rd f i + 1) := by
  have hwidth : 2 ≤ 2 ^ (f.hi + 1 - f.lo) := Nat.le_self_pow (by omega) 2
  have hsat : satU (f.hi + 1 - f.lo) (h.rd f i + 1) = min (2 ^ (f.hi + 1 - f.lo) - 1) (h.rd f i + 1) := by
    unfold satU
    split <;> omega
  have hfield := getBits_setBits_same (h.reg (f.addr i)) (satU (f.hi + 1 - f.lo) (h.rd f i + 1)) hlo hhi
  rw [hsat, Nat.mod_eq_of_lt (by omega)] at hfield
  have hne : setBits (h.reg (f.addr i)) f.hi f.lo (min (2 ^ (f.hi + 1 - f.lo) - 1) (h.rd f i + 1)) ≠ regReset (f.addr i) := by
    rw [hreset]
    exact ne_zero_of_getBits (hi := f.hi) (lo := f.lo) (by omega)
  rw [Hw.inc, hsat, Hw.rd, Hw.reg_wr_same _ _ _ _ hne, hfield]

/-- Events add up: one that is set stays set as hardware sets another. -/
theorem Hw.bit_evt_raiseBit_of_set (h : Hw) {b j : Nat} (k : Nat) (hb : regReset b = 0#32)
    (hj : bit (h.rd (evtF b)) j = true) : bit ((h.raiseBit b k).rd (evtF b)) j = true := by
  have hj32 : j < 32 := by
    rw [bit_eq_testBit, Hw.rd, testBit_getBits, Bool.and_eq_true, decide_eq_true_eq] at hj
    exact hj.1
  obtain ⟨w, hw⟩ : ∃ w, w = setBits (h.reg b) 31 0 (h.rd (evtF b) ||| 2 ^ k) := ⟨_, rfl⟩
  have hset : bit (getBits w 31 0) j = true := by
    rw [hw, getBits_setBits_same _ _ (by omega) (by omega), bit_eq_testBit, Nat.testBit_mod_two_pow, Nat.testBit_or,
      ← bit_eq_testBit, hj]
    simp [hj32]
  have hne : w ≠ regReset b := by
    rw [hb]
    refine ne_zero_of_getBits (hi := 31) (lo := 0) fun h0 => ?_
    simp [h0, bit] at hset
  have hreg : (h.raiseBit b k).reg b = w := by
    unfold Hw.raiseBit Hw.raise
    rw [if_neg (Nat.ne_of_gt (Nat.two_pow_pos _)), Hw.reg_countEvt_other _ _ _ (by omega), hw]
    exact Hw.reg_wr_same _ (evtF b) _ 0 (hw ▸ hne)
  show bit (getBits ((h.raiseBit b k).reg b) 31 0) j = true
  rwa [hreg]

/-- `Hw.exists_settleCi_wr` for a field written earlier in the cycle: where the register still reads as the write left it,
some device that ends the cycle alike reads the value written, and every other register as before. -/
theorem Hw.exists_settleCi_of_wr {h x : Hw} (f : FieldRef) {v : Nat} (hlo : f.lo ≤ f.hi) (hhi : f.hi < 32)
    (ha : f.addr 0 % 0x10000 ≠ 8) (hv : v < 2 ^ (f.hi + 1 - f.lo)) (hx : x.reg (f.addr 0) = (h.wr f v).reg (f.addr 0)) :
    ∃ g : Hw, g.settleCi = x.settleCi ∧ g.rd f = v ∧ x.Settled g ∧ ∀ a ≠ f.addr 0, g.reg a = x.reg a := by
  have hfield : getBits (setBits (h.reg (f.addr 0)) f.hi f.lo v) f.hi f.lo = v := by
    rw [getBits_setBits_same _ _ hlo hhi, Nat.mod_eq_of_lt hv]
  by_cases hne : setBits (h.reg (f.addr 0)) f.hi f.lo v = regReset (f.addr 0)
  · refine ⟨x.unlisting (f.addr 0) f.hi f.lo, x.settleCi_unlisting hlo hhi ha, ?_, ⟨_, _, _, _, _, _, rfl⟩, fun a hne => ?_⟩
    · rw [← hfield, hne]
      simp [Hw.rd, Hw.reg, Hw.unlisting, Store.get]
    · exact if_neg (Ne.symm hne)
  · refine ⟨x, rfl, ?_, .refl x, fun _ _ => rfl⟩
    rw [Hw.rd, hx, Hw.reg_wr_same _ _ _ _ hne, hfield]

/-! ## Timing codes (18 R633) -/

theorem Hw.camHears_iff (h : Hw) :
    h.camHears = true ↔ h.on 30 = true ∧ h.rdB F.CAM_IFCFG_EN = true ∧ h.fnActive 48 = true := by
  rw [Hw.camHears, Bool.and_eq_true, Bool.and_eq_true, and_assoc]

theorem toNat_xyCode : ∀ f v h : Bool, (BitVec.ofNat 8 (xyCode f v h)).toNat = xyCode f v h := by decide

/-- A code received as it was sent is read without a correction. -/
theorem xyDecode_xyCode : ∀ hcorr f v h : Bool, xyDecode hcorr (xyCode f v h) = some (f, v, h, false) := by decide

/-- Without correction, what is none of the eight codes is ignored. -/
theorem xyDecode_of_notMem {xy : Nat} (hxy : ∀ c ∈ xyCodes, c.1 ≠ xy) : xyDecode false xy = none := by
  have hnone : xyCodes.find? (fun c => c.1 = xy) = none :=
    List.find?_eq_none.2 fun c hc => by simpa using hxy c hc
  rw [xyDecode, hnone]
  rfl

theorem Hw.cameraCode_of_deaf {h : Hw} (hdeaf : h.camHears = false) (xy : Nat) (px : List Nat) (behind : Bool) :
    h.cameraCode xy px behind = h := by
  rw [Hw.cameraCode, hdeaf]
  rfl

theorem Hw.cameraCode_of_none {h : Hw} (hears : h.camHears = true) {xy : Nat} (hxy : xyDecode h.cam.hcorr xy = none)
    (px : List Nat) (behind : Bool) : h.cameraCode xy px behind = (h.inc F.CAM_IFCNT_SYNCERR).raiseBit bCAM 7 := by
  rw [Hw.cameraCode, hears, hxy]
  rfl

/-- An SAV. -/
theorem Hw.cameraCode_sav {h : Hw} (hears : h.camHears = true) (f v : Bool) (px : List Nat) (behind : Bool) :
    h.cameraCode (xyCode f v false) px behind = h.modCam fun c => { c with sav := !v, f := f } := by
  rw [Hw.cameraCode, hears, xyDecode_xyCode]
  rfl

/-- An EAV that ends no active line and begins no vertical blanking. -/
theorem Hw.cameraCode_eav {h : Hw} (hears : h.camHears = true) (hsav : h.cam.sav = false) (f : Bool) {v : Bool}
    (hv : v = false ∨ h.cam.v = true) (px : List Nat) (behind : Bool) : h.cameraCode (xyCode f v true) px behind =
      h.modCam fun c => { c with f := f, v := v, hcorr := h.rdB F.CAM_IFCFG_HCORR } := by
  have hblank : (v && !h.cam.v) = false := by
    rcases hv with hv | hv <;> simp [hv]
  rw [Hw.cameraCode, hears, xyDecode_xyCode]
  simp only [Bool.not_true, Bool.false_eq_true, if_false, if_true, Hw.modCam_cam, hsav, hblank, Bool.false_and]
  rfl

/-! ## A capture dropped or completed (10 R361) -/

theorem regReset_camEvt : regReset bCAM = 0#32 := by decide +kernel

theorem Hw.settled_captureDrop (h : Hw) : (h.modCam fun c => { c with active := false, written := 0 }).Settled h.captureDrop :=
  .trans (settled_inc _ _ _ _) (settled_raiseBit _ _ _)

theorem Hw.reg_captureDrop_other (h : Hw) {a : Nat} (ha : a ∉ [0x04110000, 0x04110008, 0x04110080]) :
    h.captureDrop.reg a = h.reg a := by
  simp only [List.mem_cons, List.not_mem_nil, or_false, not_or] at ha
  obtain ⟨hevt, hevtcnt, hdrops⟩ := ha
  rw [Hw.captureDrop, Hw.reg_raiseBit_other _ _ _ hevt hevtcnt, Hw.reg_inc_other _ _ _ _ hdrops]
  rfl

/-- A drop is counted and sets its event. -/
theorem Hw.rd_captureDrop (h : Hw) : h.captureDrop.rd F.CAM_CCNT_DROPS = min 65535 (h.rd F.CAM_CCNT_DROPS + 1) ∧
    bit (h.captureDrop.rd (evtF bCAM)) 1 = true := by
  refine ⟨?_, Hw.bit_evt_raiseBit _ regReset_camEvt (by omega)⟩
  rw [Hw.captureDrop, Hw.rd_raiseBit_other _ _ _ _ _ (by decide) (by decide)]
  exact Hw.rd_inc_one _ F.CAM_CCNT_DROPS 0 (by decide) (by decide) (by decide +kernel)

theorem Hw.bit_evt_captureDrop_of_set (h : Hw) {j : Nat} (hj : bit (h.rd (evtF bCAM)) j = true) :
    bit (h.captureDrop.rd (evtF bCAM)) j = true := by
  refine Hw.bit_evt_raiseBit_of_set _ _ regReset_camEvt ?_
  rw [Hw.rd, Hw.reg_inc_other _ _ _ _ (by decide)]
  exact hj

/-- The camera's record as a captured frame completes in buffer `b` of `n`. -/
def Cam.completed (c : Cam) (b n : Nat) : Cam :=
  { c with active := false, written := 0, serial := c.serial + 1
           full := (b, c.serial + 1) :: c.full.filter (fun f => f.1 ≠ b), turn := if n ≤ b + 1 then 0 else b + 1 }

/-- A captured frame whose last line is written is complete. -/
theorem Hw.captureComplete_of_written {h : Hw} (hon : h.on 30 = true) (hact : h.cam.active = true)
    (hall : h.cam.written = h.cma 0x78 27 16) : h.captureComplete =
      ((((h.modCam (·.completed (h.rd F.CAM_CSTAT_WRITING) h.camBufs)).wr F.CAM_CSTAT_NEWEST (h.rd F.CAM_CSTAT_WRITING)).inc
        F.CAM_CCNT_FRAMES).raiseBit bCAM 0) := by
  rw [Hw.captureComplete, if_pos (by simp [hon, hact, hall])]
  rfl

theorem Hw.captureComplete_of_idle {h : Hw} (hidle : h.cam.active = false ∨ h.on 30 = false) : h.captureComplete = h := by
  rw [Hw.captureComplete, if_neg (by rcases hidle with hidle | hidle <;> simp [hidle])]

/-- What CAPTURE_FRAME_COMPLETE leaves of a frame that is complete. NEWEST is asked of the device before put-off increments are
applied (`Hw.exists_settleCi_of_wr`). -/
theorem captureFrameComplete_of_written {s : State} (hon : s.hw.on 30 = true) (hact : s.hw.cam.active = true)
    (hall : s.hw.cam.written = s.hw.cma 0x78 27 16) : Leaves .captureFrameComplete s fun g => g.cam.active = false ∧
      g.rd F.CAM_CSTAT_NEWEST = s.hw.rd F.CAM_CSTAT_WRITING ∧ (s.hw.rd F.CAM_CSTAT_WRITING, s.hw.cam.serial + 1) ∈ g.cam.full ∧
      bit (g.rd (evtF bCAM)) 0 = true ∧ g.mem = s.hw.mem := by
  obtain ⟨c, hc⟩ : ∃ c, c = s.hw.modCam (·.completed (s.hw.rd F.CAM_CSTAT_WRITING) s.hw.camBufs) := ⟨_, rfl⟩
  obtain ⟨x, hx⟩ : ∃ x, x = ((c.wr F.CAM_CSTAT_NEWEST (s.hw.rd F.CAM_CSTAT_WRITING)).inc F.CAM_CCNT_FRAMES).raiseBit bCAM 0 :=
    ⟨_, rfl⟩
  have hstep : s.hw.captureComplete = x := by rw [Hw.captureComplete_of_written hon hact hall, hx, hc]
  have hsame : c.Settled x := hx ▸ .trans (.trans (Hw.settled_wr _ _ _ _) (Hw.settled_inc _ _ _ _)) (Hw.settled_raiseBit _ _ _)
  have hnewest : x.reg (F.CAM_CSTAT_NEWEST.addr 0) =
      (c.wr F.CAM_CSTAT_NEWEST (s.hw.rd F.CAM_CSTAT_WRITING)).reg (F.CAM_CSTAT_NEWEST.addr 0) := by
    rw [hx, Hw.reg_raiseBit_other _ _ _ (by decide) (by decide), Hw.reg_inc_other _ _ _ _ (by decide)]
  have hfits : s.hw.rd F.CAM_CSTAT_WRITING < 2 ^ (5 + 1 - 4) := getBits_lt _ 9 8
  obtain ⟨g, hend, hg, hxg, hregs⟩ := Hw.exists_settleCi_of_wr F.CAM_CSTAT_NEWEST (by decide) (by decide) (by decide) hfits
    hnewest
  have hcam : g.cam = s.hw.cam.completed (s.hw.rd F.CAM_CSTAT_WRITING) s.hw.camBufs := by rw [hxg.cam, hsame.cam, hc]; rfl
  refine leaves_of_settleCi (f := Hw.captureComplete) rfl (hend.trans (by rw [hstep])) ⟨by rw [hcam]; rfl, hg, ?_, ?_, ?_⟩
  · rw [hcam]
    exact List.mem_cons_self
  · rw [Hw.rd, hregs _ (by decide), hx]
    exact Hw.bit_evt_raiseBit _ regReset_camEvt (by omega)
  · rw [hxg.mem, hsame.mem, hc]
    rfl

/-! ## Lock (18 R634) -/

/-- LOCK is cleared, and its loss sets its event. -/
def Hw.camLockLost (h : Hw) : Hw := (h.wr F.CAM_IFSTAT_LOCK 0).raiseBit bCAM 6

theorem Hw.cam_camLockLost (h : Hw) : h.camLockLost.cam = h.cam := (settled_raiseBit _ _ _).cam

theorem Hw.reg_camLockLost_other (h : Hw) {a : Nat} (ha : a ∉ [0x04110000, 0x04110008]) :
    h.camLockLost.reg a = (h.wr F.CAM_IFSTAT_LOCK 0).reg a := by
  simp only [List.mem_cons, List.not_mem_nil, or_false, not_or] at ha
  exact Hw.reg_raiseBit_other _ _ _ ha.1 ha.2

theorem Hw.bit_evt_camLockLost (h : Hw) : bit (h.camLockLost.rd (evtF bCAM)) 6 = true :=
  Hw.bit_evt_raiseBit _ regReset_camEvt (by omega)

theorem Hw.camUnlock_of_unlocked {h : Hw} (hlock : h.rdB F.CAM_IFSTAT_LOCK = false) : h.camUnlock = h := by
  rw [Hw.camUnlock, hlock]
  rfl

/-- Loss of lock drops the capture in progress. -/
theorem Hw.camUnlock_of_locked {h : Hw} (hlock : h.rdB F.CAM_IFSTAT_LOCK = true) :
    h.camUnlock = if h.cam.active then h.camLockLost.captureDrop else h.camLockLost := by
  rw [← h.cam_camLockLost, Hw.camUnlock, hlock]
  rfl

/-- What the loss of lock leaves, beside LOCK itself, whose register reads as the write of 0 leaves it. -/
theorem Hw.camUnlock_spec {h : Hw} (hlock : h.rdB F.CAM_IFSTAT_LOCK = true) :
    h.camUnlock.reg 0x04110104 = (h.wr F.CAM_IFSTAT_LOCK 0).reg 0x04110104 ∧ h.camUnlock.cam.active = false ∧
      bit (h.camUnlock.rd (evtF bCAM)) 6 = true ∧ (h.cam.active = true → bit (h.camUnlock.rd (evtF bCAM)) 1 = true ∧
        h.camUnlock.rd F.CAM_CCNT_DROPS = min 65535 (h.rd F.CAM_CCNT_DROPS + 1)) := by
  have hstat : h.camLockLost.reg 0x04110104 = (h.wr F.CAM_IFSTAT_LOCK 0).reg 0x04110104 := h.reg_camLockLost_other (by decide)
  rw [Hw.camUnlock_of_locked hlock]
  cases hact : h.cam.active with
  | false =>
    rw [if_neg Bool.false_ne_true, h.cam_camLockLost]
    exact ⟨hstat, hact, h.bit_evt_camLockLost, fun hc => absurd hc Bool.false_ne_true⟩
  | true =>
    rw [if_pos rfl]
    have hdrops : h.camLockLost.rd F.CAM_CCNT_DROPS = h.rd F.CAM_CCNT_DROPS := by
      rw [Hw.rd, h.reg_camLockLost_other (by decide), h.reg_wr_other _ _ _ (by decide), Hw.rd]
    obtain ⟨hcount, hevent⟩ := h.camLockLost.rd_captureDrop
    rw [hdrops] at hcount
    refine ⟨(h.camLockLost.reg_captureDrop_other (by decide)).trans hstat, ?_,
      h.camLockLost.bit_evt_captureDrop_of_set h.bit_evt_camLockLost, fun _ => ⟨hevent, hcount⟩⟩
    rw [h.camLockLost.settled_captureDrop.cam]
    rfl

/-- CAMERA_EAV_TIMEOUT at an interface that is locked. -/
theorem cameraEavTimeout_of_locked {s : State} (hears : s.hw.camHears = true) (hlock : s.hw.rdB F.CAM_IFSTAT_LOCK = true) :
    Leaves .cameraEavTimeout s fun g => g.rd F.CAM_IFSTAT_LOCK = 0 ∧ g.cam.active = false ∧ bit (g.rd (evtF bCAM)) 6 = true ∧
      (s.hw.cam.active = true → bit (g.rd (evtF bCAM)) 1 = true ∧
        g.rd F.CAM_CCNT_DROPS = min 65535 (s.hw.rd F.CAM_CCNT_DROPS + 1)) := by
  obtain ⟨hstat, hact, hlost, hdrop⟩ := Hw.camUnlock_spec hlock
  obtain ⟨g, hend, hg, hsame, hregs⟩ := Hw.exists_settleCi_of_wr F.CAM_IFSTAT_LOCK (by decide) (by decide) (by decide)
    (by decide) hstat
  have hrd : ∀ f : FieldRef, f.addr 0 ≠ 0x04110104 → g.rd f = s.hw.camUnlock.rd f := fun f hf => by rw [Hw.rd, hregs _ hf, Hw.rd]
  refine leaves_of_settleCi (f := fun h => if h.camHears then h.camUnlock else h) rfl (by rw [if_pos hears, hend]) ⟨hg, ?_⟩
  rw [hsame.cam, hrd _ (by decide), hrd _ (by decide)]
  exact ⟨hact, hlost, hdrop⟩

/-! ## The fill colour (10 R363) -/

theorem Hw.camStale_of_not {h : Hw} (hnot : h.on 30 = false ∨ h.camFill = false ∨ h.cam.filled = true) : h.camStale = h := by
  rw [Hw.camStale, if_neg (by rcases hnot with hnot | hnot | hnot <;> simp [hnot])]

theorem Hw.camStale_of_fill {h : Hw} (hon : h.on 30 = true) (hen : h.cma 0x60 31 31 = 1) (hfill : h.camFill = true)
    (hfirst : h.cam.filled = false) : h.camStale = (h.modCam fun c => { c with filled := true }).raiseBit bCAM 2 := by
  rw [Hw.camStale, if_pos (by simp [hon, hen, hfill, hfirst])]

/-! ## The rows -/

/-- Settles O49, clause by clause from the rules above. -/
theorem camera : Obligations.Camera := by
  unfold Obligations.Camera
  intro s f v b px xy h on drop
  have hears_iff : h.camHears = true ↔ on := h.camHears_iff
  have code : ∀ {xy : Byte} {g}, h.cameraCode xy.toNat px b = g → Does (.cameraTimingCode xy px b) s g :=
    does_of_onHw (f := fun h => h.cameraCode _ px b) rfl
  refine ⟨?deaf, ?sav, ?error, ?eav, ?unlocked, ?locked, ?idle, ?complete, ?noFill, ?fill⟩
  case deaf =>
    intro hoff
    have hdeaf : h.camHears = false := Bool.eq_false_iff.2 (mt hears_iff.1 hoff)
    exact ⟨code (Hw.cameraCode_of_deaf hdeaf _ _ _), does_of_onHw rfl (if_neg (mt hears_iff.1 hoff))⟩
  case sav =>
    intro hon
    refine code ?_
    rw [toNat_xyCode]
    exact Hw.cameraCode_sav (hears_iff.2 hon) f v px b
  case error =>
    intro hon hxy hcorr
    refine code (Hw.cameraCode_of_none (hears_iff.2 hon) ?_ px b)
    rw [hcorr]
    exact xyDecode_of_notMem hxy
  case eav =>
    intro hon hsav hv
    refine code ?_
    rw [toNat_xyCode]
    exact Hw.cameraCode_eav (hears_iff.2 hon) hsav f hv px b
  case unlocked =>
    exact fun hon hlock => does_of_onHw rfl ((if_pos (hears_iff.2 hon)).trans (Hw.camUnlock_of_unlocked hlock))
  case locked => exact fun hon hlock => cameraEavTimeout_of_locked (hears_iff.2 hon) hlock
  case idle => exact fun hidle => does_of_onHw (f := Hw.captureComplete) rfl (Hw.captureComplete_of_idle hidle)
  case complete => exact fun hon hact hall => captureFrameComplete_of_written hon hact hall
  case noFill => exact fun hnot => does_of_onHw (f := Hw.camStale) rfl (Hw.camStale_of_not hnot)
  case fill =>
    exact fun hon hen hfill hfirst => does_of_onHw (f := Hw.camStale) rfl (Hw.camStale_of_fill hon hen hfill hfirst)

end Sys2Proof.Machine
end
